-- ==== Sys2Proof/Word.lean ====
section
/-! DEFINITION. The word types of the Godson-2E (00_scope.md R8, R15). -/

namespace Sys2Proof

/-- A general register, a virtual address, a doubleword: 64 bits (00_scope.md R8). -/
abbrev Word := BitVec 64

/-- A word of the manual: 32 bits (00_scope.md R15). -/
abbrev Word32 := BitVec 32

/-- A physical address: 40 bits (00_scope.md R8, PABITS). -/
abbrev PAddr := BitVec 40

/-- A byte of memory. -/
abbrev Byte := BitVec 8

/-- A register number field: 5 bits (30_encoding.md R202). -/
abbrev RegNum := BitVec 5

end Sys2Proof
end

