-- ==== Sys2Proof/Syntax.lean ====
section
/-! DEFINITION. The instructions: one constructor per row of spec/opcode_table.json, operands in the assembler order of 30_encoding.md R236. -/

namespace Sys2Proof

/-- One constructor per row of the opcode table; a field of an encoding that is no operand (a fixed zero) is not an argument.
The `.` of a mnemonic is dropped (`ADD.S` is `addS`); `BREAK` is `break_`, because `break` is a word of Lean. -/
inductive Instr where
  -- Loads, stores and SYNC: 40_loadstore.md.
  | lb (rt : RegNum) (offset : BitVec 16) (base : RegNum)
  | lbu (rt : RegNum) (offset : BitVec 16) (base : RegNum)
  | lh (rt : RegNum) (offset : BitVec 16) (base : RegNum)
  | lhu (rt : RegNum) (offset : BitVec 16) (base : RegNum)
  | lw (rt : RegNum) (offset : BitVec 16) (base : RegNum)
  | lwu (rt : RegNum) (offset : BitVec 16) (base : RegNum)
  | ld (rt : RegNum) (offset : BitVec 16) (base : RegNum)
  | lwl (rt : RegNum) (offset : BitVec 16) (base : RegNum)
  | lwr (rt : RegNum) (offset : BitVec 16) (base : RegNum)
  | ldl (rt : RegNum) (offset : BitVec 16) (base : RegNum)
  | ldr (rt : RegNum) (offset : BitVec 16) (base : RegNum)
  | ll (rt : RegNum) (offset : BitVec 16) (base : RegNum)
  | lld (rt : RegNum) (offset : BitVec 16) (base : RegNum)
  | sb (rt : RegNum) (offset : BitVec 16) (base : RegNum)
  | sh (rt : RegNum) (offset : BitVec 16) (base : RegNum)
  | sw (rt : RegNum) (offset : BitVec 16) (base : RegNum)
  | sd (rt : RegNum) (offset : BitVec 16) (base : RegNum)
  | swl (rt : RegNum) (offset : BitVec 16) (base : RegNum)
  | swr (rt : RegNum) (offset : BitVec 16) (base : RegNum)
  | sdl (rt : RegNum) (offset : BitVec 16) (base : RegNum)
  | sdr (rt : RegNum) (offset : BitVec 16) (base : RegNum)
  | sc (rt : RegNum) (offset : BitVec 16) (base : RegNum)
  | scd (rt : RegNum) (offset : BitVec 16) (base : RegNum)
  | sync
  -- Integer arithmetic and logic: 41_alu.md.
  | addi (rt rs : RegNum) (imm : BitVec 16)
  | daddi (rt rs : RegNum) (imm : BitVec 16)
  | addiu (rt rs : RegNum) (imm : BitVec 16)
  | daddiu (rt rs : RegNum) (imm : BitVec 16)
  | slti (rt rs : RegNum) (imm : BitVec 16)
  | sltiu (rt rs : RegNum) (imm : BitVec 16)
  | andi (rt rs : RegNum) (imm : BitVec 16)
  | ori (rt rs : RegNum) (imm : BitVec 16)
  | xori (rt rs : RegNum) (imm : BitVec 16)
  | lui (rt : RegNum) (imm : BitVec 16)
  | add (rd rs rt : RegNum)
  | dadd (rd rs rt : RegNum)
  | addu (rd rs rt : RegNum)
  | daddu (rd rs rt : RegNum)
  | sub (rd rs rt : RegNum)
  | dsub (rd rs rt : RegNum)
  | subu (rd rs rt : RegNum)
  | dsubu (rd rs rt : RegNum)
  | slt (rd rs rt : RegNum)
  | sltu (rd rs rt : RegNum)
  | and (rd rs rt : RegNum)
  | or (rd rs rt : RegNum)
  | xor (rd rs rt : RegNum)
  | nor (rd rs rt : RegNum)
  -- Multiply, divide and the Godson2 forms: 42_muldiv.md.
  | mult (rs rt : RegNum)
  | dmult (rs rt : RegNum)
  | multu (rs rt : RegNum)
  | dmultu (rs rt : RegNum)
  | div (rs rt : RegNum)
  | ddiv (rs rt : RegNum)
  | divu (rs rt : RegNum)
  | ddivu (rs rt : RegNum)
  | mfhi (rd : RegNum)
  | mthi (rs : RegNum)
  | mflo (rd : RegNum)
  | mtlo (rs : RegNum)
  | multG (rd rs rt : RegNum)
  | multuG (rd rs rt : RegNum)
  | dmultG (rd rs rt : RegNum)
  | dmultuG (rd rs rt : RegNum)
  | divG (rd rs rt : RegNum)
  | divuG (rd rs rt : RegNum)
  | ddivG (rd rs rt : RegNum)
  | ddivuG (rd rs rt : RegNum)
  | modG (rd rs rt : RegNum)
  | moduG (rd rs rt : RegNum)
  | dmodG (rd rs rt : RegNum)
  | dmoduG (rd rs rt : RegNum)
  -- Jumps and branches: 43_branch.md.
  | j (target : BitVec 26)
  | jal (target : BitVec 26)
  | jalr (rd rs : RegNum)
  | jr (rs : RegNum)
  | beq (rs rt : RegNum) (offset : BitVec 16)
  | bne (rs rt : RegNum) (offset : BitVec 16)
  | blez (rs : RegNum) (offset : BitVec 16)
  | bgtz (rs : RegNum) (offset : BitVec 16)
  | bltz (rs : RegNum) (offset : BitVec 16)
  | bgez (rs : RegNum) (offset : BitVec 16)
  | bltzal (rs : RegNum) (offset : BitVec 16)
  | bgezal (rs : RegNum) (offset : BitVec 16)
  | beql (rs rt : RegNum) (offset : BitVec 16)
  | bnel (rs rt : RegNum) (offset : BitVec 16)
  | blezl (rs : RegNum) (offset : BitVec 16)
  | bgtzl (rs : RegNum) (offset : BitVec 16)
  | bltzl (rs : RegNum) (offset : BitVec 16)
  | bgezl (rs : RegNum) (offset : BitVec 16)
  | bltzall (rs : RegNum) (offset : BitVec 16)
  | bgezall (rs : RegNum) (offset : BitVec 16)
  -- Shifts: 44_shift.md.
  | sll (rd rt : RegNum) (sa : BitVec 5)
  | srl (rd rt : RegNum) (sa : BitVec 5)
  | sra (rd rt : RegNum) (sa : BitVec 5)
  | sllv (rd rt rs : RegNum)
  | srlv (rd rt rs : RegNum)
  | srav (rd rt rs : RegNum)
  | dsll (rd rt : RegNum) (sa : BitVec 5)
  | dsrl (rd rt : RegNum) (sa : BitVec 5)
  | dsra (rd rt : RegNum) (sa : BitVec 5)
  | dsllv (rd rt rs : RegNum)
  | dsrlv (rd rt rs : RegNum)
  | dsrav (rd rt rs : RegNum)
  | dsll32 (rd rt : RegNum) (sa : BitVec 5)
  | dsrl32 (rd rt : RegNum) (sa : BitVec 5)
  | dsra32 (rd rt : RegNum) (sa : BitVec 5)
  -- SYSCALL, BREAK and traps: 45_special_trap.md.
  | syscall (code : BitVec 20)
  | break_ (code : BitVec 20)
  | tge (rs rt : RegNum) (code : BitVec 10)
  | tgeu (rs rt : RegNum) (code : BitVec 10)
  | tlt (rs rt : RegNum) (code : BitVec 10)
  | tltu (rs rt : RegNum) (code : BitVec 10)
  | teq (rs rt : RegNum) (code : BitVec 10)
  | tne (rs rt : RegNum) (code : BitVec 10)
  | tgei (rs : RegNum) (imm : BitVec 16)
  | tgeiu (rs : RegNum) (imm : BitVec 16)
  | tlti (rs : RegNum) (imm : BitVec 16)
  | tltiu (rs : RegNum) (imm : BitVec 16)
  | teqi (rs : RegNum) (imm : BitVec 16)
  | tnei (rs : RegNum) (imm : BitVec 16)
  -- CP0, TLB, ERET and CACHE: 46_cp0.md.
  | mfc0 (rt rd : RegNum)
  | mtc0 (rt rd : RegNum)
  | dmfc0 (rt rd : RegNum)
  | dmtc0 (rt rd : RegNum)
  | tlbp
  | tlbr
  | tlbwi
  | tlbwr
  | eret
  | cache (op : BitVec 5) (offset : BitVec 16) (base : RegNum)
  -- FPU moves, loads, branches and compares: 47_fpu_move_branch.md.
  | mfc1 (rt fs : RegNum)
  | mtc1 (rt fs : RegNum)
  | dmfc1 (rt fs : RegNum)
  | dmtc1 (rt fs : RegNum)
  | cfc1 (rt fs : RegNum)
  | ctc1 (rt fs : RegNum)
  | lwc1 (ft : RegNum) (offset : BitVec 16) (base : RegNum)
  | ldc1 (ft : RegNum) (offset : BitVec 16) (base : RegNum)
  | swc1 (ft : RegNum) (offset : BitVec 16) (base : RegNum)
  | sdc1 (ft : RegNum) (offset : BitVec 16) (base : RegNum)
  | bc1f (offset : BitVec 16)
  | bc1t (offset : BitVec 16)
  | bc1fl (offset : BitVec 16)
  | bc1tl (offset : BitVec 16)
  | movS (fd fs : RegNum)
  | movD (fd fs : RegNum)
  | movPs (fd fs : RegNum)
  | cFS (fs ft : RegNum)
  | cFD (fs ft : RegNum)
  | cFPs (fs ft : RegNum)
  | cUnS (fs ft : RegNum)
  | cUnD (fs ft : RegNum)
  | cUnPs (fs ft : RegNum)
  | cEqS (fs ft : RegNum)
  | cEqD (fs ft : RegNum)
  | cEqPs (fs ft : RegNum)
  | cUeqS (fs ft : RegNum)
  | cUeqD (fs ft : RegNum)
  | cUeqPs (fs ft : RegNum)
  | cOltS (fs ft : RegNum)
  | cOltD (fs ft : RegNum)
  | cOltPs (fs ft : RegNum)
  | cUltS (fs ft : RegNum)
  | cUltD (fs ft : RegNum)
  | cUltPs (fs ft : RegNum)
  | cOleS (fs ft : RegNum)
  | cOleD (fs ft : RegNum)
  | cOlePs (fs ft : RegNum)
  | cUleS (fs ft : RegNum)
  | cUleD (fs ft : RegNum)
  | cUlePs (fs ft : RegNum)
  | cSfS (fs ft : RegNum)
  | cSfD (fs ft : RegNum)
  | cSfPs (fs ft : RegNum)
  | cNgleS (fs ft : RegNum)
  | cNgleD (fs ft : RegNum)
  | cNglePs (fs ft : RegNum)
  | cSeqS (fs ft : RegNum)
  | cSeqD (fs ft : RegNum)
  | cSeqPs (fs ft : RegNum)
  | cNglS (fs ft : RegNum)
  | cNglD (fs ft : RegNum)
  | cNglPs (fs ft : RegNum)
  | cLtS (fs ft : RegNum)
  | cLtD (fs ft : RegNum)
  | cLtPs (fs ft : RegNum)
  | cNgeS (fs ft : RegNum)
  | cNgeD (fs ft : RegNum)
  | cNgePs (fs ft : RegNum)
  | cLeS (fs ft : RegNum)
  | cLeD (fs ft : RegNum)
  | cLePs (fs ft : RegNum)
  | cNgtS (fs ft : RegNum)
  | cNgtD (fs ft : RegNum)
  | cNgtPs (fs ft : RegNum)
  -- FPU arithmetic and conversions: 48_fpu_arith.md.
  | addS (fd fs ft : RegNum)
  | addD (fd fs ft : RegNum)
  | addPs (fd fs ft : RegNum)
  | subS (fd fs ft : RegNum)
  | subD (fd fs ft : RegNum)
  | subPs (fd fs ft : RegNum)
  | mulS (fd fs ft : RegNum)
  | mulD (fd fs ft : RegNum)
  | mulPs (fd fs ft : RegNum)
  | divS (fd fs ft : RegNum)
  | divD (fd fs ft : RegNum)
  | sqrtS (fd fs : RegNum)
  | sqrtD (fd fs : RegNum)
  | absS (fd fs : RegNum)
  | absD (fd fs : RegNum)
  | absPs (fd fs : RegNum)
  | negS (fd fs : RegNum)
  | negD (fd fs : RegNum)
  | negPs (fd fs : RegNum)
  | roundLS (fd fs : RegNum)
  | roundLD (fd fs : RegNum)
  | truncLS (fd fs : RegNum)
  | truncLD (fd fs : RegNum)
  | ceilLS (fd fs : RegNum)
  | ceilLD (fd fs : RegNum)
  | floorLS (fd fs : RegNum)
  | floorLD (fd fs : RegNum)
  | roundWS (fd fs : RegNum)
  | roundWD (fd fs : RegNum)
  | truncWS (fd fs : RegNum)
  | truncWD (fd fs : RegNum)
  | ceilWS (fd fs : RegNum)
  | ceilWD (fd fs : RegNum)
  | floorWS (fd fs : RegNum)
  | floorWD (fd fs : RegNum)
  | cvtSD (fd fs : RegNum)
  | cvtSW (fd fs : RegNum)
  | cvtSL (fd fs : RegNum)
  | cvtDS (fd fs : RegNum)
  | cvtDW (fd fs : RegNum)
  | cvtDL (fd fs : RegNum)
  | cvtWS (fd fs : RegNum)
  | cvtWD (fd fs : RegNum)
  | cvtLS (fd fs : RegNum)
  | cvtLD (fd fs : RegNum)
  | maddS (fd fs ft : RegNum)
  | maddD (fd fs ft : RegNum)
  | maddPs (fd fs ft : RegNum)
  | msubS (fd fs ft : RegNum)
  | msubD (fd fs ft : RegNum)
  | msubPs (fd fs ft : RegNum)
  | nmaddS (fd fs ft : RegNum)
  | nmaddD (fd fs ft : RegNum)
  | nmaddPs (fd fs ft : RegNum)
  | nmsubS (fd fs ft : RegNum)
  | nmsubD (fd fs ft : RegNum)
  | nmsubPs (fd fs ft : RegNum)
deriving DecidableEq, Repr

end Sys2Proof
end

