-- ==== Sys2Proof/Decode.lean ====
section
/-! DEFINITION. Decoding and encoding: 30_encoding.md. The decoder is total; every word that is no instruction of the table is answered by name.

The section below is marked noncomputable for one reason: Lean's compiler cannot build constructors beyond the 245th of
an inductive type; the kernel evaluates these definitions like any other. -/

namespace Sys2Proof

/-- Why the decoder gives a word no meaning: words for which the spec assigns no behaviour (00_scope.md R14). -/
inductive DecodeRefusal where
  /-- A non-zero bit in a field that a listed instruction fixes at zero (30_encoding.md R204, R234; U5). -/
  | mustBeZero
  /-- MOVZ or MOVN, whose existence is disputed (30_encoding.md R211; U17). -/
  | conditionalMove
  /-- A function of opcode 011111 other than the twelve of Appendix A (30_encoding.md R216; U18). -/
  | godson2Function
deriving DecidableEq, Repr

/-- What a word is. -/
inductive Decoded where
  /-- An instruction of the opcode table. -/
  | instr (i : Instr)
  /-- A reserved encoding: Reserved Instruction exception (30_encoding.md R230). -/
  | reserved
  /-- A COP0 word outside the listed ones (30_encoding.md R213, R231). -/
  | cop0Other
  /-- A COP1 word outside the listed ones (30_encoding.md R232, R233). -/
  | cop1Other
  /-- A word of the coprocessor 2 class (45_special_trap.md R446). -/
  | cop2
  /-- A word to which the spec assigns no behaviour. -/
  | refused (r : DecodeRefusal)
deriving DecidableEq, Repr

/-! ## Fields (30_encoding.md R201, R202) -/

/-- Primary opcode, bits 31:26. -/
def opOf (w : Word32) : BitVec 6 := w.extractLsb' 26 6
/-- Bits 25:21: rs, base or fmt. -/
def rsOf (w : Word32) : BitVec 5 := w.extractLsb' 21 5
/-- Bits 20:16: rt, ft or the REGIMM selector. -/
def rtOf (w : Word32) : BitVec 5 := w.extractLsb' 16 5
/-- Bits 15:11: rd or fs. -/
def rdOf (w : Word32) : BitVec 5 := w.extractLsb' 11 5
/-- Bits 10:6: sa or fd. -/
def saOf (w : Word32) : BitVec 5 := w.extractLsb' 6 5
/-- Function, bits 5:0. -/
def functOf (w : Word32) : BitVec 6 := w.extractLsb' 0 6
/-- Immediate or offset, bits 15:0. -/
def immOf (w : Word32) : BitVec 16 := w.extractLsb' 0 16
/-- Jump target, bits 25:0. -/
def targetOf (w : Word32) : BitVec 26 := w.extractLsb' 0 26
/-- Code of SYSCALL and BREAK, bits 25:6. -/
def codeOf (w : Word32) : BitVec 20 := w.extractLsb' 6 20
/-- Code of the register traps, bits 15:6. -/
def trapCodeOf (w : Word32) : BitVec 10 := w.extractLsb' 6 10

/-- The answer `d` where every field of the list is zero, `other` where one is not. -/
def whenZero (fields : List (BitVec 5)) (other d : Decoded) : Decoded :=
  match fields with
  | [] => d
  | f :: fs => if f.toNat = 0 then whenZero fs other d else other

/-! ## The opcode maps -/

noncomputable section

/-- SPECIAL, by function (30_encoding.md R211). Function 000001 is a reserved instruction as R211, R230 and U43 say. 00_scope.md R6 (b)
has MOVF and MOVT refused and gives no word of theirs; that it does not mean this word, which the spec names nowhere, is the model's
choice (DESIGN CHOICE, entry 28). -/
def decodeSpecial (w : Word32) : Decoded :=
  match (functOf w).toNat with
  | 10 => .refused .conditionalMove
  | 11 => .refused .conditionalMove
  | 0 => whenZero [rsOf w] (.refused .mustBeZero) (.instr (.sll (rdOf w) (rtOf w) (saOf w)))
  | 2 => whenZero [rsOf w] (.refused .mustBeZero) (.instr (.srl (rdOf w) (rtOf w) (saOf w)))
  | 3 => whenZero [rsOf w] (.refused .mustBeZero) (.instr (.sra (rdOf w) (rtOf w) (saOf w)))
  | 4 => whenZero [saOf w] (.refused .mustBeZero) (.instr (.sllv (rdOf w) (rtOf w) (rsOf w)))
  | 6 => whenZero [saOf w] (.refused .mustBeZero) (.instr (.srlv (rdOf w) (rtOf w) (rsOf w)))
  | 7 => whenZero [saOf w] (.refused .mustBeZero) (.instr (.srav (rdOf w) (rtOf w) (rsOf w)))
  | 8 => whenZero [rtOf w, rdOf w, saOf w] (.refused .mustBeZero) (.instr (.jr (rsOf w)))
  | 9 => whenZero [rtOf w, saOf w] (.refused .mustBeZero) (.instr (.jalr (rdOf w) (rsOf w)))
  | 12 => .instr (.syscall (codeOf w))
  | 13 => .instr (.break_ (codeOf w))
  | 15 => whenZero [rsOf w, rtOf w, rdOf w, saOf w] (.refused .mustBeZero) (.instr (.sync))
  | 16 => whenZero [rsOf w, rtOf w, saOf w] (.refused .mustBeZero) (.instr (.mfhi (rdOf w)))
  | 17 => whenZero [rtOf w, rdOf w, saOf w] (.refused .mustBeZero) (.instr (.mthi (rsOf w)))
  | 18 => whenZero [rsOf w, rtOf w, saOf w] (.refused .mustBeZero) (.instr (.mflo (rdOf w)))
  | 19 => whenZero [rtOf w, rdOf w, saOf w] (.refused .mustBeZero) (.instr (.mtlo (rsOf w)))
  | 20 => whenZero [saOf w] (.refused .mustBeZero) (.instr (.dsllv (rdOf w) (rtOf w) (rsOf w)))
  | 22 => whenZero [saOf w] (.refused .mustBeZero) (.instr (.dsrlv (rdOf w) (rtOf w) (rsOf w)))
  | 23 => whenZero [saOf w] (.refused .mustBeZero) (.instr (.dsrav (rdOf w) (rtOf w) (rsOf w)))
  | 24 => whenZero [rdOf w, saOf w] (.refused .mustBeZero) (.instr (.mult (rsOf w) (rtOf w)))
  | 25 => whenZero [rdOf w, saOf w] (.refused .mustBeZero) (.instr (.multu (rsOf w) (rtOf w)))
  | 26 => whenZero [rdOf w, saOf w] (.refused .mustBeZero) (.instr (.div (rsOf w) (rtOf w)))
  | 27 => whenZero [rdOf w, saOf w] (.refused .mustBeZero) (.instr (.divu (rsOf w) (rtOf w)))
  | 28 => whenZero [rdOf w, saOf w] (.refused .mustBeZero) (.instr (.dmult (rsOf w) (rtOf w)))
  | 29 => whenZero [rdOf w, saOf w] (.refused .mustBeZero) (.instr (.dmultu (rsOf w) (rtOf w)))
  | 30 => whenZero [rdOf w, saOf w] (.refused .mustBeZero) (.instr (.ddiv (rsOf w) (rtOf w)))
  | 31 => whenZero [rdOf w, saOf w] (.refused .mustBeZero) (.instr (.ddivu (rsOf w) (rtOf w)))
  | 32 => whenZero [saOf w] (.refused .mustBeZero) (.instr (.add (rdOf w) (rsOf w) (rtOf w)))
  | 33 => whenZero [saOf w] (.refused .mustBeZero) (.instr (.addu (rdOf w) (rsOf w) (rtOf w)))
  | 34 => whenZero [saOf w] (.refused .mustBeZero) (.instr (.sub (rdOf w) (rsOf w) (rtOf w)))
  | 35 => whenZero [saOf w] (.refused .mustBeZero) (.instr (.subu (rdOf w) (rsOf w) (rtOf w)))
  | 36 => whenZero [saOf w] (.refused .mustBeZero) (.instr (.and (rdOf w) (rsOf w) (rtOf w)))
  | 37 => whenZero [saOf w] (.refused .mustBeZero) (.instr (.or (rdOf w) (rsOf w) (rtOf w)))
  | 38 => whenZero [saOf w] (.refused .mustBeZero) (.instr (.xor (rdOf w) (rsOf w) (rtOf w)))
  | 39 => whenZero [saOf w] (.refused .mustBeZero) (.instr (.nor (rdOf w) (rsOf w) (rtOf w)))
  | 42 => whenZero [saOf w] (.refused .mustBeZero) (.instr (.slt (rdOf w) (rsOf w) (rtOf w)))
  | 43 => whenZero [saOf w] (.refused .mustBeZero) (.instr (.sltu (rdOf w) (rsOf w) (rtOf w)))
  | 44 => whenZero [saOf w] (.refused .mustBeZero) (.instr (.dadd (rdOf w) (rsOf w) (rtOf w)))
  | 45 => whenZero [saOf w] (.refused .mustBeZero) (.instr (.daddu (rdOf w) (rsOf w) (rtOf w)))
  | 46 => whenZero [saOf w] (.refused .mustBeZero) (.instr (.dsub (rdOf w) (rsOf w) (rtOf w)))
  | 47 => whenZero [saOf w] (.refused .mustBeZero) (.instr (.dsubu (rdOf w) (rsOf w) (rtOf w)))
  | 48 => .instr (.tge (rsOf w) (rtOf w) (trapCodeOf w))
  | 49 => .instr (.tgeu (rsOf w) (rtOf w) (trapCodeOf w))
  | 50 => .instr (.tlt (rsOf w) (rtOf w) (trapCodeOf w))
  | 51 => .instr (.tltu (rsOf w) (rtOf w) (trapCodeOf w))
  | 52 => .instr (.teq (rsOf w) (rtOf w) (trapCodeOf w))
  | 54 => .instr (.tne (rsOf w) (rtOf w) (trapCodeOf w))
  | 56 => whenZero [rsOf w] (.refused .mustBeZero) (.instr (.dsll (rdOf w) (rtOf w) (saOf w)))
  | 58 => whenZero [rsOf w] (.refused .mustBeZero) (.instr (.dsrl (rdOf w) (rtOf w) (saOf w)))
  | 59 => whenZero [rsOf w] (.refused .mustBeZero) (.instr (.dsra (rdOf w) (rtOf w) (saOf w)))
  | 60 => whenZero [rsOf w] (.refused .mustBeZero) (.instr (.dsll32 (rdOf w) (rtOf w) (saOf w)))
  | 62 => whenZero [rsOf w] (.refused .mustBeZero) (.instr (.dsrl32 (rdOf w) (rtOf w) (saOf w)))
  | 63 => whenZero [rsOf w] (.refused .mustBeZero) (.instr (.dsra32 (rdOf w) (rtOf w) (saOf w)))
  | _ => .reserved

/-- REGIMM, by bits 20:16 (30_encoding.md R212). -/
def decodeRegimm (w : Word32) : Decoded :=
  match (rtOf w).toNat with
  | 0 => .instr (.bltz (rsOf w) (immOf w))
  | 1 => .instr (.bgez (rsOf w) (immOf w))
  | 2 => .instr (.bltzl (rsOf w) (immOf w))
  | 3 => .instr (.bgezl (rsOf w) (immOf w))
  | 8 => .instr (.tgei (rsOf w) (immOf w))
  | 9 => .instr (.tgeiu (rsOf w) (immOf w))
  | 10 => .instr (.tlti (rsOf w) (immOf w))
  | 11 => .instr (.tltiu (rsOf w) (immOf w))
  | 12 => .instr (.teqi (rsOf w) (immOf w))
  | 14 => .instr (.tnei (rsOf w) (immOf w))
  | 16 => .instr (.bltzal (rsOf w) (immOf w))
  | 17 => .instr (.bgezal (rsOf w) (immOf w))
  | 18 => .instr (.bltzall (rsOf w) (immOf w))
  | 19 => .instr (.bgezall (rsOf w) (immOf w))
  | _ => .reserved

/-- GODSON2, by function (30_encoding.md R216). -/
def decodeGodson2 (w : Word32) : Decoded :=
  match (functOf w).toNat with
  | 24 => whenZero [saOf w] (.refused .mustBeZero) (.instr (.multG (rdOf w) (rsOf w) (rtOf w)))
  | 25 => whenZero [saOf w] (.refused .mustBeZero) (.instr (.multuG (rdOf w) (rsOf w) (rtOf w)))
  | 26 => whenZero [saOf w] (.refused .mustBeZero) (.instr (.divG (rdOf w) (rsOf w) (rtOf w)))
  | 27 => whenZero [saOf w] (.refused .mustBeZero) (.instr (.divuG (rdOf w) (rsOf w) (rtOf w)))
  | 28 => whenZero [saOf w] (.refused .mustBeZero) (.instr (.dmultG (rdOf w) (rsOf w) (rtOf w)))
  | 29 => whenZero [saOf w] (.refused .mustBeZero) (.instr (.dmultuG (rdOf w) (rsOf w) (rtOf w)))
  | 30 => whenZero [saOf w] (.refused .mustBeZero) (.instr (.ddivG (rdOf w) (rsOf w) (rtOf w)))
  | 31 => whenZero [saOf w] (.refused .mustBeZero) (.instr (.ddivuG (rdOf w) (rsOf w) (rtOf w)))
  | 34 => whenZero [saOf w] (.refused .mustBeZero) (.instr (.modG (rdOf w) (rsOf w) (rtOf w)))
  | 35 => whenZero [saOf w] (.refused .mustBeZero) (.instr (.moduG (rdOf w) (rsOf w) (rtOf w)))
  | 38 => whenZero [saOf w] (.refused .mustBeZero) (.instr (.dmodG (rdOf w) (rsOf w) (rtOf w)))
  | 39 => whenZero [saOf w] (.refused .mustBeZero) (.instr (.dmoduG (rdOf w) (rsOf w) (rtOf w)))
  | _ => .refused .godson2Function

/-- COP0 with the CO bit set and bits 24:6 zero, by function (30_encoding.md R213). -/
def decodeCop0Op (w : Word32) : Decoded :=
  match (functOf w).toNat with
  | 1 => .instr (.tlbr)
  | 2 => .instr (.tlbwi)
  | 6 => .instr (.tlbwr)
  | 8 => .instr (.tlbp)
  | 24 => .instr (.eret)
  | _ => .cop0Other

/-- COP0, by bits 25:21 (30_encoding.md R203, R213). -/
def decodeCop0 (w : Word32) : Decoded :=
  match (rsOf w).toNat with
  | 0 => if (functOf w).toNat = 0 then whenZero [saOf w] .cop0Other (.instr (.mfc0 (rtOf w) (rdOf w))) else .cop0Other
  | 1 => if (functOf w).toNat = 0 then whenZero [saOf w] .cop0Other (.instr (.dmfc0 (rtOf w) (rdOf w))) else .cop0Other
  | 4 => if (functOf w).toNat = 0 then whenZero [saOf w] .cop0Other (.instr (.mtc0 (rtOf w) (rdOf w))) else .cop0Other
  | 5 => if (functOf w).toNat = 0 then whenZero [saOf w] .cop0Other (.instr (.dmtc0 (rtOf w) (rdOf w))) else .cop0Other
  | 16 => whenZero [rtOf w, rdOf w, saOf w] .cop0Other (decodeCop0Op w)
  | _ => .cop0Other

/-- COP1 arithmetic of format S, by function (30_encoding.md R222, R223). -/
def decodeCop1Single (w : Word32) : Decoded :=
  match (functOf w).toNat with
  | 0 => .instr (.addS (saOf w) (rdOf w) (rtOf w))
  | 1 => .instr (.subS (saOf w) (rdOf w) (rtOf w))
  | 2 => .instr (.mulS (saOf w) (rdOf w) (rtOf w))
  | 3 => .instr (.divS (saOf w) (rdOf w) (rtOf w))
  | 4 => whenZero [rtOf w] (.cop1Other) (.instr (.sqrtS (saOf w) (rdOf w)))
  | 5 => whenZero [rtOf w] (.cop1Other) (.instr (.absS (saOf w) (rdOf w)))
  | 6 => whenZero [rtOf w] (.cop1Other) (.instr (.movS (saOf w) (rdOf w)))
  | 7 => whenZero [rtOf w] (.cop1Other) (.instr (.negS (saOf w) (rdOf w)))
  | 8 => whenZero [rtOf w] (.cop1Other) (.instr (.roundLS (saOf w) (rdOf w)))
  | 9 => whenZero [rtOf w] (.cop1Other) (.instr (.truncLS (saOf w) (rdOf w)))
  | 10 => whenZero [rtOf w] (.cop1Other) (.instr (.ceilLS (saOf w) (rdOf w)))
  | 11 => whenZero [rtOf w] (.cop1Other) (.instr (.floorLS (saOf w) (rdOf w)))
  | 12 => whenZero [rtOf w] (.cop1Other) (.instr (.roundWS (saOf w) (rdOf w)))
  | 13 => whenZero [rtOf w] (.cop1Other) (.instr (.truncWS (saOf w) (rdOf w)))
  | 14 => whenZero [rtOf w] (.cop1Other) (.instr (.ceilWS (saOf w) (rdOf w)))
  | 15 => whenZero [rtOf w] (.cop1Other) (.instr (.floorWS (saOf w) (rdOf w)))
  | 24 => .instr (.maddS (saOf w) (rdOf w) (rtOf w))
  | 25 => .instr (.msubS (saOf w) (rdOf w) (rtOf w))
  | 26 => .instr (.nmaddS (saOf w) (rdOf w) (rtOf w))
  | 27 => .instr (.nmsubS (saOf w) (rdOf w) (rtOf w))
  | 33 => whenZero [rtOf w] (.cop1Other) (.instr (.cvtDS (saOf w) (rdOf w)))
  | 36 => whenZero [rtOf w] (.cop1Other) (.instr (.cvtWS (saOf w) (rdOf w)))
  | 37 => whenZero [rtOf w] (.cop1Other) (.instr (.cvtLS (saOf w) (rdOf w)))
  | 48 => whenZero [saOf w] (.cop1Other) (.instr (.cFS (rdOf w) (rtOf w)))
  | 49 => whenZero [saOf w] (.cop1Other) (.instr (.cUnS (rdOf w) (rtOf w)))
  | 50 => whenZero [saOf w] (.cop1Other) (.instr (.cEqS (rdOf w) (rtOf w)))
  | 51 => whenZero [saOf w] (.cop1Other) (.instr (.cUeqS (rdOf w) (rtOf w)))
  | 52 => whenZero [saOf w] (.cop1Other) (.instr (.cOltS (rdOf w) (rtOf w)))
  | 53 => whenZero [saOf w] (.cop1Other) (.instr (.cUltS (rdOf w) (rtOf w)))
  | 54 => whenZero [saOf w] (.cop1Other) (.instr (.cOleS (rdOf w) (rtOf w)))
  | 55 => whenZero [saOf w] (.cop1Other) (.instr (.cUleS (rdOf w) (rtOf w)))
  | 56 => whenZero [saOf w] (.cop1Other) (.instr (.cSfS (rdOf w) (rtOf w)))
  | 57 => whenZero [saOf w] (.cop1Other) (.instr (.cNgleS (rdOf w) (rtOf w)))
  | 58 => whenZero [saOf w] (.cop1Other) (.instr (.cSeqS (rdOf w) (rtOf w)))
  | 59 => whenZero [saOf w] (.cop1Other) (.instr (.cNglS (rdOf w) (rtOf w)))
  | 60 => whenZero [saOf w] (.cop1Other) (.instr (.cLtS (rdOf w) (rtOf w)))
  | 61 => whenZero [saOf w] (.cop1Other) (.instr (.cNgeS (rdOf w) (rtOf w)))
  | 62 => whenZero [saOf w] (.cop1Other) (.instr (.cLeS (rdOf w) (rtOf w)))
  | 63 => whenZero [saOf w] (.cop1Other) (.instr (.cNgtS (rdOf w) (rtOf w)))
  | _ => .cop1Other

/-- COP1 arithmetic of format D, by function (30_encoding.md R222, R223). -/
def decodeCop1Double (w : Word32) : Decoded :=
  match (functOf w).toNat with
  | 0 => .instr (.addD (saOf w) (rdOf w) (rtOf w))
  | 1 => .instr (.subD (saOf w) (rdOf w) (rtOf w))
  | 2 => .instr (.mulD (saOf w) (rdOf w) (rtOf w))
  | 3 => .instr (.divD (saOf w) (rdOf w) (rtOf w))
  | 4 => whenZero [rtOf w] (.cop1Other) (.instr (.sqrtD (saOf w) (rdOf w)))
  | 5 => whenZero [rtOf w] (.cop1Other) (.instr (.absD (saOf w) (rdOf w)))
  | 6 => whenZero [rtOf w] (.cop1Other) (.instr (.movD (saOf w) (rdOf w)))
  | 7 => whenZero [rtOf w] (.cop1Other) (.instr (.negD (saOf w) (rdOf w)))
  | 8 => whenZero [rtOf w] (.cop1Other) (.instr (.roundLD (saOf w) (rdOf w)))
  | 9 => whenZero [rtOf w] (.cop1Other) (.instr (.truncLD (saOf w) (rdOf w)))
  | 10 => whenZero [rtOf w] (.cop1Other) (.instr (.ceilLD (saOf w) (rdOf w)))
  | 11 => whenZero [rtOf w] (.cop1Other) (.instr (.floorLD (saOf w) (rdOf w)))
  | 12 => whenZero [rtOf w] (.cop1Other) (.instr (.roundWD (saOf w) (rdOf w)))
  | 13 => whenZero [rtOf w] (.cop1Other) (.instr (.truncWD (saOf w) (rdOf w)))
  | 14 => whenZero [rtOf w] (.cop1Other) (.instr (.ceilWD (saOf w) (rdOf w)))
  | 15 => whenZero [rtOf w] (.cop1Other) (.instr (.floorWD (saOf w) (rdOf w)))
  | 24 => .instr (.maddD (saOf w) (rdOf w) (rtOf w))
  | 25 => .instr (.msubD (saOf w) (rdOf w) (rtOf w))
  | 26 => .instr (.nmaddD (saOf w) (rdOf w) (rtOf w))
  | 27 => .instr (.nmsubD (saOf w) (rdOf w) (rtOf w))
  | 32 => whenZero [rtOf w] (.cop1Other) (.instr (.cvtSD (saOf w) (rdOf w)))
  | 36 => whenZero [rtOf w] (.cop1Other) (.instr (.cvtWD (saOf w) (rdOf w)))
  | 37 => whenZero [rtOf w] (.cop1Other) (.instr (.cvtLD (saOf w) (rdOf w)))
  | 48 => whenZero [saOf w] (.cop1Other) (.instr (.cFD (rdOf w) (rtOf w)))
  | 49 => whenZero [saOf w] (.cop1Other) (.instr (.cUnD (rdOf w) (rtOf w)))
  | 50 => whenZero [saOf w] (.cop1Other) (.instr (.cEqD (rdOf w) (rtOf w)))
  | 51 => whenZero [saOf w] (.cop1Other) (.instr (.cUeqD (rdOf w) (rtOf w)))
  | 52 => whenZero [saOf w] (.cop1Other) (.instr (.cOltD (rdOf w) (rtOf w)))
  | 53 => whenZero [saOf w] (.cop1Other) (.instr (.cUltD (rdOf w) (rtOf w)))
  | 54 => whenZero [saOf w] (.cop1Other) (.instr (.cOleD (rdOf w) (rtOf w)))
  | 55 => whenZero [saOf w] (.cop1Other) (.instr (.cUleD (rdOf w) (rtOf w)))
  | 56 => whenZero [saOf w] (.cop1Other) (.instr (.cSfD (rdOf w) (rtOf w)))
  | 57 => whenZero [saOf w] (.cop1Other) (.instr (.cNgleD (rdOf w) (rtOf w)))
  | 58 => whenZero [saOf w] (.cop1Other) (.instr (.cSeqD (rdOf w) (rtOf w)))
  | 59 => whenZero [saOf w] (.cop1Other) (.instr (.cNglD (rdOf w) (rtOf w)))
  | 60 => whenZero [saOf w] (.cop1Other) (.instr (.cLtD (rdOf w) (rtOf w)))
  | 61 => whenZero [saOf w] (.cop1Other) (.instr (.cNgeD (rdOf w) (rtOf w)))
  | 62 => whenZero [saOf w] (.cop1Other) (.instr (.cLeD (rdOf w) (rtOf w)))
  | 63 => whenZero [saOf w] (.cop1Other) (.instr (.cNgtD (rdOf w) (rtOf w)))
  | _ => .cop1Other

/-- COP1 arithmetic of format W, by function (30_encoding.md R222, R223). -/
def decodeCop1Fixed (w : Word32) : Decoded :=
  match (functOf w).toNat with
  | 32 => whenZero [rtOf w] (.cop1Other) (.instr (.cvtSW (saOf w) (rdOf w)))
  | 33 => whenZero [rtOf w] (.cop1Other) (.instr (.cvtDW (saOf w) (rdOf w)))
  | _ => .cop1Other

/-- COP1 arithmetic of format L, by function (30_encoding.md R222, R223). -/
def decodeCop1Long (w : Word32) : Decoded :=
  match (functOf w).toNat with
  | 32 => whenZero [rtOf w] (.cop1Other) (.instr (.cvtSL (saOf w) (rdOf w)))
  | 33 => whenZero [rtOf w] (.cop1Other) (.instr (.cvtDL (saOf w) (rdOf w)))
  | _ => .cop1Other

/-- COP1 arithmetic of format PS, by function (30_encoding.md R222, R223). -/
def decodeCop1PairedSingle (w : Word32) : Decoded :=
  match (functOf w).toNat with
  | 0 => .instr (.addPs (saOf w) (rdOf w) (rtOf w))
  | 1 => .instr (.subPs (saOf w) (rdOf w) (rtOf w))
  | 2 => .instr (.mulPs (saOf w) (rdOf w) (rtOf w))
  | 5 => whenZero [rtOf w] (.cop1Other) (.instr (.absPs (saOf w) (rdOf w)))
  | 6 => whenZero [rtOf w] (.cop1Other) (.instr (.movPs (saOf w) (rdOf w)))
  | 7 => whenZero [rtOf w] (.cop1Other) (.instr (.negPs (saOf w) (rdOf w)))
  | 24 => .instr (.maddPs (saOf w) (rdOf w) (rtOf w))
  | 25 => .instr (.msubPs (saOf w) (rdOf w) (rtOf w))
  | 26 => .instr (.nmaddPs (saOf w) (rdOf w) (rtOf w))
  | 27 => .instr (.nmsubPs (saOf w) (rdOf w) (rtOf w))
  | 48 => whenZero [saOf w] (.cop1Other) (.instr (.cFPs (rdOf w) (rtOf w)))
  | 49 => whenZero [saOf w] (.cop1Other) (.instr (.cUnPs (rdOf w) (rtOf w)))
  | 50 => whenZero [saOf w] (.cop1Other) (.instr (.cEqPs (rdOf w) (rtOf w)))
  | 51 => whenZero [saOf w] (.cop1Other) (.instr (.cUeqPs (rdOf w) (rtOf w)))
  | 52 => whenZero [saOf w] (.cop1Other) (.instr (.cOltPs (rdOf w) (rtOf w)))
  | 53 => whenZero [saOf w] (.cop1Other) (.instr (.cUltPs (rdOf w) (rtOf w)))
  | 54 => whenZero [saOf w] (.cop1Other) (.instr (.cOlePs (rdOf w) (rtOf w)))
  | 55 => whenZero [saOf w] (.cop1Other) (.instr (.cUlePs (rdOf w) (rtOf w)))
  | 56 => whenZero [saOf w] (.cop1Other) (.instr (.cSfPs (rdOf w) (rtOf w)))
  | 57 => whenZero [saOf w] (.cop1Other) (.instr (.cNglePs (rdOf w) (rtOf w)))
  | 58 => whenZero [saOf w] (.cop1Other) (.instr (.cSeqPs (rdOf w) (rtOf w)))
  | 59 => whenZero [saOf w] (.cop1Other) (.instr (.cNglPs (rdOf w) (rtOf w)))
  | 60 => whenZero [saOf w] (.cop1Other) (.instr (.cLtPs (rdOf w) (rtOf w)))
  | 61 => whenZero [saOf w] (.cop1Other) (.instr (.cNgePs (rdOf w) (rtOf w)))
  | 62 => whenZero [saOf w] (.cop1Other) (.instr (.cLePs (rdOf w) (rtOf w)))
  | 63 => whenZero [saOf w] (.cop1Other) (.instr (.cNgtPs (rdOf w) (rtOf w)))
  | _ => .cop1Other

/-- COP1 branches, by bits 20:16 (30_encoding.md R221, R233). -/
def decodeBc1 (w : Word32) : Decoded :=
  match (rtOf w).toNat with
  | 0 => .instr (.bc1f (immOf w))
  | 1 => .instr (.bc1t (immOf w))
  | 2 => .instr (.bc1fl (immOf w))
  | 3 => .instr (.bc1tl (immOf w))
  | _ => .cop1Other

/-- COP1, by bits 25:21 (30_encoding.md R221, R222). -/
def decodeCop1 (w : Word32) : Decoded :=
  match (rsOf w).toNat with
  | 0 => if (functOf w).toNat = 0 then whenZero [saOf w] .cop1Other (.instr (.mfc1 (rtOf w) (rdOf w))) else .cop1Other
  | 1 => if (functOf w).toNat = 0 then whenZero [saOf w] .cop1Other (.instr (.dmfc1 (rtOf w) (rdOf w))) else .cop1Other
  | 2 => if (functOf w).toNat = 0 then whenZero [saOf w] .cop1Other (.instr (.cfc1 (rtOf w) (rdOf w))) else .cop1Other
  | 4 => if (functOf w).toNat = 0 then whenZero [saOf w] .cop1Other (.instr (.mtc1 (rtOf w) (rdOf w))) else .cop1Other
  | 5 => if (functOf w).toNat = 0 then whenZero [saOf w] .cop1Other (.instr (.dmtc1 (rtOf w) (rdOf w))) else .cop1Other
  | 6 => if (functOf w).toNat = 0 then whenZero [saOf w] .cop1Other (.instr (.ctc1 (rtOf w) (rdOf w))) else .cop1Other
  | 8 => decodeBc1 w
  | 11 => decodeCop1PairedSingle w
  | 16 => decodeCop1Single w
  | 17 => decodeCop1Double w
  | 20 => decodeCop1Fixed w
  | 21 => decodeCop1Long w
  | _ => .cop1Other

/-- The decoder, by primary opcode (30_encoding.md R210). -/
def decode (w : Word32) : Decoded :=
  match (opOf w).toNat with
  | 0 => decodeSpecial w
  | 1 => decodeRegimm w
  | 16 => decodeCop0 w
  | 17 => decodeCop1 w
  | 18 => .cop2
  | 31 => decodeGodson2 w
  | 50 => .cop2
  | 54 => .cop2
  | 58 => .cop2
  | 62 => .cop2
  | 2 => .instr (.j (targetOf w))
  | 3 => .instr (.jal (targetOf w))
  | 4 => .instr (.beq (rsOf w) (rtOf w) (immOf w))
  | 5 => .instr (.bne (rsOf w) (rtOf w) (immOf w))
  | 6 => whenZero [rtOf w] (.refused .mustBeZero) (.instr (.blez (rsOf w) (immOf w)))
  | 7 => whenZero [rtOf w] (.refused .mustBeZero) (.instr (.bgtz (rsOf w) (immOf w)))
  | 8 => .instr (.addi (rtOf w) (rsOf w) (immOf w))
  | 9 => .instr (.addiu (rtOf w) (rsOf w) (immOf w))
  | 10 => .instr (.slti (rtOf w) (rsOf w) (immOf w))
  | 11 => .instr (.sltiu (rtOf w) (rsOf w) (immOf w))
  | 12 => .instr (.andi (rtOf w) (rsOf w) (immOf w))
  | 13 => .instr (.ori (rtOf w) (rsOf w) (immOf w))
  | 14 => .instr (.xori (rtOf w) (rsOf w) (immOf w))
  | 15 => whenZero [rsOf w] (.refused .mustBeZero) (.instr (.lui (rtOf w) (immOf w)))
  | 20 => .instr (.beql (rsOf w) (rtOf w) (immOf w))
  | 21 => .instr (.bnel (rsOf w) (rtOf w) (immOf w))
  | 22 => whenZero [rtOf w] (.refused .mustBeZero) (.instr (.blezl (rsOf w) (immOf w)))
  | 23 => whenZero [rtOf w] (.refused .mustBeZero) (.instr (.bgtzl (rsOf w) (immOf w)))
  | 24 => .instr (.daddi (rtOf w) (rsOf w) (immOf w))
  | 25 => .instr (.daddiu (rtOf w) (rsOf w) (immOf w))
  | 26 => .instr (.ldl (rtOf w) (immOf w) (rsOf w))
  | 27 => .instr (.ldr (rtOf w) (immOf w) (rsOf w))
  | 32 => .instr (.lb (rtOf w) (immOf w) (rsOf w))
  | 33 => .instr (.lh (rtOf w) (immOf w) (rsOf w))
  | 34 => .instr (.lwl (rtOf w) (immOf w) (rsOf w))
  | 35 => .instr (.lw (rtOf w) (immOf w) (rsOf w))
  | 36 => .instr (.lbu (rtOf w) (immOf w) (rsOf w))
  | 37 => .instr (.lhu (rtOf w) (immOf w) (rsOf w))
  | 38 => .instr (.lwr (rtOf w) (immOf w) (rsOf w))
  | 39 => .instr (.lwu (rtOf w) (immOf w) (rsOf w))
  | 40 => .instr (.sb (rtOf w) (immOf w) (rsOf w))
  | 41 => .instr (.sh (rtOf w) (immOf w) (rsOf w))
  | 42 => .instr (.swl (rtOf w) (immOf w) (rsOf w))
  | 43 => .instr (.sw (rtOf w) (immOf w) (rsOf w))
  | 44 => .instr (.sdl (rtOf w) (immOf w) (rsOf w))
  | 45 => .instr (.sdr (rtOf w) (immOf w) (rsOf w))
  | 46 => .instr (.swr (rtOf w) (immOf w) (rsOf w))
  | 47 => .instr (.cache (rtOf w) (immOf w) (rsOf w))
  | 48 => .instr (.ll (rtOf w) (immOf w) (rsOf w))
  | 49 => .instr (.lwc1 (rtOf w) (immOf w) (rsOf w))
  | 52 => .instr (.lld (rtOf w) (immOf w) (rsOf w))
  | 53 => .instr (.ldc1 (rtOf w) (immOf w) (rsOf w))
  | 55 => .instr (.ld (rtOf w) (immOf w) (rsOf w))
  | 56 => .instr (.sc (rtOf w) (immOf w) (rsOf w))
  | 57 => .instr (.swc1 (rtOf w) (immOf w) (rsOf w))
  | 60 => .instr (.scd (rtOf w) (immOf w) (rsOf w))
  | 61 => .instr (.sdc1 (rtOf w) (immOf w) (rsOf w))
  | 63 => .instr (.sd (rtOf w) (immOf w) (rsOf w))
  | _ => .reserved

/-- The four bytes of a word in memory order, little-endian (20_memory.md R131). -/
def bytesOfWord (w : Word32) : Byte × Byte × Byte × Byte :=
  (w.extractLsb' 0 8, w.extractLsb' 8 8, w.extractLsb' 16 8, w.extractLsb' 24 8)

/-- The word that four bytes in memory order hold (20_memory.md R131). -/
def wordOfBytes (b : Byte × Byte × Byte × Byte) : Word32 :=
  b.2.2.2 ++ b.2.2.1 ++ b.2.1 ++ b.1

/-- The instruction the decoder reads from the bits of an opcode-table row. -/
def decodeTableWord (nbits w : Nat) : Option Instr :=
  match decode (wordOfBytes (bytesOfWord (BitVec.ofNat 32 (w % 2 ^ nbits)))) with
  | .instr i => some i
  | _ => none

end

/-! ## The encoder -/

/-- Format I (30_encoding.md R201). -/
def iWord (op : BitVec 6) (rs rt : BitVec 5) (imm : BitVec 16) : Word32 := op ++ rs ++ rt ++ imm
/-- Format R (30_encoding.md R201). -/
def rWord (op : BitVec 6) (rs rt rd sa : BitVec 5) (funct : BitVec 6) : Word32 := op ++ rs ++ rt ++ rd ++ sa ++ funct
/-- Format J (30_encoding.md R201). -/
def jWord (op : BitVec 6) (target : BitVec 26) : Word32 := op ++ target
/-- SYSCALL and BREAK (30_encoding.md R202). -/
def codeWord (op : BitVec 6) (code : BitVec 20) (funct : BitVec 6) : Word32 := op ++ code ++ funct
/-- The register traps (30_encoding.md R202). -/
def trapWord (op : BitVec 6) (rs rt : BitVec 5) (code : BitVec 10) (funct : BitVec 6) : Word32 := op ++ rs ++ rt ++ code ++ funct

/-- The word of an instruction, from the encodings of files 40 to 48 of the spec. -/
def encode (i : Instr) : Word32 :=
  match i with
  | .lb rt offset base => iWord 32#6 base rt offset
  | .lbu rt offset base => iWord 36#6 base rt offset
  | .lh rt offset base => iWord 33#6 base rt offset
  | .lhu rt offset base => iWord 37#6 base rt offset
  | .lw rt offset base => iWord 35#6 base rt offset
  | .lwu rt offset base => iWord 39#6 base rt offset
  | .ld rt offset base => iWord 55#6 base rt offset
  | .lwl rt offset base => iWord 34#6 base rt offset
  | .lwr rt offset base => iWord 38#6 base rt offset
  | .ldl rt offset base => iWord 26#6 base rt offset
  | .ldr rt offset base => iWord 27#6 base rt offset
  | .ll rt offset base => iWord 48#6 base rt offset
  | .lld rt offset base => iWord 52#6 base rt offset
  | .sb rt offset base => iWord 40#6 base rt offset
  | .sh rt offset base => iWord 41#6 base rt offset
  | .sw rt offset base => iWord 43#6 base rt offset
  | .sd rt offset base => iWord 63#6 base rt offset
  | .swl rt offset base => iWord 42#6 base rt offset
  | .swr rt offset base => iWord 46#6 base rt offset
  | .sdl rt offset base => iWord 44#6 base rt offset
  | .sdr rt offset base => iWord 45#6 base rt offset
  | .sc rt offset base => iWord 56#6 base rt offset
  | .scd rt offset base => iWord 60#6 base rt offset
  | .sync => rWord 0#6 0#5 0#5 0#5 0#5 15#6
  | .addi rt rs imm => iWord 8#6 rs rt imm
  | .daddi rt rs imm => iWord 24#6 rs rt imm
  | .addiu rt rs imm => iWord 9#6 rs rt imm
  | .daddiu rt rs imm => iWord 25#6 rs rt imm
  | .slti rt rs imm => iWord 10#6 rs rt imm
  | .sltiu rt rs imm => iWord 11#6 rs rt imm
  | .andi rt rs imm => iWord 12#6 rs rt imm
  | .ori rt rs imm => iWord 13#6 rs rt imm
  | .xori rt rs imm => iWord 14#6 rs rt imm
  | .lui rt imm => iWord 15#6 0#5 rt imm
  | .add rd rs rt => rWord 0#6 rs rt rd 0#5 32#6
  | .dadd rd rs rt => rWord 0#6 rs rt rd 0#5 44#6
  | .addu rd rs rt => rWord 0#6 rs rt rd 0#5 33#6
  | .daddu rd rs rt => rWord 0#6 rs rt rd 0#5 45#6
  | .sub rd rs rt => rWord 0#6 rs rt rd 0#5 34#6
  | .dsub rd rs rt => rWord 0#6 rs rt rd 0#5 46#6
  | .subu rd rs rt => rWord 0#6 rs rt rd 0#5 35#6
  | .dsubu rd rs rt => rWord 0#6 rs rt rd 0#5 47#6
  | .slt rd rs rt => rWord 0#6 rs rt rd 0#5 42#6
  | .sltu rd rs rt => rWord 0#6 rs rt rd 0#5 43#6
  | .and rd rs rt => rWord 0#6 rs rt rd 0#5 36#6
  | .or rd rs rt => rWord 0#6 rs rt rd 0#5 37#6
  | .xor rd rs rt => rWord 0#6 rs rt rd 0#5 38#6
  | .nor rd rs rt => rWord 0#6 rs rt rd 0#5 39#6
  | .mult rs rt => rWord 0#6 rs rt 0#5 0#5 24#6
  | .dmult rs rt => rWord 0#6 rs rt 0#5 0#5 28#6
  | .multu rs rt => rWord 0#6 rs rt 0#5 0#5 25#6
  | .dmultu rs rt => rWord 0#6 rs rt 0#5 0#5 29#6
  | .div rs rt => rWord 0#6 rs rt 0#5 0#5 26#6
  | .ddiv rs rt => rWord 0#6 rs rt 0#5 0#5 30#6
  | .divu rs rt => rWord 0#6 rs rt 0#5 0#5 27#6
  | .ddivu rs rt => rWord 0#6 rs rt 0#5 0#5 31#6
  | .mfhi rd => rWord 0#6 0#5 0#5 rd 0#5 16#6
  | .mthi rs => rWord 0#6 rs 0#5 0#5 0#5 17#6
  | .mflo rd => rWord 0#6 0#5 0#5 rd 0#5 18#6
  | .mtlo rs => rWord 0#6 rs 0#5 0#5 0#5 19#6
  | .multG rd rs rt => rWord 31#6 rs rt rd 0#5 24#6
  | .multuG rd rs rt => rWord 31#6 rs rt rd 0#5 25#6
  | .dmultG rd rs rt => rWord 31#6 rs rt rd 0#5 28#6
  | .dmultuG rd rs rt => rWord 31#6 rs rt rd 0#5 29#6
  | .divG rd rs rt => rWord 31#6 rs rt rd 0#5 26#6
  | .divuG rd rs rt => rWord 31#6 rs rt rd 0#5 27#6
  | .ddivG rd rs rt => rWord 31#6 rs rt rd 0#5 30#6
  | .ddivuG rd rs rt => rWord 31#6 rs rt rd 0#5 31#6
  | .modG rd rs rt => rWord 31#6 rs rt rd 0#5 34#6
  | .moduG rd rs rt => rWord 31#6 rs rt rd 0#5 35#6
  | .dmodG rd rs rt => rWord 31#6 rs rt rd 0#5 38#6
  | .dmoduG rd rs rt => rWord 31#6 rs rt rd 0#5 39#6
  | .j target => jWord 2#6 target
  | .jal target => jWord 3#6 target
  | .jalr rd rs => rWord 0#6 rs 0#5 rd 0#5 9#6
  | .jr rs => rWord 0#6 rs 0#5 0#5 0#5 8#6
  | .beq rs rt offset => iWord 4#6 rs rt offset
  | .bne rs rt offset => iWord 5#6 rs rt offset
  | .blez rs offset => iWord 6#6 rs 0#5 offset
  | .bgtz rs offset => iWord 7#6 rs 0#5 offset
  | .bltz rs offset => iWord 1#6 rs 0#5 offset
  | .bgez rs offset => iWord 1#6 rs 1#5 offset
  | .bltzal rs offset => iWord 1#6 rs 16#5 offset
  | .bgezal rs offset => iWord 1#6 rs 17#5 offset
  | .beql rs rt offset => iWord 20#6 rs rt offset
  | .bnel rs rt offset => iWord 21#6 rs rt offset
  | .blezl rs offset => iWord 22#6 rs 0#5 offset
  | .bgtzl rs offset => iWord 23#6 rs 0#5 offset
  | .bltzl rs offset => iWord 1#6 rs 2#5 offset
  | .bgezl rs offset => iWord 1#6 rs 3#5 offset
  | .bltzall rs offset => iWord 1#6 rs 18#5 offset
  | .bgezall rs offset => iWord 1#6 rs 19#5 offset
  | .sll rd rt sa => rWord 0#6 0#5 rt rd sa 0#6
  | .srl rd rt sa => rWord 0#6 0#5 rt rd sa 2#6
  | .sra rd rt sa => rWord 0#6 0#5 rt rd sa 3#6
  | .sllv rd rt rs => rWord 0#6 rs rt rd 0#5 4#6
  | .srlv rd rt rs => rWord 0#6 rs rt rd 0#5 6#6
  | .srav rd rt rs => rWord 0#6 rs rt rd 0#5 7#6
  | .dsll rd rt sa => rWord 0#6 0#5 rt rd sa 56#6
  | .dsrl rd rt sa => rWord 0#6 0#5 rt rd sa 58#6
  | .dsra rd rt sa => rWord 0#6 0#5 rt rd sa 59#6
  | .dsllv rd rt rs => rWord 0#6 rs rt rd 0#5 20#6
  | .dsrlv rd rt rs => rWord 0#6 rs rt rd 0#5 22#6
  | .dsrav rd rt rs => rWord 0#6 rs rt rd 0#5 23#6
  | .dsll32 rd rt sa => rWord 0#6 0#5 rt rd sa 60#6
  | .dsrl32 rd rt sa => rWord 0#6 0#5 rt rd sa 62#6
  | .dsra32 rd rt sa => rWord 0#6 0#5 rt rd sa 63#6
  | .syscall code => codeWord 0#6 code 12#6
  | .break_ code => codeWord 0#6 code 13#6
  | .tge rs rt code => trapWord 0#6 rs rt code 48#6
  | .tgeu rs rt code => trapWord 0#6 rs rt code 49#6
  | .tlt rs rt code => trapWord 0#6 rs rt code 50#6
  | .tltu rs rt code => trapWord 0#6 rs rt code 51#6
  | .teq rs rt code => trapWord 0#6 rs rt code 52#6
  | .tne rs rt code => trapWord 0#6 rs rt code 54#6
  | .tgei rs imm => iWord 1#6 rs 8#5 imm
  | .tgeiu rs imm => iWord 1#6 rs 9#5 imm
  | .tlti rs imm => iWord 1#6 rs 10#5 imm
  | .tltiu rs imm => iWord 1#6 rs 11#5 imm
  | .teqi rs imm => iWord 1#6 rs 12#5 imm
  | .tnei rs imm => iWord 1#6 rs 14#5 imm
  | .mfc0 rt rd => rWord 16#6 0#5 rt rd 0#5 0#6
  | .mtc0 rt rd => rWord 16#6 4#5 rt rd 0#5 0#6
  | .dmfc0 rt rd => rWord 16#6 1#5 rt rd 0#5 0#6
  | .dmtc0 rt rd => rWord 16#6 5#5 rt rd 0#5 0#6
  | .tlbp => rWord 16#6 16#5 0#5 0#5 0#5 8#6
  | .tlbr => rWord 16#6 16#5 0#5 0#5 0#5 1#6
  | .tlbwi => rWord 16#6 16#5 0#5 0#5 0#5 2#6
  | .tlbwr => rWord 16#6 16#5 0#5 0#5 0#5 6#6
  | .eret => rWord 16#6 16#5 0#5 0#5 0#5 24#6
  | .cache op offset base => iWord 47#6 base op offset
  | .mfc1 rt fs => rWord 17#6 0#5 rt fs 0#5 0#6
  | .mtc1 rt fs => rWord 17#6 4#5 rt fs 0#5 0#6
  | .dmfc1 rt fs => rWord 17#6 1#5 rt fs 0#5 0#6
  | .dmtc1 rt fs => rWord 17#6 5#5 rt fs 0#5 0#6
  | .cfc1 rt fs => rWord 17#6 2#5 rt fs 0#5 0#6
  | .ctc1 rt fs => rWord 17#6 6#5 rt fs 0#5 0#6
  | .lwc1 ft offset base => iWord 49#6 base ft offset
  | .ldc1 ft offset base => iWord 53#6 base ft offset
  | .swc1 ft offset base => iWord 57#6 base ft offset
  | .sdc1 ft offset base => iWord 61#6 base ft offset
  | .bc1f offset => iWord 17#6 8#5 0#5 offset
  | .bc1t offset => iWord 17#6 8#5 1#5 offset
  | .bc1fl offset => iWord 17#6 8#5 2#5 offset
  | .bc1tl offset => iWord 17#6 8#5 3#5 offset
  | .movS fd fs => rWord 17#6 16#5 0#5 fs fd 6#6
  | .movD fd fs => rWord 17#6 17#5 0#5 fs fd 6#6
  | .movPs fd fs => rWord 17#6 11#5 0#5 fs fd 6#6
  | .cFS fs ft => rWord 17#6 16#5 ft fs 0#5 48#6
  | .cFD fs ft => rWord 17#6 17#5 ft fs 0#5 48#6
  | .cFPs fs ft => rWord 17#6 11#5 ft fs 0#5 48#6
  | .cUnS fs ft => rWord 17#6 16#5 ft fs 0#5 49#6
  | .cUnD fs ft => rWord 17#6 17#5 ft fs 0#5 49#6
  | .cUnPs fs ft => rWord 17#6 11#5 ft fs 0#5 49#6
  | .cEqS fs ft => rWord 17#6 16#5 ft fs 0#5 50#6
  | .cEqD fs ft => rWord 17#6 17#5 ft fs 0#5 50#6
  | .cEqPs fs ft => rWord 17#6 11#5 ft fs 0#5 50#6
  | .cUeqS fs ft => rWord 17#6 16#5 ft fs 0#5 51#6
  | .cUeqD fs ft => rWord 17#6 17#5 ft fs 0#5 51#6
  | .cUeqPs fs ft => rWord 17#6 11#5 ft fs 0#5 51#6
  | .cOltS fs ft => rWord 17#6 16#5 ft fs 0#5 52#6
  | .cOltD fs ft => rWord 17#6 17#5 ft fs 0#5 52#6
  | .cOltPs fs ft => rWord 17#6 11#5 ft fs 0#5 52#6
  | .cUltS fs ft => rWord 17#6 16#5 ft fs 0#5 53#6
  | .cUltD fs ft => rWord 17#6 17#5 ft fs 0#5 53#6
  | .cUltPs fs ft => rWord 17#6 11#5 ft fs 0#5 53#6
  | .cOleS fs ft => rWord 17#6 16#5 ft fs 0#5 54#6
  | .cOleD fs ft => rWord 17#6 17#5 ft fs 0#5 54#6
  | .cOlePs fs ft => rWord 17#6 11#5 ft fs 0#5 54#6
  | .cUleS fs ft => rWord 17#6 16#5 ft fs 0#5 55#6
  | .cUleD fs ft => rWord 17#6 17#5 ft fs 0#5 55#6
  | .cUlePs fs ft => rWord 17#6 11#5 ft fs 0#5 55#6
  | .cSfS fs ft => rWord 17#6 16#5 ft fs 0#5 56#6
  | .cSfD fs ft => rWord 17#6 17#5 ft fs 0#5 56#6
  | .cSfPs fs ft => rWord 17#6 11#5 ft fs 0#5 56#6
  | .cNgleS fs ft => rWord 17#6 16#5 ft fs 0#5 57#6
  | .cNgleD fs ft => rWord 17#6 17#5 ft fs 0#5 57#6
  | .cNglePs fs ft => rWord 17#6 11#5 ft fs 0#5 57#6
  | .cSeqS fs ft => rWord 17#6 16#5 ft fs 0#5 58#6
  | .cSeqD fs ft => rWord 17#6 17#5 ft fs 0#5 58#6
  | .cSeqPs fs ft => rWord 17#6 11#5 ft fs 0#5 58#6
  | .cNglS fs ft => rWord 17#6 16#5 ft fs 0#5 59#6
  | .cNglD fs ft => rWord 17#6 17#5 ft fs 0#5 59#6
  | .cNglPs fs ft => rWord 17#6 11#5 ft fs 0#5 59#6
  | .cLtS fs ft => rWord 17#6 16#5 ft fs 0#5 60#6
  | .cLtD fs ft => rWord 17#6 17#5 ft fs 0#5 60#6
  | .cLtPs fs ft => rWord 17#6 11#5 ft fs 0#5 60#6
  | .cNgeS fs ft => rWord 17#6 16#5 ft fs 0#5 61#6
  | .cNgeD fs ft => rWord 17#6 17#5 ft fs 0#5 61#6
  | .cNgePs fs ft => rWord 17#6 11#5 ft fs 0#5 61#6
  | .cLeS fs ft => rWord 17#6 16#5 ft fs 0#5 62#6
  | .cLeD fs ft => rWord 17#6 17#5 ft fs 0#5 62#6
  | .cLePs fs ft => rWord 17#6 11#5 ft fs 0#5 62#6
  | .cNgtS fs ft => rWord 17#6 16#5 ft fs 0#5 63#6
  | .cNgtD fs ft => rWord 17#6 17#5 ft fs 0#5 63#6
  | .cNgtPs fs ft => rWord 17#6 11#5 ft fs 0#5 63#6
  | .addS fd fs ft => rWord 17#6 16#5 ft fs fd 0#6
  | .addD fd fs ft => rWord 17#6 17#5 ft fs fd 0#6
  | .addPs fd fs ft => rWord 17#6 11#5 ft fs fd 0#6
  | .subS fd fs ft => rWord 17#6 16#5 ft fs fd 1#6
  | .subD fd fs ft => rWord 17#6 17#5 ft fs fd 1#6
  | .subPs fd fs ft => rWord 17#6 11#5 ft fs fd 1#6
  | .mulS fd fs ft => rWord 17#6 16#5 ft fs fd 2#6
  | .mulD fd fs ft => rWord 17#6 17#5 ft fs fd 2#6
  | .mulPs fd fs ft => rWord 17#6 11#5 ft fs fd 2#6
  | .divS fd fs ft => rWord 17#6 16#5 ft fs fd 3#6
  | .divD fd fs ft => rWord 17#6 17#5 ft fs fd 3#6
  | .sqrtS fd fs => rWord 17#6 16#5 0#5 fs fd 4#6
  | .sqrtD fd fs => rWord 17#6 17#5 0#5 fs fd 4#6
  | .absS fd fs => rWord 17#6 16#5 0#5 fs fd 5#6
  | .absD fd fs => rWord 17#6 17#5 0#5 fs fd 5#6
  | .absPs fd fs => rWord 17#6 11#5 0#5 fs fd 5#6
  | .negS fd fs => rWord 17#6 16#5 0#5 fs fd 7#6
  | .negD fd fs => rWord 17#6 17#5 0#5 fs fd 7#6
  | .negPs fd fs => rWord 17#6 11#5 0#5 fs fd 7#6
  | .roundLS fd fs => rWord 17#6 16#5 0#5 fs fd 8#6
  | .roundLD fd fs => rWord 17#6 17#5 0#5 fs fd 8#6
  | .truncLS fd fs => rWord 17#6 16#5 0#5 fs fd 9#6
  | .truncLD fd fs => rWord 17#6 17#5 0#5 fs fd 9#6
  | .ceilLS fd fs => rWord 17#6 16#5 0#5 fs fd 10#6
  | .ceilLD fd fs => rWord 17#6 17#5 0#5 fs fd 10#6
  | .floorLS fd fs => rWord 17#6 16#5 0#5 fs fd 11#6
  | .floorLD fd fs => rWord 17#6 17#5 0#5 fs fd 11#6
  | .roundWS fd fs => rWord 17#6 16#5 0#5 fs fd 12#6
  | .roundWD fd fs => rWord 17#6 17#5 0#5 fs fd 12#6
  | .truncWS fd fs => rWord 17#6 16#5 0#5 fs fd 13#6
  | .truncWD fd fs => rWord 17#6 17#5 0#5 fs fd 13#6
  | .ceilWS fd fs => rWord 17#6 16#5 0#5 fs fd 14#6
  | .ceilWD fd fs => rWord 17#6 17#5 0#5 fs fd 14#6
  | .floorWS fd fs => rWord 17#6 16#5 0#5 fs fd 15#6
  | .floorWD fd fs => rWord 17#6 17#5 0#5 fs fd 15#6
  | .cvtSD fd fs => rWord 17#6 17#5 0#5 fs fd 32#6
  | .cvtSW fd fs => rWord 17#6 20#5 0#5 fs fd 32#6
  | .cvtSL fd fs => rWord 17#6 21#5 0#5 fs fd 32#6
  | .cvtDS fd fs => rWord 17#6 16#5 0#5 fs fd 33#6
  | .cvtDW fd fs => rWord 17#6 20#5 0#5 fs fd 33#6
  | .cvtDL fd fs => rWord 17#6 21#5 0#5 fs fd 33#6
  | .cvtWS fd fs => rWord 17#6 16#5 0#5 fs fd 36#6
  | .cvtWD fd fs => rWord 17#6 17#5 0#5 fs fd 36#6
  | .cvtLS fd fs => rWord 17#6 16#5 0#5 fs fd 37#6
  | .cvtLD fd fs => rWord 17#6 17#5 0#5 fs fd 37#6
  | .maddS fd fs ft => rWord 17#6 16#5 ft fs fd 24#6
  | .maddD fd fs ft => rWord 17#6 17#5 ft fs fd 24#6
  | .maddPs fd fs ft => rWord 17#6 11#5 ft fs fd 24#6
  | .msubS fd fs ft => rWord 17#6 16#5 ft fs fd 25#6
  | .msubD fd fs ft => rWord 17#6 17#5 ft fs fd 25#6
  | .msubPs fd fs ft => rWord 17#6 11#5 ft fs fd 25#6
  | .nmaddS fd fs ft => rWord 17#6 16#5 ft fs fd 26#6
  | .nmaddD fd fs ft => rWord 17#6 17#5 ft fs fd 26#6
  | .nmaddPs fd fs ft => rWord 17#6 11#5 ft fs fd 26#6
  | .nmsubS fd fs ft => rWord 17#6 16#5 ft fs fd 27#6
  | .nmsubD fd fs ft => rWord 17#6 17#5 ft fs fd 27#6
  | .nmsubPs fd fs ft => rWord 17#6 11#5 ft fs fd 27#6

end Sys2Proof
end

