-- ==== Sys2Proof/Config.lean ====
section
/-! DEFINITION. What the spec leaves to the implementation (00_scope.md R9) and the free values (00_scope.md R14).
Every constant here is opaque: nothing in Lean can evaluate it, so a statement that is proved holds for every value of it. -/

namespace Sys2Proof

/-- What a free value is drawn for: each use of `draw` in the spec has its own name, so that two draws of one step are
independent. -/
inductive Draw where
  /-- The entry Random names next (10_state.md R44). -/
  | random
  /-- How far Count advances (10_state.md R51). -/
  | countStep
  /-- How far performance counter 0 or 1 advances (10_state.md R78). -/
  | perfStep (counter : Nat)
  /-- The way a refill of the L1 instruction cache replaces (10_state.md R110). -/
  | victimI
  /-- The way a refill of the L1 data cache replaces (10_state.md R110). -/
  | victimD
  /-- The way a refill of the L2 cache replaces, for a fetch or for data (10_state.md R110). -/
  | victimL2 (fetch : Bool)
  /-- The way that answers where two ways hold one line, by the lookup: 0 D-cache, 1 L2 for data, 2 I-cache, 3 L2 for a fetch,
  4 L2 for a write-back. -/
  | way (lookup : Nat)
  /-- Which of several copies of one location a read returns, by the read: 0 cached load, 1 uncached load, 2 fetch (20_memory.md
  R165, R185, R196); 3 which of several dirty D-cache copies of an L2 line is written back with it (46_cp0.md R470; entry 7). -/
  | copy (read : Nat)
  /-- Which translation a fetch uses (20_memory.md R158). -/
  | fetchPath
  /-- Index[5:0] after a failed TLBP (10_state.md R43). -/
  | probeIndex
  /-- Index.P after software writes the other value (10_state.md R43). -/
  | indexP
  /-- LLbit after SC or SCD (20_memory.md R181). -/
  | llBit
  /-- The value a read of LLAddr returns (10_state.md R71). -/
  | llAddr
  /-- The value a read of Diagnostic returns (10_state.md R75). -/
  | diagnostic
  /-- A general register result that the spec leaves undefined (41_alu.md R305, 42_muldiv.md R345, R346). -/
  | result
  /-- HI where the spec leaves it undefined (42_muldiv.md R345, R346, R349). -/
  | hi
  /-- LO where the spec leaves it undefined (42_muldiv.md R345, R346, R349). -/
  | lo
  /-- Whether LWR keeps the upper half of a register that held no sign-extended word (40_loadstore.md R249). -/
  | lwrUpper
  /-- The upper half of a CP0 register after MTC0 of a value that is no sign-extended word (46_cp0.md R451). -/
  | cp0Upper
  /-- The upper half of an FP register after a 32-bit write with FR = 1 (47_fpu_move_branch.md R502). -/
  | fprUpper
  /-- Cause.CE after an exception other than coprocessor unusable (10_state.md R63). -/
  | causeCe
  /-- EntryLo0 after a TLB or address error exception (60_exceptions.md R620, R622, R624, R626). -/
  | entryLo0
  /-- EntryLo1 after a TLB or address error exception (60_exceptions.md R620, R622, R624, R626). -/
  | entryLo1
  /-- EntryHi after an address error exception (60_exceptions.md R620). -/
  | entryHi
  /-- Context.BadVPN2 after an address error exception (60_exceptions.md R620). -/
  | context
  /-- XContext.BadVPN2 after an address error exception (60_exceptions.md R620). -/
  | xcontext
  /-- BadVAddr after a soft reset or NMI (10_state.md R50). -/
  | badVAddr
  /-- For how many steps software interrupt 0 or 1 is still delayed (60_exceptions.md R642). -/
  | softInterrupt (request : Nat)
  /-- The bits of a DDR register that the spec calls undefined (60_exceptions.md R656, R657). -/
  | ddr
  /-- What a device answers at an address (00_scope.md R18). -/
  | device (address : Nat)
  /-- A byte of memory that nothing has written, or that is read before the DDR controller is configured (10_state.md R121,
  60_exceptions.md R656). -/
  | unwritten (address : Nat)
  /-- A register after a cold reset of a running machine, by a number of its own (10_state.md R121). -/
  | coldReset (register : Nat)
  /-- A cache line after a soft or cold reset of a running machine (60_exceptions.md R669, 10_state.md R111). -/
  | line (cache set way : Nat)
deriving DecidableEq, Repr

namespace Config

/-- A free value of `w` bits: of the counter State.free and of what it is drawn for (00_scope.md R14; entry 1). -/
opaque freeBits : (w : Nat) → Nat → Draw → BitVec w

/-- A free natural number, for a choice among several (00_scope.md R14; entry 1). -/
opaque freeNat : Nat → Draw → Nat

/-- PRID_VALUE, bits 15:0: implementation and revision number (10_state.md R68; entry 19). -/
opaque prid : BitVec 16

/-- Config.EB, the one bit of CONFIG_RESET that the spec gives no value (10_state.md R69, R70; entry 3). -/
opaque configEB : Bool

/-- XTLB_REFILL_OFFSET: true for 0x000, false for 0x080 (60_exceptions.md R606; entry 20). -/
opaque xtlbRefillAtZero : Bool

/-- TLBP_COMPARES_R (46_cp0.md R456; entry 21). -/
opaque tlbpComparesR : Bool

/-- ENTRYLO_E_BIT, counted from bit 34: a bit above 33 (10_state.md R45; entry 17). -/
opaque entryLoEOffset : Fin 30

/-- DIAG_BITS: the places of the fields of Diagnostic, all different (10_state.md R75; entry 16). -/
opaque diagBits : Equiv.Perm (Fin 64)

/-- PERF_ENABLE_BITS: the places of the enables EXL, K, S, U (in that order) in bits 3:0 (10_state.md R76; entry 15). -/
opaque perfEnableBits : Equiv.Perm (Fin 4)

/-- CACHE_STATE_CODES: the D-cache state of a line that holds unmodified data, less one (10_state.md R81; entry 18). -/
opaque dCleanCode : Fin 3

/-- CACHE_STATE_CODES: the D-cache state of a line that a store has modified, less one (10_state.md R81; entry 18). -/
opaque dDirtyCode : Fin 3

/-- CACHE_STATE_CODES: the L2 state of an unmodified line, 01 or 10 (10_state.md R81, R109; entry 18). -/
opaque l2CleanIsTwo : Bool

/-- The StateMod bits of a line that a refill has just brought in (10_state.md R108; entry 18). -/
opaque dStateMod : BitVec 3

/-- FP_QNAN_OPERAND: true where a quiet NaN operand is an unimplemented operation, false where it is an invalid one
(48_fpu_arith.md R560; entry 22); it does not decide for conversions to W and L (entry 56). -/
opaque qnanUnimplemented : Bool

/-- FP_MADD_FUSED (48_fpu_arith.md R586; entry 22). -/
opaque maddFused : Bool

/-- FP_DEFAULT_QNAN, single: sign and the 22 fraction bits below the top one (48_fpu_arith.md R552; entry 22). -/
opaque qnanSingle : Bool × BitVec 22

/-- FP_DEFAULT_QNAN, double: sign and the 51 fraction bits below the top one (48_fpu_arith.md R552; entry 22). -/
opaque qnanDouble : Bool × BitVec 51

/-- FP_CVT_INVALID_RESULT for a conversion to a 32-bit integer (48_fpu_arith.md R581; entry 22). -/
opaque cvtInvalidW : BitVec 32

/-- FP_CVT_INVALID_RESULT for a conversion to a 64-bit integer (48_fpu_arith.md R581; entry 22). -/
opaque cvtInvalidL : BitVec 64

/-- The most steps that Count may stand still (60_exceptions.md R643, 70_reset_and_hazards.md R730; entry 13). -/
opaque countWindow : Nat

/-- The longest delay of a software interrupt, in steps (60_exceptions.md R642; entry 12). -/
opaque softInterruptWindow : Nat

end Config

end Sys2Proof
end

