-- ==== Sys2Proof/Machine/State.lean ====
section
/-! DEFINITION. The state of the Godson-2E: 10_state.md. Registers whose reserved bits read 0 are records of their defined
fields (10_state.md R42, R105), so those bits are 0 by construction. -/

namespace Sys2Proof
namespace Machine

/-- The delay-slot state (43_branch.md R360): `none` where the next instruction is in no delay slot; in a slot, the
target that follows it, or no target where the branch was an ordinary one and not taken. -/
inductive Delay where
  | none
  | slot (target : Option Word)
deriving DecidableEq, Repr

/-- EntryLo0 or EntryLo1 (10_state.md R45). -/
structure EntryLo where
  e : Bool
  pfn : BitVec 28
  c : BitVec 3
  d : Bool
  v : Bool
  g : Bool
deriving DecidableEq, Repr

/-- EntryHi (10_state.md R53). -/
structure EntryHi where
  r : BitVec 2
  vpn2 : BitVec 31
  asid : BitVec 8
deriving DecidableEq, Repr

/-- One page of a TLB entry (10_state.md R104). -/
structure TlbPage where
  e : Bool
  pfn : BitVec 28
  c : BitVec 3
  d : Bool
  v : Bool
deriving DecidableEq, Repr

/-- One TLB entry (10_state.md R104, R105). -/
structure TlbEntry where
  mask : BitVec 12
  r : BitVec 2
  vpn2 : BitVec 31
  g : Bool
  asid : BitVec 8
  page0 : TlbPage
  page1 : TlbPage
deriving DecidableEq, Repr

/-- Status, without the bits that are hardwired or read 0 (10_state.md R55, R56, R60). -/
structure StatusReg where
  cu : BitVec 4
  fr : Bool
  bev : Bool
  sr : Bool
  im : BitVec 8
  ksu : BitVec 2
  erl : Bool
  exl : Bool
  ie : Bool
deriving DecidableEq, Repr

/-- Cause, without IP[7:2], which show the interrupt requests (10_state.md R63, R64). -/
structure CauseReg where
  bd : Bool
  ce : BitVec 2
  excCode : BitVec 5
  softIp : BitVec 2
deriving DecidableEq, Repr

/-- Context (10_state.md R47). -/
structure ContextReg where
  pteBase : BitVec 41
  badVpn2 : BitVec 19
deriving DecidableEq, Repr

/-- XContext (10_state.md R74). -/
structure XContextReg where
  pteBase : BitVec 27
  r : BitVec 2
  badVpn2 : BitVec 31
deriving DecidableEq, Repr

/-- WatchLo (10_state.md R72). -/
structure WatchLoReg where
  paddr0 : BitVec 29
  r : Bool
  w : Bool
deriving DecidableEq, Repr

/-- The performance control field (10_state.md R76). -/
structure PerfControl where
  event1 : BitVec 4
  event0 : BitVec 4
  ie7 : Bool
  enables : BitVec 4
deriving DecidableEq, Repr

/-- The CP0 registers (10_state.md R41). PRId is a constant of Config, Config keeps K0 only, and the number of each
register stands beside it. -/
structure Cp0 where
  indexP : Bool               -- 0 Index.P
  index : BitVec 6            -- 0 Index.Index
  random : BitVec 6           -- 1
  entryLo0 : EntryLo          -- 2
  entryLo1 : EntryLo          -- 3
  context : ContextReg        -- 4
  pageMask : BitVec 12        -- 5 PageMask.Mask
  wired : BitVec 6            -- 6
  badVAddr : Word             -- 8
  count : Word32              -- 9
  entryHi : EntryHi           -- 10
  compare : Word32            -- 11
  status : StatusReg          -- 12
  cause : CauseReg            -- 13
  epc : Word                  -- 14
  configK0 : BitVec 3         -- 16 Config.K0
  llAddr : Word32             -- 17
  watchLo : WatchLoReg        -- 18
  watchHi : BitVec 8          -- 19
  xcontext : XContextReg      -- 20
  diagnostic : Word           -- 22
  perfControl : PerfControl   -- 24
  counter0 : Word32           -- 25, low half
  counter1 : Word32           -- 25, high half
  tagLo : Word32              -- 28
  tagHi : Word32              -- 29
  errorEpc : Word             -- 30
deriving DecidableEq, Repr

/-- FCR31 (10_state.md R96): the condition bits CC7 to CC1, FS, CC0, then Cause (E, V, Z, O, U, I from the top),
Enables and Flags (V, Z, O, U, I from the top) and RM. -/
structure Fcsr where
  cc : BitVec 7
  fs : Bool
  cc0 : Bool
  cause : BitVec 6
  enables : BitVec 5
  flags : BitVec 5
  rm : BitVec 2
deriving DecidableEq, Repr

/-- The state of a D-cache line: invalid (code 00), or one of the other codes, which the spec does not name
(10_state.md R81, R108). -/
inductive DState where
  | invalid
  | valid (code : BitVec 2)
deriving DecidableEq, Repr

/-- A line of the L1 data cache (10_state.md R108). -/
structure DLine where
  tag : BitVec 28
  state : DState
  dirty : Bool
  scWay : BitVec 2
  stateMod : BitVec 3
  data : BitVec 256
deriving DecidableEq, Repr

/-- A line of the L1 instruction cache (10_state.md R107). -/
structure ILine where
  tag : BitVec 28
  valid : Bool
  data : BitVec 256
deriving DecidableEq, Repr

/-- The state of an L2 line: 00 invalid, 11 dirty, or one of the two codes the spec does not name (10_state.md R109). -/
inductive L2State where
  | invalid
  | clean (code : BitVec 2)
  | dirty
deriving DecidableEq, Repr

/-- A line of the L2 cache (10_state.md R109). -/
structure L2Line where
  tag : BitVec 23
  state : L2State
  data : BitVec 256
deriving DecidableEq, Repr

/-- The caches: the lines that something has touched, by number (set * 4 + way), numbers strictly rising. A line that is
not listed is invalid while `epoch` is 0, and a free value after a soft or cold reset of a running machine
(10_state.md R111, 60_exceptions.md R669; entry 6). -/
structure Caches where
  epoch : Nat
  icache : List (Nat × ILine)
  dcache : List (Nat × DLine)
  l2 : List (Nat × L2Line)
deriving DecidableEq, Repr

/-- A pending uncached-accelerated store (20_memory.md R163): its address, its width in bytes and its bytes. -/
structure GatheredStore where
  pa : PAddr
  size : Nat
  value : Word
deriving DecidableEq, Repr

/-- A way to reach a byte of memory: past the caches, or through the D-cache sets of one value of VA[13:12]
(20_memory.md R165, R196). -/
inductive View where
  | uncached
  | cached (colour : BitVec 2)
deriving DecidableEq, Repr

/-- The latest store to a byte of which a cache holds a copy: its physical address, and the view it was stored through
(20_memory.md R165, R170, R196). -/
structure RacedByte where
  address : Nat
  view : View
deriving DecidableEq, Repr

/-- A content that a fetch of a word may still return after a store to it, and how far the sequence that makes stored code
visible to fetches has gone (20_memory.md R185, 70_reset_and_hazards.md R715). -/
structure CodeVersion where
  /-- The number of the word: physical address / 4. -/
  word : Nat
  value : Word32
  /-- The latest store to the word went past the caches. -/
  past : Bool
  /-- The line has been written back, or is no longer in the L2 where the store went past the caches. -/
  pushed : Bool
  /-- VA[13:12] of the I-cache sets that have been invalidated after that. -/
  invalidated : List (BitVec 2)
  /-- The views through which a fetch no longer returns this content, since SYNC has ended the sequence for them. -/
  settled : List View
deriving DecidableEq, Repr

/-- What lies in a range of physical addresses (RAM_MAP, 20_memory.md R192): memory that answers from reset on, memory behind
the DDR controller, read-only memory, a device, or nothing. -/
inductive RegionKind where
  | ram
  | dram
  | rom
  | device
  | absent
deriving DecidableEq, Repr

/-- A range of physical addresses of one kind. -/
structure Region where
  base : Nat
  size : Nat
  kind : RegionKind
deriving DecidableEq, Repr

/-- The inputs of the core that the platform drives (00_scope.md R18; entry 11). -/
structure Pins where
  /-- Levels of the interrupt inputs behind Cause.IP[6:2] (60_exceptions.md R641). -/
  interrupts : BitVec 5
  /-- A non-maskable interrupt is requested (60_exceptions.md R672). -/
  nmi : Bool
  /-- A soft reset is requested (60_exceptions.md R671). -/
  softReset : Bool
  /-- A cold reset is requested (60_exceptions.md R670). -/
  coldReset : Bool
deriving DecidableEq, Repr

/-- The whole machine. -/
structure State where
  /-- General registers; number 0 is read as 0 and never written (10_state.md R30, R31). -/
  gprs : Vector Word 32
  /-- Address of the instruction to execute (10_state.md R35). -/
  pc : Word
  /-- Delay-slot state (43_branch.md R360). -/
  delay : Delay
  hi : Word
  lo : Word
  /-- LLbit (10_state.md R39). -/
  llBit : Bool
  /-- Physical address of the latest LL or LLD, none before the first (20_memory.md R180). -/
  llPa : Option PAddr
  cp0 : Cp0
  /-- The joint TLB (10_state.md R104). -/
  tlb : Vector TlbEntry 64
  /-- The TLB entries that TLBWI or TLBWR has written since the reset that left them undefined (70_reset_and_hazards.md R712; entry
  32). -/
  tlbWritten : Vector Bool 64
  /-- The pairs of a TLB entry and an ASID that are no longer current and that a fetch may still use (20_memory.md R158). -/
  itlbStale : List (TlbEntry × BitVec 8)
  fprs : Vector Word 32
  fcsr : Fcsr
  /-- Main memory: the bytes that something has written, addresses strictly rising; an unlisted byte has no value of its own
  (entry 4). -/
  memory : List Host.Cell
  caches : Caches
  /-- Pending uncached-accelerated stores, oldest first (20_memory.md R163, R166). -/
  gather : List GatheredStore
  /-- The view that the latest store to a byte went through, while a cache holds a copy of the byte, one entry a byte
  (20_memory.md R165, R170, R196; the model's own field, entry 8). -/
  raced : List RacedByte
  /-- The older and newer contents of stored-to words, until the sequence for code is complete (20_memory.md R185; the model's
  own field, entry 8). -/
  code : List CodeVersion
  /-- RAM_MAP: the first range that holds an address gives its kind (20_memory.md R192; entry 5). -/
  ramMap : List Region
  /-- The DDR configuration register (60_exceptions.md R656). -/
  ddrConfig : Word32
  /-- The DDR sample-point register (60_exceptions.md R657). -/
  ddrSample : Word32
  /-- The DDR configuration register has been written since the last cold reset (60_exceptions.md R656). -/
  ddrReady : Bool
  /-- The DDR sample-point register has been written since the last cold reset (60_exceptions.md R657). -/
  sampleReady : Bool
  pins : Pins
  /-- The timer request, source 1 of IP[7] (10_state.md R114). -/
  timerIp : Bool
  /-- A deferred Watch exception is pending (10_state.md R113). -/
  pendingWatch : Bool
  /-- The instruction just executed wrote Wired, so Random is exactly 63 (10_state.md R44; the model's own field). -/
  randomHold : Bool
  /-- Steps for which software interrupt 0 is still delayed (60_exceptions.md R642; the model's own field, entry 12). -/
  softDelay0 : Nat
  /-- Steps for which software interrupt 1 is still delayed (60_exceptions.md R642; the model's own field, entry 12). -/
  softDelay1 : Nat
  /-- Steps since Count last advanced (70_reset_and_hazards.md R730; the model's own field, entry 13). -/
  countIdle : Nat
  /-- Selects the free values; every step advances it (entry 1; the model's own field). -/
  free : Nat
deriving DecidableEq, Repr

/-- Where the model itself stops with a program error. -/
inductive Fault where
  /-- More than one TLB entry matches an address (20_memory.md R156; U1). Raised by an access or TLBP. Safe: the hardware goes on. -/
  | multipleTlbMatch
deriving DecidableEq, Repr

/-- Where the spec assigns no behaviour and says that the model refuses (00_scope.md R14). Every one of them is safe: the
model stops where the hardware goes on in a way the spec does not say. -/
inductive Refusal where
  /-- An instruction whose arm is not written yet. Raised by `exec` only. Safe. -/
  | notModelled (mnemonic : String)
  /-- Sequential execution out of a segment, the top of the address space included (10_state.md R36; D21, U28). Any instruction. Safe. -/
  | leavesSegment
  /-- A branch, jump or ERET in a delay slot (43_branch.md R382; U26). Safe. -/
  | branchInDelaySlot
  /-- JALR with rd = rs (43_branch.md R364; U27). Safe. -/
  | jalrSameRegister
  /-- An and-link branch with rs = 31 (43_branch.md R372, R373, R380, R381; U27). Safe. -/
  | linkRegisterSource
  /-- Status.KSU = 11 outside exception and error level (10_state.md R59; U3). Any step. Safe. -/
  | undefinedMode
  /-- A reserved cache attribute code (20_memory.md R148; U4). Fetch, loads, stores, CACHE. Safe. -/
  | reservedAttribute
  /-- An access with va[63:62] = 00 while Status.ERL = 1 (20_memory.md R149; U31). Safe. -/
  | errorLevelUserSegment
  /-- Page sizes that differ among the valid TLB entries and PageMask (20_memory.md R155; D31, U32). A mapped access, TLBWI, TLBWR.
  Safe. -/
  | mixedPageSizes
  /-- TLBWI or TLBWR with a PageMask outside Table 5-6 (10_state.md R48; U2). Safe. -/
  | undefinedPageMask
  /-- A non-zero must-be-zero field (30_encoding.md R204, R234; U5). Safe. -/
  | mustBeZero
  /-- MOVZ and MOVN (30_encoding.md R211; U17). Safe. -/
  | conditionalMove
  /-- An unlisted function of opcode 011111 (30_encoding.md R216; U18). Safe. -/
  | godson2Function
  /-- An unlisted COP0 word with CP0 usable (30_encoding.md R231; U14). Safe. -/
  | unlistedCop0
  /-- An unlisted COP1 word with CP1 usable (30_encoding.md R232, R233; U15, U20). Safe. -/
  | unlistedCop1
  /-- A coprocessor 2 word with CU2 = 1 (45_special_trap.md R446; U16). Safe. -/
  | coprocessor2
  /-- A CP0 register number without a name (10_state.md R90; U13). MFC0, MTC0, DMFC0, DMTC0. Safe. -/
  | unnamedCp0Register
  /-- A 1 written to a reserved bit of a CP0 register or FCR31 (10_state.md R42; U6). MTC0, DMTC0, CTC1. Safe. -/
  | reservedRegisterBit
  /-- A write that clears Config.IB or Config.DB (10_state.md R70; U35). Safe. -/
  | configLineSize
  /-- CACHE with an operation outside Table 8-3 (46_cp0.md R466; U7). Safe. -/
  | undefinedCacheOp
  /-- CACHE on an address of uncached space (46_cp0.md R466; U7). Safe. -/
  | uncachedCacheOp
  /-- LL, LLD, SC or SCD on an uncached location (20_memory.md R182; U29). Safe. -/
  | linkedUncached
  /-- SC or SCD to an address other than the preceding LL or LLD's (20_memory.md R180; U29). Safe. -/
  | linkedAddress
  /-- A load from bytes that a gathered store has not yet written (20_memory.md R166; U34), before any bus error of it (entry 9). Safe. -/
  | gatheredLoad
  /-- An access to a physical address that RAM_MAP does not describe (20_memory.md R192; D26). Safe. -/
  | undescribedAddress
  /-- A CP1 control register other than 0 and 31 (10_state.md R94; U19). CFC1, CTC1. Safe. -/
  | unnamedFcr
  /-- An odd FP register in a 64-bit operand with FR = 0 (47_fpu_move_branch.md R501; U21). Safe. -/
  | oddFpRegister
deriving DecidableEq, Repr

/-- EntryLo with every field 0. -/
def EntryLo.zero : EntryLo := { e := false, pfn := 0, c := 0, d := false, v := false, g := false }

/-- A TLB page with every field 0. -/
def TlbPage.zero : TlbPage := { e := false, pfn := 0, c := 0, d := false, v := false }

/-- A TLB entry with every field 0. -/
def TlbEntry.zero : TlbEntry :=
  { mask := 0, r := 0, vpn2 := 0, g := false, asid := 0, page0 := .zero, page1 := .zero }

/-- CP0 after a cold reset (10_state.md R120, R121). Random, Wired, Status.ERL, BEV and SR and the event fields are the
spec's values; every other field is 0 and Config.K0 is 2 (DESIGN CHOICE, entries 2 and 3; unsafe). -/
def Cp0.reset : Cp0 :=
  { indexP := false
    index := 0
    random := 63
    entryLo0 := .zero
    entryLo1 := .zero
    context := { pteBase := 0, badVpn2 := 0 }
    pageMask := 0
    wired := 0
    badVAddr := 0
    count := 0
    entryHi := { r := 0, vpn2 := 0, asid := 0 }
    compare := 0
    status := { cu := 0, fr := false, bev := true, sr := false, im := 0, ksu := 0, erl := true, exl := false, ie := false }
    cause := { bd := false, ce := 0, excCode := 0, softIp := 0 }
    epc := 0
    configK0 := 2
    llAddr := 0
    watchLo := { paddr0 := 0, r := false, w := false }
    watchHi := 0
    xcontext := { pteBase := 0, r := 0, badVpn2 := 0 }
    diagnostic := 0
    perfControl := { event1 := 0, event0 := 0, ie7 := false, enables := 0 }
    counter0 := 0
    counter1 := 0
    tagLo := 0
    tagHi := 0
    errorEpc := 0 }

/-- The reset vector (10_state.md R123). -/
def resetVector : Word := 0xFFFFFFFFBFC00000

/-- The physical map at reset: one megabyte of ROM at the reset vector, and memory behind the DDR controller everywhere else
(70_reset_and_hazards.md R700, R710; DESIGN CHOICE, entry 5; unsafe). -/
def resetMap : List Region :=
  [{ base := 0x1FC00000, size := 0x100000, kind := .rom }, { base := 0, size := 2 ^ 40, kind := .dram }]

/-- The machine right after a cold reset (10_state.md R120, R121). What R121 calls undefined holds 0 and the caches are empty
(DESIGN CHOICE, entries 2 to 6; unsafe). -/
def State.reset : State :=
  { gprs := Vector.replicate 32 0
    pc := resetVector
    delay := .none
    hi := 0
    lo := 0
    llBit := false
    llPa := none
    cp0 := Cp0.reset
    tlb := Vector.replicate 64 .zero
    tlbWritten := Vector.replicate 64 false
    itlbStale := []
    fprs := Vector.replicate 32 0
    fcsr := { cc := 0, fs := false, cc0 := false, cause := 0, enables := 0, flags := 0, rm := 0 }
    memory := []
    caches := { epoch := 0, icache := [], dcache := [], l2 := [] }
    gather := []
    raced := []
    code := []
    ramMap := resetMap
    ddrConfig := 0
    ddrSample := 0
    ddrReady := false
    sampleReady := false
    pins := { interrupts := 0, nmi := false, softReset := false, coldReset := false }
    timerIp := false
    pendingWatch := false
    randomHold := false
    softDelay0 := 0
    softDelay1 := 0
    countIdle := 0
    free := 0 }

end Machine
end Sys2Proof
end

