-- ==== Sys2Proof/Machine/Ops.lean ====
section
/-! DEFINITION. The shared operations over registers, memory, free values and control, and the taking of exceptions and
the return from them. -/

namespace Sys2Proof
namespace Machine

/-! ## Free values (00_scope.md R14) -/

/-- A free value of `w` bits for the use `d`. -/
def State.draw (s : State) (w : Nat) (d : Draw) : BitVec w := Config.freeBits w s.free d

/-- A free bit for the use `d`. -/
def State.drawBit (s : State) (d : Draw) : Bool := s.draw 1 d == 1#1

/-- A free choice among the values `0 .. n - 1`; with one value there is nothing to choose. -/
def State.drawBelow (s : State) (n : Nat) (d : Draw) : Nat :=
  if n ≤ 1 then 0 else Config.freeNat s.free d % n

/-! ## General registers (10_state.md R30, R31) -/

/-- GPR[r]: register 0 reads 0 (10_state.md R31). -/
def State.gpr (s : State) (r : RegNum) : Word :=
  if r = 0 then 0 else s.gprs[r.toNat]'(r.isLt)

/-- Write GPR[r]: a write of register 0 is dropped (10_state.md R31). -/
def State.setGpr (s : State) (r : RegNum) (v : Word) : State :=
  if r = 0 then s else { s with gprs := s.gprs.set r.toNat v r.isLt }

/-- Write HI and LO. -/
def State.setHiLo (s : State) (hi lo : Word) : State := { s with hi := hi, lo := lo }

/-! ## Operating mode (10_state.md R59, 60_exceptions.md R660) -/

/-- The operating modes, and the undefined KSU = 11. -/
inductive Mode where
  | kernel
  | supervisor
  | user
  | undefined
deriving DecidableEq, Repr

/-- The operating mode (10_state.md R59). -/
def State.mode (s : State) : Mode :=
  if s.cp0.status.exl || s.cp0.status.erl then .kernel
  else
    match s.cp0.status.ksu.toNat with
    | 0 => .kernel
    | 1 => .supervisor
    | 2 => .user
    | _ => .undefined

/-- CP0 instructions may execute (46_cp0.md R455). -/
def State.cp0Usable (s : State) : Bool := s.mode == .kernel || s.cp0.status.cu.getLsbD 0

/-- FPU instructions may execute (10_state.md R61). -/
def State.cp1Usable (s : State) : Bool := s.cp0.status.cu.getLsbD 1

/-! ## Memory bytes (20_memory.md R131, R142) -/

/-- The byte written at an address; none where nothing has been written (entry 4). -/
def Memory.read : List Host.Cell → Nat → Option Byte
  | [], _ => none
  | (k, b) :: rest, a => if k = a then some b else Memory.read rest a

/-- Memory with the byte at `a` replaced, in canonical form again. -/
def Memory.write : List Host.Cell → Nat → Byte → List Host.Cell
  | [], a, b => [(a, b)]
  | (k, c) :: rest, a, b =>
    if k < a then (k, c) :: Memory.write rest a b
    else if k = a then (a, b) :: rest
    else (a, b) :: (k, c) :: rest

/-- The canonical form of memory: 40-bit addresses strictly rising. -/
def Memory.wf : List Host.Cell → Bool
  | [] => true
  | (a, _) :: rest =>
    decide (a < 2 ^ 40) &&
      (match rest with
       | [] => true
       | (a', _) :: _ => decide (a < a')) && Memory.wf rest

/-- Memory in which a byte has no value of its own any more, in canonical form again. -/
def Memory.erase : List Host.Cell → Nat → List Host.Cell
  | [], _ => []
  | (k, c) :: rest, a => if k = a then rest else (k, c) :: Memory.erase rest a

/-- The byte that memory holds at an address: a free value where nothing has been written (10_state.md R121, R124; entry 4). -/
def State.storedByte (s : State) (a : Nat) : Byte := (Memory.read s.memory a).getD (s.draw 8 (.unwritten a))

/-! ## Exceptions (60_exceptions.md R600) -/

/-- The exceptions taken at exception level, with what each records; `store` tells a store from a load or fetch. -/
inductive Exc where
  | interrupt
  | tlbModified (va : Word)
  | tlbRefill (store : Bool) (va : Word)
  | tlbInvalid (store : Bool) (va : Word)
  | addressError (store : Bool) (va : Word)
  | busFetch
  | busData
  | systemCall
  | breakpoint
  | reservedInstruction
  | coprocessorUnusable (unit : BitVec 2)
  | overflow
  | trap
  | floatingPoint
  | watch
deriving DecidableEq, Repr

/-- Cause.ExcCode of an exception (10_state.md R65). -/
def Exc.code (e : Exc) : BitVec 5 :=
  match e with
  | .interrupt => 0
  | .tlbModified _ => 1
  | .tlbRefill store _ => if store then 3 else 2
  | .tlbInvalid store _ => if store then 3 else 2
  | .addressError store _ => if store then 5 else 4
  | .busFetch => 6
  | .busData => 7
  | .systemCall => 8
  | .breakpoint => 9
  | .reservedInstruction => 10
  | .coprocessorUnusable _ => 11
  | .overflow => 12
  | .trap => 13
  | .floatingPoint => 15
  | .watch => 23

/-- A TLB refill, the one exception with a vector of its own (60_exceptions.md R607). -/
def Exc.isRefill (e : Exc) : Bool :=
  match e with
  | .tlbRefill _ _ => true
  | _ => false

/-- An EntryLo register whose content is undefined (60_exceptions.md R620, R622). -/
def State.freeEntryLo (s : State) (d : Draw) : EntryLo :=
  let v := s.draw 35 d
  { e := v.getLsbD 34, pfn := v.extractLsb' 6 28, c := v.extractLsb' 3 3, d := v.getLsbD 2, v := v.getLsbD 1, g := v.getLsbD 0 }

/-- The TLB entries that an ITLB may hold although they are no longer current (20_memory.md R158): an entry is copied on
a translation, so one page of it is valid. -/
def TlbEntry.mayBeCached (e : TlbEntry) : Bool := e.page0.v || e.page1.v

/-- Write EntryHi. Where the ASID changes, the pairs of the old ASID and the entries that depend on it join the pairs a
fetch may still use (20_memory.md R158; entry 10). -/
def State.setEntryHi (s : State) (h : EntryHi) : State :=
  { s with
    cp0 := { s.cp0 with entryHi := h }
    itlbStale :=
      if h.asid = s.cp0.entryHi.asid then s.itlbStale
      else (s.tlb.toList.filter fun e => e.mayBeCached && !e.g).map (fun e => (e, s.cp0.entryHi.asid)) ++ s.itlbStale }

/-- The registers every TLB exception loads from the failing address (60_exceptions.md R623); EntryLo0 and EntryLo1
become undefined (R622, R624, R626). -/
def State.recordTlb (s : State) (va : Word) : State :=
  let s := s.setEntryHi { s.cp0.entryHi with r := va.extractLsb' 62 2, vpn2 := va.extractLsb' 13 31 }
  { s with cp0 := { s.cp0 with
      badVAddr := va
      context := { s.cp0.context with badVpn2 := va.extractLsb' 13 19 }
      xcontext := { s.cp0.xcontext with r := va.extractLsb' 62 2, badVpn2 := va.extractLsb' 13 31 }
      entryLo0 := s.freeEntryLo .entryLo0
      entryLo1 := s.freeEntryLo .entryLo1 } }

/-- The registers an address error writes: BadVAddr; the VPN fields of Context and XContext, EntryHi and the EntryLo
registers become undefined (60_exceptions.md R620). -/
def State.recordAddressError (s : State) (va : Word) : State :=
  let h := s.draw 41 .entryHi
  let s := s.setEntryHi { r := h.extractLsb' 39 2, vpn2 := h.extractLsb' 8 31, asid := h.extractLsb' 0 8 }
  { s with cp0 := { s.cp0 with
      badVAddr := va
      context := { s.cp0.context with badVpn2 := s.draw 19 .context }
      xcontext := { s.cp0.xcontext with badVpn2 := s.draw 31 .xcontext }
      entryLo0 := s.freeEntryLo .entryLo0
      entryLo1 := s.freeEntryLo .entryLo1 } }

/-- The exception-specific registers (60_exceptions.md R610, R620 to R626). -/
def State.recordException (s : State) (e : Exc) : State :=
  match e with
  | .tlbModified va => s.recordTlb va
  | .tlbRefill _ va => s.recordTlb va
  | .tlbInvalid _ va => s.recordTlb va
  | .addressError _ va => s.recordAddressError va
  | _ => s

/-- The instruction at the pc is in a delay slot (43_branch.md R360). -/
def State.inDelaySlot (s : State) : Bool :=
  match s.delay with
  | .none => false
  | .slot _ => true

/-- Where execution restarts after an exception at the pc: the branch before a delay slot (60_exceptions.md R610, R611). -/
def State.restartPc (s : State) : Word := if s.inDelaySlot then s.pc - 4 else s.pc

/-- XTLB_REFILL_OFFSET (60_exceptions.md R606). -/
def refillOffset : Word := if Config.xtlbRefillAtZero then 0x000 else 0x080

/-- The offset of the vector: the refill vectors are used with EXL = 0 only (60_exceptions.md R607). -/
def State.vectorOffset (s : State) (e : Exc) : Word :=
  if e.isRefill && !s.cp0.status.exl then refillOffset else 0x180

/-- The base of the vectors (60_exceptions.md R604). -/
def State.vectorBase (s : State) : Word :=
  if s.cp0.status.bev then 0xFFFFFFFFBFC00200 else 0xFFFFFFFF80000000

/-- Cause.CE after an exception: the unit of a coprocessor-unusable exception, undefined after any other (10_state.md R63). -/
def State.causeCe (s : State) (e : Exc) : BitVec 2 :=
  match e with
  | .coprocessorUnusable unit => unit
  | _ => s.draw 2 .causeCe

/-- TAKING AN EXCEPTION, for every exception of exception level: 60_exceptions.md R610. -/
def State.takeException (s : State) (e : Exc) : State :=
  let r := s.recordException e
  { r with
    cp0 := { r.cp0 with
      status := { r.cp0.status with exl := true }
      cause :=
        { bd := if s.cp0.status.exl then s.cp0.cause.bd else s.inDelaySlot
          ce := s.causeCe e
          excCode := e.code
          softIp := s.cp0.cause.softIp }
      epc := if s.cp0.status.exl then s.cp0.epc else s.restartPc }
    pc := s.vectorBase + s.vectorOffset e
    delay := .none }

/-- RETURN FROM AN EXCEPTION: 46_cp0.md R462, 60_exceptions.md R612. -/
def State.exceptionReturn (s : State) : State :=
  if s.cp0.status.erl then
    { s with
      pc := s.cp0.errorEpc
      cp0 := { s.cp0 with status := { s.cp0.status with erl := false } }
      llBit := false
      delay := .none }
  else
    { s with
      pc := s.cp0.epc
      cp0 := { s.cp0 with status := { s.cp0.status with exl := false } }
      llBit := false
      delay := .none }

/-- Error-level entry, common to soft reset and NMI (10_state.md R122, 60_exceptions.md R611, R672). -/
def State.errorEntry (s : State) : State :=
  { s with
    cp0 := { s.cp0 with
      errorEpc := s.restartPc
      badVAddr := s.draw 64 .badVAddr
      status := { s.cp0.status with erl := true, sr := true, bev := true } }
    pc := resetVector
    delay := .none }

/-! ## Results of a piece of an instruction -/

/-- A check that changes no state: it passes with a value, raises an exception, or the model stops. -/
inductive Chk (α : Type) where
  | pass (a : α)
  | raise (e : Exc)
  | refuse (r : Refusal)
  | fault (f : Fault)
deriving DecidableEq, Repr

/-- What a piece of an instruction does: it goes on with a value and a state, raises an exception in a state, or the
model stops. -/
inductive Run (α : Type) where
  | ok (a : α) (s : State)
  | raise (e : Exc) (s : State)
  | refuse (r : Refusal)
  | fault (f : Fault)

/-- Go on with a check, then another. -/
def Chk.bind {α β : Type} (c : Chk α) (k : α → Chk β) : Chk β :=
  match c with
  | .pass a => k a
  | .raise e => .raise e
  | .refuse r => .refuse r
  | .fault f => .fault f

/-- Go on from a check made in state `s`. -/
def Chk.run {α β : Type} (c : Chk α) (s : State) (k : α → Run β) : Run β :=
  match c with
  | .pass a => k a
  | .raise e => .raise e s
  | .refuse r => .refuse r
  | .fault f => .fault f

/-- Go on from a piece that has changed the state. -/
def Run.bind {α β : Type} (x : Run α) (k : α → State → Run β) : Run β :=
  match x with
  | .ok a s => k a s
  | .raise e s => .raise e s
  | .refuse r => .refuse r
  | .fault f => .fault f

/-! ## The end of an instruction -/

/-- The outcome type of the model. -/
abbrev Out := Host.Outcome State Fault Refusal

/-- The segments of the address space (20_memory.md R143), and `gap` for the ranges between them, which no mode may access. -/
inductive SegmentName where
  | xuseg
  | xsseg
  | xkphys
  | xkseg
  | ckseg0
  | ckseg1
  | csseg
  | ckseg3
  | gap
deriving DecidableEq, Repr

/-- The segment that holds an address, by its address alone (the va ranges of the table of 20_memory.md R143). -/
def segmentName (va : Word) : SegmentName :=
  let low40 := va.extractLsb' 40 22 == 0
  match (va.extractLsb' 62 2).toNat with
  | 0 => if low40 then .xuseg else .gap
  | 1 => if low40 then .xsseg else .gap
  | 2 => if va.extractLsb' 40 19 == 0 then .xkphys else .gap
  | _ =>
    if va.extractLsb' 31 31 == BitVec.allOnes 31 then
      match (va.extractLsb' 29 2).toNat with
      | 0 => .ckseg0
      | 1 => .ckseg1
      | 2 => .csseg
      | _ => .ckseg3
    else if low40 && (va.extractLsb' 0 40).ult 0xFF80000000 then .xkseg
    else .gap

/-- The address `n` bytes on lies in another segment than the pc: sequential flow there is refused (10_state.md R36; D21, U28). That
the segments are the va ranges of 20_memory.md R143, in every mode, is DEDUCED (entry 55). -/
def State.leavesAfter (s : State) (n : Nat) : Bool := segmentName (s.pc + BitVec.ofNat 64 n) != segmentName s.pc

/-- The pc after an instruction that is no taken branch: the pending target after a delay slot, else the next word
(10_state.md R36, 43_branch.md R360). -/
def State.nextPc (s : State) : Word :=
  match s.delay with
  | .slot (some target) => target
  | _ => s.pc + 4

/-- The pc would leave its segment by sequential flow, which is refused (10_state.md R36; D21, entry 55); past the top of the address
space the next segment is xuseg, so that flow is refused with it (U28, entry 30). After the delay slot of a taken branch the pc goes
to the target, which is no sequential flow. -/
def State.leavesSegment (s : State) : Bool :=
  match s.delay with
  | .slot (some _) => false
  | _ => s.leavesAfter 4

/-- The state with the pc past the instruction just executed. -/
def State.stepped (s : State) : State := { s with pc := s.nextPc, delay := .none }

/-- End of an instruction that is no branch: advance the pc (10_state.md R36). -/
def State.advance (s : State) : Out :=
  if s.leavesSegment then .refused .leavesSegment else .next s.stepped

/-- An instruction that raises an exception takes it: the next state is the handler's first (60_exceptions.md R610). -/
def State.raise (s : State) (e : Exc) : Out := .next (s.takeException e)

/-- End of an instruction made of pieces: advance, or take the exception that a piece raised. -/
def Run.finish (x : Run Unit) : Out :=
  match x with
  | .ok _ s => s.advance
  | .raise e s => s.raise e
  | .refuse r => .refused r
  | .fault f => .fault f

/-- A general register result and the end of the instruction. -/
def State.writeGpr (s : State) (r : RegNum) (v : Word) : Out := (s.setGpr r v).advance

/-- A CP0 instruction: the usable test comes before everything else (46_cp0.md R455, 30_encoding.md R231). -/
def State.whenCp0 (s : State) (act : Out) : Out :=
  if s.cp0Usable then act else s.raise (.coprocessorUnusable 0)

/-- A CP1 instruction: the usable test comes before everything else (10_state.md R61, 60_exceptions.md R633). -/
def State.whenCp1 (s : State) (act : Out) : Out :=
  if s.cp1Usable then act else s.raise (.coprocessorUnusable 1)

end Machine
end Sys2Proof
end

