-- ==== Sys2Proof/Machine/Operands.lean ====
section
/-! DEFINITION. The operand forms: immediates, addresses, branch targets and word operands (30_encoding.md R205). -/

namespace Sys2Proof
namespace Machine

/-- `sext_64(imm16)` (30_encoding.md R205). -/
def immSext (imm : BitVec 16) : Word := imm.signExtend 64

/-- `zext_64(imm16)` (30_encoding.md R205). -/
def immZext (imm : BitVec 16) : Word := imm.setWidth 64

/-- `sext_64(imm16 || 0^16)`, the operand of LUI (30_encoding.md R205). -/
def immUpper (imm : BitVec 16) : Word := (imm ++ 0#16).signExtend 64

/-- The virtual address of a load, store or CACHE (40_loadstore.md R240, 46_cp0.md R464). -/
def State.address (s : State) (base : RegNum) (offset : BitVec 16) : Word := s.gpr base + immSext offset

/-- The target of a PC-relative branch at `pc` (43_branch.md R383). -/
def branchTarget (pc : Word) (offset : BitVec 16) : Word := pc + 4 + (offset ++ 0#2).signExtend 64

/-- The target of J and JAL at `pc` (43_branch.md R383). -/
def jumpTarget (pc : Word) (target : BitVec 26) : Word := (pc + 4).extractLsb' 28 36 ++ (target ++ 0#2)

/-- The low word of a register. -/
def low32 (v : Word) : Word32 := v.extractLsb' 0 32

/-- A word result: sign-extended to 64 bits (00_scope.md R15). -/
def sext32 (w : Word32) : Word := w.signExtend 64

/-- The value is a sign-extended word (00_scope.md R15). -/
def isWord (v : Word) : Bool := v == sext32 (low32 v)

/-- The result of a 32-bit operation: free where a source is no sign-extended word (41_alu.md R305; entry 24). -/
def State.wordResult (s : State) (sources : List Word) (v : Word32) : Word :=
  if sources.all isWord then sext32 v else s.draw 64 .result

/-- 1 or 0, the result of a comparison (41_alu.md R280). -/
def ofBool (b : Bool) : Word := if b then 1 else 0

end Machine
end Sys2Proof
end

