-- ==== Sys2Proof/Machine/Flags.lean ====
section
/-! DEFINITION. Conditions of the integer unit, which has no flag register (10_state.md R40): signed overflow, and the
comparisons. The floating-point condition bits are computed in Sys2Proof/Machine/Float.lean. -/

namespace Sys2Proof
namespace Machine

/-- Signed overflow of a 32-bit sum: bits 32 and 31 of the 33-bit sum differ (41_alu.md R281, R291). -/
def addOverflows32 (a b : Word32) : Bool :=
  let t := a.signExtend 33 + b.signExtend 33
  t.getLsbD 32 != t.getLsbD 31

/-- Signed overflow of a 32-bit difference (41_alu.md R295). -/
def subOverflows32 (a b : Word32) : Bool :=
  let t := a.signExtend 33 - b.signExtend 33
  t.getLsbD 32 != t.getLsbD 31

/-- Signed overflow of a 64-bit sum: bits 64 and 63 of the 65-bit sum differ (41_alu.md R282, R292). -/
def addOverflows64 (a b : Word) : Bool :=
  let t := a.signExtend 65 + b.signExtend 65
  t.getLsbD 64 != t.getLsbD 63

/-- Signed overflow of a 64-bit difference (41_alu.md R296). -/
def subOverflows64 (a b : Word) : Bool :=
  let t := a.signExtend 65 - b.signExtend 65
  t.getLsbD 64 != t.getLsbD 63

/-- `a <s b` on 64 bits (00_scope.md R12). -/
def ltSigned (a b : Word) : Bool := a.slt b

/-- `a <u b` on 64 bits (00_scope.md R12). -/
def ltUnsigned (a b : Word) : Bool := a.ult b

end Machine
end Sys2Proof
end

