-- ==== Sys2Proof/Machine/Alu.lean ====
section
/-! DEFINITION. Integer arithmetic and logic: 41_alu.md. -/

namespace Sys2Proof
namespace Machine

/-- A 32-bit operation that traps on overflow (41_alu.md R280, R305): free, and no trap, where a source is no sign-extended
word. -/
def State.trappingWord (s : State) (r : RegNum) (sources : List Word) (overflow : Bool) (v : Word32) : Out :=
  if sources.all isWord && overflow then s.raise .overflow else s.writeGpr r (s.wordResult sources v)

/-- A 64-bit operation that traps on overflow (41_alu.md R280). -/
def State.trappingDouble (s : State) (r : RegNum) (overflow : Bool) (v : Word) : Out :=
  if overflow then s.raise .overflow else s.writeGpr r v

/-- ADDI (41_alu.md R281). -/
def execAddi (rt rs : RegNum) (imm : BitVec 16) (s : State) : Out :=
  let a := s.gpr rs
  let i := imm.signExtend 32
  s.trappingWord rt [a] (addOverflows32 (low32 a) i) (low32 a + i)

/-- DADDI (41_alu.md R282). -/
def execDaddi (rt rs : RegNum) (imm : BitVec 16) (s : State) : Out :=
  let a := s.gpr rs
  s.trappingDouble rt (addOverflows64 a (immSext imm)) (a + immSext imm)

/-- ADDIU (41_alu.md R283). -/
def execAddiu (rt rs : RegNum) (imm : BitVec 16) (s : State) : Out :=
  let a := s.gpr rs
  s.writeGpr rt (s.wordResult [a] (low32 a + imm.signExtend 32))

/-- DADDIU (41_alu.md R284). -/
def execDaddiu (rt rs : RegNum) (imm : BitVec 16) (s : State) : Out :=
  s.writeGpr rt (s.gpr rs + immSext imm)

/-- SLTI (41_alu.md R285). -/
def execSlti (rt rs : RegNum) (imm : BitVec 16) (s : State) : Out :=
  s.writeGpr rt (ofBool (ltSigned (s.gpr rs) (immSext imm)))

/-- SLTIU (41_alu.md R286). -/
def execSltiu (rt rs : RegNum) (imm : BitVec 16) (s : State) : Out :=
  s.writeGpr rt (ofBool (ltUnsigned (s.gpr rs) (immSext imm)))

/-- ANDI (41_alu.md R287). -/
def execAndi (rt rs : RegNum) (imm : BitVec 16) (s : State) : Out :=
  s.writeGpr rt (s.gpr rs &&& immZext imm)

/-- ORI (41_alu.md R288). -/
def execOri (rt rs : RegNum) (imm : BitVec 16) (s : State) : Out :=
  s.writeGpr rt (s.gpr rs ||| immZext imm)

/-- XORI (41_alu.md R289). -/
def execXori (rt rs : RegNum) (imm : BitVec 16) (s : State) : Out :=
  s.writeGpr rt (s.gpr rs ^^^ immZext imm)

/-- LUI (41_alu.md R290). -/
def execLui (rt : RegNum) (imm : BitVec 16) (s : State) : Out :=
  s.writeGpr rt (immUpper imm)

/-- ADD (41_alu.md R291). -/
def execAdd (rd rs rt : RegNum) (s : State) : Out :=
  let a := s.gpr rs
  let b := s.gpr rt
  s.trappingWord rd [a, b] (addOverflows32 (low32 a) (low32 b)) (low32 a + low32 b)

/-- DADD (41_alu.md R292). -/
def execDadd (rd rs rt : RegNum) (s : State) : Out :=
  s.trappingDouble rd (addOverflows64 (s.gpr rs) (s.gpr rt)) (s.gpr rs + s.gpr rt)

/-- ADDU (41_alu.md R293). -/
def execAddu (rd rs rt : RegNum) (s : State) : Out :=
  let a := s.gpr rs
  let b := s.gpr rt
  s.writeGpr rd (s.wordResult [a, b] (low32 a + low32 b))

/-- DADDU (41_alu.md R294). -/
def execDaddu (rd rs rt : RegNum) (s : State) : Out :=
  s.writeGpr rd (s.gpr rs + s.gpr rt)

/-- SUB (41_alu.md R295). -/
def execSub (rd rs rt : RegNum) (s : State) : Out :=
  let a := s.gpr rs
  let b := s.gpr rt
  s.trappingWord rd [a, b] (subOverflows32 (low32 a) (low32 b)) (low32 a - low32 b)

/-- DSUB (41_alu.md R296). -/
def execDsub (rd rs rt : RegNum) (s : State) : Out :=
  s.trappingDouble rd (subOverflows64 (s.gpr rs) (s.gpr rt)) (s.gpr rs - s.gpr rt)

/-- SUBU (41_alu.md R297). -/
def execSubu (rd rs rt : RegNum) (s : State) : Out :=
  let a := s.gpr rs
  let b := s.gpr rt
  s.writeGpr rd (s.wordResult [a, b] (low32 a - low32 b))

/-- DSUBU (41_alu.md R298). -/
def execDsubu (rd rs rt : RegNum) (s : State) : Out :=
  s.writeGpr rd (s.gpr rs - s.gpr rt)

/-- SLT (41_alu.md R299). -/
def execSlt (rd rs rt : RegNum) (s : State) : Out :=
  s.writeGpr rd (ofBool (ltSigned (s.gpr rs) (s.gpr rt)))

/-- SLTU (41_alu.md R300). -/
def execSltu (rd rs rt : RegNum) (s : State) : Out :=
  s.writeGpr rd (ofBool (ltUnsigned (s.gpr rs) (s.gpr rt)))

/-- AND (41_alu.md R301). -/
def execAnd (rd rs rt : RegNum) (s : State) : Out :=
  s.writeGpr rd (s.gpr rs &&& s.gpr rt)

/-- OR (41_alu.md R302). -/
def execOr (rd rs rt : RegNum) (s : State) : Out :=
  s.writeGpr rd (s.gpr rs ||| s.gpr rt)

/-- XOR (41_alu.md R303). -/
def execXor (rd rs rt : RegNum) (s : State) : Out :=
  s.writeGpr rd (s.gpr rs ^^^ s.gpr rt)

/-- NOR (41_alu.md R304). -/
def execNor (rd rs rt : RegNum) (s : State) : Out :=
  s.writeGpr rd (~~~(s.gpr rs ||| s.gpr rt))

end Machine
end Sys2Proof
end

