-- ==== Sys2Proof/Machine/Branch.lean ====
section
/-! DEFINITION. Jumps and branches: 43_branch.md. -/

namespace Sys2Proof
namespace Machine

/-- A branch, jump or ERET in a delay slot is refused (43_branch.md R382). -/
def State.outsideSlot (s : State) (act : Out) : Out :=
  if s.inDelaySlot then .refused .branchInDelaySlot else act

/-- On to the delay slot of the branch at the pc (43_branch.md R360); the slot must lie in the segment of the branch
(10_state.md R36; D21, entry 55). -/
def State.enterSlot (s : State) (target : Option Word) : Out :=
  if s.leavesAfter 4 then .refused .leavesSegment else .next { s with pc := s.pc + 4, delay := .slot target }

/-- An ordinary branch (43_branch.md R360, R383). -/
def State.branch (s : State) (taken : Bool) (offset : BitVec 16) : Out :=
  s.enterSlot (if taken then some (branchTarget s.pc offset) else none)

/-- A branch-likely: not taken, its delay slot is nullified (43_branch.md R360), and the instruction after the slot must lie in the
segment of the branch (10_state.md R36; D21, entry 55). -/
def State.branchLikely (s : State) (taken : Bool) (offset : BitVec 16) : Out :=
  if taken then s.enterSlot (some (branchTarget s.pc offset))
  else if s.leavesAfter 8 then .refused .leavesSegment
  else .next { s with pc := s.pc + 8, delay := .none }

/-- The link value of the instruction at the pc (43_branch.md R384). -/
def State.linkValue (s : State) : Word := s.pc + 8

/-- Write the link register r31, taken or not (43_branch.md R384). -/
def State.link (s : State) : State := s.setGpr 31 s.linkValue

/-- An and-link branch must not read r31 (43_branch.md R372). -/
def linkAllowed (rs : RegNum) (act : Out) : Out :=
  if rs = 31 then .refused .linkRegisterSource else act

/-- `GPR[rs] <s 0` (43_branch.md R370). -/
def State.isNegative (s : State) (rs : RegNum) : Bool := ltSigned (s.gpr rs) 0

/-- `GPR[rs] <=s 0` (43_branch.md R368). -/
def State.isNotPositive (s : State) (rs : RegNum) : Bool := !ltSigned 0 (s.gpr rs)

/-- J (43_branch.md R362). -/
def execJ (target : BitVec 26) (s : State) : Out :=
  s.outsideSlot (s.enterSlot (some (jumpTarget s.pc target)))

/-- JAL (43_branch.md R363). -/
def execJal (target : BitVec 26) (s : State) : Out :=
  s.outsideSlot (s.link.enterSlot (some (jumpTarget s.pc target)))

/-- JALR (43_branch.md R364). -/
def execJalr (rd rs : RegNum) (s : State) : Out :=
  s.outsideSlot (
    if rd = rs then .refused .jalrSameRegister
    else (s.setGpr rd s.linkValue).enterSlot (some (s.gpr rs)))

/-- JR (43_branch.md R365). -/
def execJr (rs : RegNum) (s : State) : Out :=
  s.outsideSlot (s.enterSlot (some (s.gpr rs)))

/-- BEQ (43_branch.md R366). -/
def execBeq (rs rt : RegNum) (offset : BitVec 16) (s : State) : Out :=
  s.outsideSlot (s.branch (s.gpr rs == s.gpr rt) offset)

/-- BNE (43_branch.md R367). -/
def execBne (rs rt : RegNum) (offset : BitVec 16) (s : State) : Out :=
  s.outsideSlot (s.branch (s.gpr rs != s.gpr rt) offset)

/-- BLEZ (43_branch.md R368). -/
def execBlez (rs : RegNum) (offset : BitVec 16) (s : State) : Out :=
  s.outsideSlot (s.branch (s.isNotPositive rs) offset)

/-- BGTZ (43_branch.md R369). -/
def execBgtz (rs : RegNum) (offset : BitVec 16) (s : State) : Out :=
  s.outsideSlot (s.branch (!s.isNotPositive rs) offset)

/-- BLTZ (43_branch.md R370). -/
def execBltz (rs : RegNum) (offset : BitVec 16) (s : State) : Out :=
  s.outsideSlot (s.branch (s.isNegative rs) offset)

/-- BGEZ (43_branch.md R371). -/
def execBgez (rs : RegNum) (offset : BitVec 16) (s : State) : Out :=
  s.outsideSlot (s.branch (!s.isNegative rs) offset)

/-- BLTZAL (43_branch.md R372). -/
def execBltzal (rs : RegNum) (offset : BitVec 16) (s : State) : Out :=
  s.outsideSlot (linkAllowed rs (s.link.branch (s.isNegative rs) offset))

/-- BGEZAL (43_branch.md R373). -/
def execBgezal (rs : RegNum) (offset : BitVec 16) (s : State) : Out :=
  s.outsideSlot (linkAllowed rs (s.link.branch (!s.isNegative rs) offset))

/-- BEQL (43_branch.md R374). -/
def execBeql (rs rt : RegNum) (offset : BitVec 16) (s : State) : Out :=
  s.outsideSlot (s.branchLikely (s.gpr rs == s.gpr rt) offset)

/-- BNEL (43_branch.md R375). -/
def execBnel (rs rt : RegNum) (offset : BitVec 16) (s : State) : Out :=
  s.outsideSlot (s.branchLikely (s.gpr rs != s.gpr rt) offset)

/-- BLEZL (43_branch.md R376). -/
def execBlezl (rs : RegNum) (offset : BitVec 16) (s : State) : Out :=
  s.outsideSlot (s.branchLikely (s.isNotPositive rs) offset)

/-- BGTZL (43_branch.md R377). -/
def execBgtzl (rs : RegNum) (offset : BitVec 16) (s : State) : Out :=
  s.outsideSlot (s.branchLikely (!s.isNotPositive rs) offset)

/-- BLTZL (43_branch.md R378). -/
def execBltzl (rs : RegNum) (offset : BitVec 16) (s : State) : Out :=
  s.outsideSlot (s.branchLikely (s.isNegative rs) offset)

/-- BGEZL (43_branch.md R379). -/
def execBgezl (rs : RegNum) (offset : BitVec 16) (s : State) : Out :=
  s.outsideSlot (s.branchLikely (!s.isNegative rs) offset)

/-- BLTZALL (43_branch.md R380). -/
def execBltzall (rs : RegNum) (offset : BitVec 16) (s : State) : Out :=
  s.outsideSlot (linkAllowed rs (s.link.branchLikely (s.isNegative rs) offset))

/-- BGEZALL (43_branch.md R381). -/
def execBgezall (rs : RegNum) (offset : BitVec 16) (s : State) : Out :=
  s.outsideSlot (linkAllowed rs (s.link.branchLikely (!s.isNegative rs) offset))

end Machine
end Sys2Proof
end

