-- ==== Sys2Proof/Machine/Translate.lean ====
section
/-! DEFINITION. Address spaces and translation: 20_memory.md R142 to R158. -/

namespace Sys2Proof
namespace Machine

/-- The kinds of access (20_memory.md R150). -/
inductive Access where
  | fetch
  | load
  | store
deriving DecidableEq, Repr

/-- The access is a store. -/
def Access.isStore (k : Access) : Bool := k == .store

/-- The row of the segment table an address lies in (20_memory.md R143). -/
inductive Segment where
  | mapped
  | unmapped (pa : PAddr) (attr : BitVec 3)
  | addressError
deriving DecidableEq, Repr

/-- The segment table (20_memory.md R143 to R147): the modes, the translation and the attribute of each segment; `k0` is
Config.K0. -/
def segment (m : Mode) (k0 : BitVec 3) (va : Word) : Segment :=
  let forModes (allowed : Bool) (row : Segment) : Segment := if allowed then row else .addressError
  match segmentName va with
  | .xuseg => .mapped
  | .xsseg | .csseg => forModes (m != .user) .mapped
  | .xkphys => forModes (m == .kernel) (.unmapped (va.extractLsb' 0 40) (va.extractLsb' 59 3))
  | .ckseg0 => forModes (m == .kernel) (.unmapped ((va.extractLsb' 0 29).setWidth 40) k0)
  | .ckseg1 => forModes (m == .kernel) (.unmapped ((va.extractLsb' 0 29).setWidth 40) 2)
  | .xkseg | .ckseg3 => forModes (m == .kernel) .mapped
  | .gap => .addressError

/-- An entry matches an address under an ASID (20_memory.md R151). -/
def TlbEntry.matchesVa (e : TlbEntry) (asid : BitVec 8) (va : Word) : Bool :=
  let keep := ~~~(e.mask.setWidth 31)
  (e.vpn2 &&& keep) == (va.extractLsb' 13 31 &&& keep) && e.r == va.extractLsb' 62 2 && (e.g || e.asid == asid)

/-- The number of 1 bits of a Mask: the page size is 4 KB times 2 to this power (20_memory.md R150). -/
def maskBits (mask : BitVec 12) : Nat := (List.range 12).countP fun i => mask.getLsbD i

/-- The page of an entry that an address selects (20_memory.md R150, R152). -/
def TlbEntry.page (e : TlbEntry) (va : Word) : TlbPage :=
  if va.getLsbD (12 + maskBits e.mask) then e.page1 else e.page0

/-- The physical address: the frame number above the page offset (20_memory.md R150, R152). -/
def TlbEntry.physical (e : TlbEntry) (va : Word) : PAddr :=
  let k := maskBits e.mask
  BitVec.ofNat 40 ((e.page va).pfn.toNat / 2 ^ k * 2 ^ (12 + k) + va.toNat % 2 ^ (12 + k))

/-- The access checks of the page an entry gives, and the translation (20_memory.md R150 step 4, R153, R154). -/
def TlbEntry.translate (e : TlbEntry) (kind : Access) (va : Word) : Chk (PAddr × BitVec 3) :=
  let p := e.page va
  if !p.v then .raise (.tlbInvalid kind.isStore va)
  else if kind == .store && !p.d then .raise (.tlbModified va)
  else if kind == .fetch && p.e then .raise (.addressError false va)
  else .pass (e.physical va, p.c)

/-- The translation the TLB gives now (20_memory.md R150 step 4). -/
def State.translateTlb (s : State) (kind : Access) (va : Word) : Chk (PAddr × BitVec 3) :=
  match s.tlb.toList.filter fun e => e.matchesVa s.cp0.entryHi.asid va with
  | [] => .raise (.tlbRefill kind.isStore va)
  | [e] => e.translate kind va
  | _ => .fault .multipleTlbMatch

/-- A valid page of a stale entry answers for an address: under the ASID that was current with it, and with the size of its own Mask or
with that of PageMask, from which the ITLB takes the size (20_memory.md R155, R158; either is DEDUCED,
entry 10). -/
def State.staleServes (s : State) (va : Word) (p : TlbEntry × BitVec 8) : Bool :=
  [p.1, { p.1 with mask := s.cp0.pageMask }].any fun e => e.matchesVa p.2 va && (e.page va).v

/-- The translations that the ITLB may still hold (20_memory.md R158); the use of an entry whose Mask is not that of PageMask is refused
(R155; entry 10). -/
def State.staleTranslations (s : State) (va : Word) : List (Chk (PAddr × BitVec 3)) :=
  (s.itlbStale.filter (s.staleServes va)).map fun p =>
    if p.1.mask == s.cp0.pageMask then p.1.translate .fetch va else .refuse .mixedPageSizes

/-- The page sizes agree for a mapped access: every entry with a valid page has the Mask of PageMask (20_memory.md R155; entry 32). -/
def State.pageSizesAgree (s : State) : Bool :=
  s.tlb.toList.all fun e => !e.mayBeCached || e.mask == s.cp0.pageMask

/-- The page sizes agree for TLBWI and TLBWR (20_memory.md R155, D31): as for a mapped access, but without the entries that a reset
left undefined and nothing has written since, which those instructions are there to initialise (70_reset_and_hazards.md R712; DEDUCED,
entry 32). -/
def State.writtenSizesAgree (s : State) : Bool :=
  (s.tlb.toList.zip s.tlbWritten.toList).all fun p => !(p.2 && p.1.mayBeCached) || p.1.mask == s.cp0.pageMask

/-- The translation of a mapped address: a fetch may use a stale one (20_memory.md R158; entry 10). -/
def State.translateMapped (s : State) (kind : Access) (va : Word) : Chk (PAddr × BitVec 3) :=
  if !s.pageSizesAgree then .refuse .mixedPageSizes
  else
    let now := s.translateTlb kind va
    match kind with
    | .fetch =>
      let choices := (now :: s.staleTranslations va).dedup
      choices.getD (s.drawBelow choices.length .fetchPath) now
    | _ => now

/-- An access may use the attribute code (20_memory.md R160); the others are reserved (R148). -/
def attributeKnown (attr : BitVec 3) : Bool := attr == 2 || attr == 3 || attr == 7

/-- `Translate(va, kind)` (20_memory.md R150): the physical address and the cache attribute. -/
def State.translate (s : State) (kind : Access) (va : Word) : Chk (PAddr × BitVec 3) :=
  if s.mode == .undefined then .refuse .undefinedMode
  else if s.cp0.status.erl && va.extractLsb' 62 2 == 0 then .refuse .errorLevelUserSegment
  else
    let result : Chk (PAddr × BitVec 3) :=
      match segment s.mode s.cp0.configK0 va with
      | .addressError => .raise (.addressError kind.isStore va)
      | .unmapped pa attr => .pass (pa, attr)
      | .mapped => s.translateMapped kind va
    result.bind fun r => if attributeKnown r.2 then .pass r else .refuse .reservedAttribute

/-- The alignment check, before any translation (20_memory.md R135, R137), then the translation. -/
def State.translateAligned (s : State) (kind : Access) (va : Word) (size : Nat) : Chk (PAddr × BitVec 3) :=
  if va.toNat % size ≠ 0 then .raise (.addressError kind.isStore va) else s.translate kind va

end Machine
end Sys2Proof
end

