-- ==== Sys2Proof/Machine/Cache.lean ====
section
/-! DEFINITION. The physical map and the caches: 10_state.md R107 to R111, 20_memory.md R160 to R166, R192, R196. -/

namespace Sys2Proof
namespace Machine

/-! ## The physical map (RAM_MAP, 20_memory.md R192) -/

/-- Physical address of the DDR configuration register (60_exceptions.md R656). -/
def ddrConfigAddress : Nat := 0x1FF00008

/-- Physical address of the DDR sample-point register (60_exceptions.md R657). -/
def ddrSampleAddress : Nat := 0x1FF00030

/-- `n` bytes at `a` lie inside the 4 bytes of the register at `reg`. -/
def insideRegister (reg a n : Nat) : Bool := decide (reg ≤ a ∧ a + n ≤ reg + 4)

/-- What one physical address holds; the two registers of the DDR controller are a device. -/
def State.kindAt (s : State) (a : Nat) : Option RegionKind :=
  if insideRegister ddrConfigAddress a 1 || insideRegister ddrSampleAddress a 1 then some .device
  else (s.ramMap.find? fun r => decide (r.base ≤ a ∧ a < r.base + r.size)).map (·.kind)

/-- What lies at each of `n` addresses from `pa` upwards. -/
def State.kindsOf (s : State) (pa : PAddr) (n : Nat) : List (Option RegionKind) :=
  (List.range n).map fun i => s.kindAt (pa + BitVec.ofNat 40 i).toNat

/-- The bus error of a read: of a fetch or of a load (60_exceptions.md R627). -/
def busError (fetch : Bool) : Exc := if fetch then .busFetch else .busData

/-- A read of `n` bytes is answered: one that reaches an absent address is a bus error (60_exceptions.md R627), and one that
reaches an address RAM_MAP does not describe is refused (20_memory.md R192). -/
def State.answers (s : State) (pa : PAddr) (n : Nat) (fetch : Bool) : Chk Unit :=
  if (s.kindsOf pa n).contains (some .absent) then .raise (busError fetch)
  else if (s.kindsOf pa n).contains none then .refuse .undescribedAddress
  else .pass ()

/-- An access of `n` bytes reaches no address that RAM_MAP does not describe; otherwise it is refused (20_memory.md R192, D26). -/
def State.described (s : State) (pa : PAddr) (n : Nat) : Chk Unit :=
  if (s.kindsOf pa n).contains none then .refuse .undescribedAddress else .pass ()

/-- What the DDR configuration register reads as: bits 31:30 are undefined, and any value before software writes it
(60_exceptions.md R656; entry 37). -/
def State.ddrConfigRead (s : State) : Word32 :=
  if s.ddrReady then s.draw 2 .ddr ++ s.ddrConfig.extractLsb' 0 30 else s.draw 32 .ddr

/-- What the DDR sample-point register reads as: bits 31:2 are not stated, and any value where the sample point is 11 or
nothing has been written (60_exceptions.md R657; entry 37). -/
def State.ddrSampleRead (s : State) : Word32 :=
  if s.sampleReady && s.ddrSample.extractLsb' 0 2 != 3 then s.draw 30 .ddr ++ s.ddrSample.extractLsb' 0 2 else s.draw 32 .ddr

/-- A byte of a 32-bit register at `reg`. -/
def registerByte (r : Word32) (reg a : Nat) : Byte := r.extractLsb' (8 * (a - reg)) 8

/-- A 32-bit register at `reg` with one byte replaced. -/
def registerSet (r : Word32) (reg a : Nat) (b : Byte) : Word32 :=
  let k := 8 * (a - reg)
  (r &&& ~~~(0xFF#32 <<< k)) ||| (b.setWidth 32 <<< k)

/-- The byte that a read past the caches finds at a physical address (RAM_MAP, 20_memory.md R192): what memory holds, a free
value from memory behind a DDR controller that is not configured (60_exceptions.md R656), what a register of the DDR
controller reads as, or what another device answers, which is free (00_scope.md R18; entry 38). -/
def State.physicalByte (s : State) (a : Nat) : Byte :=
  if insideRegister ddrConfigAddress a 1 then registerByte s.ddrConfigRead ddrConfigAddress a
  else if insideRegister ddrSampleAddress a 1 then registerByte s.ddrSampleRead ddrSampleAddress a
  else
    match s.kindAt a with
    | some .device => s.draw 8 (.device a)
    | some .dram => if s.ddrReady then s.storedByte a else s.draw 8 (.unwritten a)
    | _ => s.storedByte a

/-- `n` bytes from an address upwards as a number, little-endian (20_memory.md R131). -/
def State.readBytes (s : State) (pa : PAddr) : Nat → Nat
  | 0 => 0
  | n + 1 => (s.physicalByte pa.toNat).toNat + 256 * s.readBytes (pa + 1) n

/-- One byte written past the caches: RAM takes it, memory behind a DDR controller that is not configured loses the byte, ROM,
absent addresses and other devices show no effect to the core, nor does the write-back of a line to an address that RAM_MAP does
not describe (20_memory.md R192; entries 37 and 38). -/
def State.writeByte (s : State) (a : Nat) (b : Byte) : State :=
  if insideRegister ddrConfigAddress a 1 then
    { s with ddrConfig := registerSet s.ddrConfig ddrConfigAddress a b, ddrReady := true }
  else if insideRegister ddrSampleAddress a 1 then
    { s with ddrSample := registerSet s.ddrSample ddrSampleAddress a b, sampleReady := true }
  else
    match s.kindAt a with
    | some .ram => { s with memory := Memory.write s.memory a b }
    | some .dram =>
      { s with memory := if s.ddrReady then Memory.write s.memory a b else Memory.erase s.memory a }
    | _ => s

/-- The low `n` bytes of a number written from an address upwards past the caches, little-endian (20_memory.md R131, R161). -/
def State.writeBytes (s : State) (pa : PAddr) : Nat → Nat → State
  | 0, _ => s
  | n + 1, v => (s.writeByte pa.toNat (BitVec.ofNat 8 v)).writeBytes (pa + 1) n (v / 256)

/-! ## Lists of numbered lines -/

/-- The line of a number. -/
def Lines.get? {α : Type} : List (Nat × α) → Nat → Option α
  | [], _ => none
  | (k, v) :: rest, n => if k = n then some v else Lines.get? rest n

/-- The lines with one replaced, numbers still rising. -/
def Lines.put {α : Type} : List (Nat × α) → Nat → α → List (Nat × α)
  | [], n, v => [(n, v)]
  | (k, w) :: rest, n, v =>
    if k < n then (k, w) :: Lines.put rest n v
    else if k = n then (n, v) :: rest
    else (n, v) :: (k, w) :: rest

/-- The numbers are strictly rising. -/
def Lines.sorted {α : Type} : List (Nat × α) → Bool
  | [] => true
  | (k, _) :: rest =>
    (match rest with
     | [] => true
     | (k', _) :: _ => decide (k < k')) && Lines.sorted rest

/-! ## Codes of line states (10_state.md R81, R109; entry 18) -/

/-- The code of a D-cache line state. -/
def DState.code (d : DState) : BitVec 2 :=
  match d with
  | .invalid => 0
  | .valid c => c

/-- The D-cache line state of a code. -/
def DState.ofCode (c : BitVec 2) : DState := if c = 0 then .invalid else .valid c

/-- The state of a D-cache line that holds unmodified data. -/
def DState.filled : DState := .valid (BitVec.ofNat 2 (Config.dCleanCode.val + 1))

/-- The state of a D-cache line that a store has modified. -/
def DState.stored : DState := .valid (BitVec.ofNat 2 (Config.dDirtyCode.val + 1))

/-- The line is in the cache. -/
def DState.isValid (d : DState) : Bool :=
  match d with
  | .invalid => false
  | .valid _ => true

/-- The code of an L2 line state. -/
def L2State.code (l : L2State) : BitVec 2 :=
  match l with
  | .invalid => 0
  | .clean c => c
  | .dirty => 3

/-- The L2 line state of a code. -/
def L2State.ofCode (c : BitVec 2) : L2State := if c = 0 then .invalid else if c = 3 then .dirty else .clean c

/-- The state of an L2 line just filled from memory. -/
def L2State.filled : L2State := .clean (if Config.l2CleanIsTwo then 2 else 1)

/-- The line is in the cache. -/
def L2State.isValid (l : L2State) : Bool :=
  match l with
  | .invalid => false
  | _ => true

/-- The line is modified with respect to memory. -/
def L2State.isDirty (l : L2State) : Bool :=
  match l with
  | .dirty => true
  | _ => false

/-! ## Lines -/

/-- The number of a line: set and way. -/
def lineKey (set way : Nat) : Nat := set * 4 + way

/-- The set of an L1 cache: VA[13:5] (10_state.md R107, R108). -/
def l1Set (va : Word) : Nat := (va.extractLsb' 5 9).toNat

/-- The L1 sets that may hold a physical line: PA[11:5] with any VA[13:12] (20_memory.md R196). -/
def l1AliasSets (pa : PAddr) : List Nat := (List.range 4).map fun i => i * 128 + (pa.extractLsb' 5 7).toNat

/-- The tag of an L1 line: PA[39:12] (10_state.md R107, R108). -/
def l1Tag (pa : PAddr) : BitVec 28 := pa.extractLsb' 12 28

/-- The set of the L2 cache: PA[16:5] (10_state.md R109). -/
def l2Set (pa : PAddr) : Nat := (pa.extractLsb' 5 12).toNat

/-- The tag of an L2 line: PA[39:17] (10_state.md R109). -/
def l2Tag (pa : PAddr) : BitVec 23 := pa.extractLsb' 17 23

/-- The address of the 32-byte line of a physical address. -/
def lineBase (pa : PAddr) : PAddr := pa.extractLsb' 5 35 ++ 0#5

/-- The number of the 32-byte line of a physical address. -/
def lineNumber (pa : PAddr) : Nat := pa.toNat / 32

/-- Place of a physical address in its line. -/
def lineOffset (pa : PAddr) : Nat := pa.toNat % 32

/-- `n` bytes of a line, little-endian. -/
def lineGet (data : BitVec 256) (offset n : Nat) : Nat := data.toNat / 2 ^ (8 * offset) % 2 ^ (8 * n)

/-- A line with `n` bytes replaced, little-endian. -/
def lineSet (data : BitVec 256) (offset n v : Nat) : BitVec 256 :=
  BitVec.ofNat 256 (data.toNat % 2 ^ (8 * offset) + v % 2 ^ (8 * n) * 2 ^ (8 * offset)
    + data.toNat / 2 ^ (8 * (offset + n)) * 2 ^ (8 * (offset + n)))

/-- An I-cache line nothing has touched (10_state.md R111; entry 6). -/
def Caches.untouchedI (c : Caches) (k : Nat) : ILine :=
  if c.epoch = 0 then { tag := 0, valid := false, data := 0 }
  else
    let v := Config.freeBits 285 c.epoch (.line 0 (k / 4) (k % 4))
    { tag := v.extractLsb' 257 28, valid := v.getLsbD 256, data := v.extractLsb' 0 256 }

/-- A D-cache line nothing has touched (10_state.md R111; entry 6). -/
def Caches.untouchedD (c : Caches) (k : Nat) : DLine :=
  if c.epoch = 0 then { tag := 0, state := .invalid, dirty := false, scWay := 0, stateMod := 0, data := 0 }
  else
    let v := Config.freeBits 292 c.epoch (.line 1 (k / 4) (k % 4))
    { tag := v.extractLsb' 264 28, state := .ofCode (v.extractLsb' 262 2), dirty := v.getLsbD 261,
      scWay := v.extractLsb' 259 2, stateMod := v.extractLsb' 256 3, data := v.extractLsb' 0 256 }

/-- An L2 line nothing has touched (10_state.md R111; entry 6). -/
def Caches.untouchedL2 (c : Caches) (k : Nat) : L2Line :=
  if c.epoch = 0 then { tag := 0, state := .invalid, data := 0 }
  else
    let v := Config.freeBits 281 c.epoch (.line 2 (k / 4) (k % 4))
    { tag := v.extractLsb' 258 23, state := .ofCode (v.extractLsb' 256 2), data := v.extractLsb' 0 256 }

/-- The I-cache line of a number. -/
def State.iline (s : State) (k : Nat) : ILine := (Lines.get? s.caches.icache k).getD (s.caches.untouchedI k)

/-- The D-cache line of a number. -/
def State.dline (s : State) (k : Nat) : DLine := (Lines.get? s.caches.dcache k).getD (s.caches.untouchedD k)

/-- The L2 line of a number. -/
def State.l2line (s : State) (k : Nat) : L2Line := (Lines.get? s.caches.l2 k).getD (s.caches.untouchedL2 k)

/-- Replace an I-cache line. -/
def State.setIline (s : State) (k : Nat) (l : ILine) : State :=
  { s with caches := { s.caches with icache := Lines.put s.caches.icache k l } }

/-- Replace a D-cache line. -/
def State.setDline (s : State) (k : Nat) (l : DLine) : State :=
  { s with caches := { s.caches with dcache := Lines.put s.caches.dcache k l } }

/-- Replace an L2 line. -/
def State.setL2line (s : State) (k : Nat) (l : L2Line) : State :=
  { s with caches := { s.caches with l2 := Lines.put s.caches.l2 k l } }

/-- The lines of one I-cache set that hold a physical line. -/
def State.iHits (s : State) (set : Nat) (pa : PAddr) : List Nat :=
  ((List.range 4).map (lineKey set)).filter fun k => (s.iline k).valid && (s.iline k).tag == l1Tag pa

/-- The lines of one D-cache set that hold a physical line. -/
def State.dHits (s : State) (set : Nat) (pa : PAddr) : List Nat :=
  ((List.range 4).map (lineKey set)).filter fun k => (s.dline k).state.isValid && (s.dline k).tag == l1Tag pa

/-- The L2 lines that hold a physical line. -/
def State.l2Hits (s : State) (pa : PAddr) : List Nat :=
  ((List.range 4).map (lineKey (l2Set pa))).filter fun k => (s.l2line k).state.isValid && (s.l2line k).tag == l2Tag pa

/-- All I-cache lines that hold a physical line, in any alias set (20_memory.md R196). -/
def State.iCopies (s : State) (pa : PAddr) : List Nat := (l1AliasSets pa).flatMap fun set => s.iHits set pa

/-- All D-cache lines that hold a physical line, in any alias set (20_memory.md R196). -/
def State.dCopies (s : State) (pa : PAddr) : List Nat := (l1AliasSets pa).flatMap fun set => s.dHits set pa

/-- The one line that answers where several may (one of them, freely). -/
def State.oneOf (s : State) (lookup : Nat) (hits : List Nat) : Option Nat :=
  match hits with
  | [] => none
  | k :: _ => some (hits.getD (s.drawBelow hits.length (.way lookup)) k)

/-! ## Races (20_memory.md R165, R170, R196; entry 8) -/

/-- VA[13:12] of the sets that a D-cache line stands in (20_memory.md R196). -/
def keyColour (k : Nat) : BitVec 2 := BitVec.ofNat 2 (k / 512)

/-- The view of a cached access to an address. -/
def cachedView (va : Word) : View := .cached (va.extractLsb' 12 2)

/-- The D-cache copies of a physical line, without the lines that a reset left undefined and nothing has touched since
(10_state.md R123). -/
def State.touchedD (s : State) (pa : PAddr) : List Nat :=
  (s.dCopies pa).filter fun k => (Lines.get? s.caches.dcache k).isSome

/-- The L2 copies of a physical line, without the lines that a reset left undefined and nothing has touched since
(10_state.md R123). -/
def State.touchedL2 (s : State) (pa : PAddr) : List Nat :=
  (s.l2Hits pa).filter fun k => (Lines.get? s.caches.l2 k).isSome

/-- A gathered store has bytes in common with `n` bytes at `pa`. -/
def State.gathered (s : State) (pa : PAddr) (n : Nat) : Bool :=
  s.gather.any fun g => decide (g.pa.toNat < pa.toNat + n ∧ pa.toNat < g.pa.toNat + g.size)

/-- The record of a byte is still needed: where it was last stored through the D-cache, while the D-cache holds a copy of it, under
any alias (20_memory.md R170, R196); where it was last stored past the caches, while a cache holds a copy or the store still
waits in the gather buffer (R165). -/
def State.recordNeeded (s : State) (r : RacedByte) : Bool :=
  let pa : PAddr := BitVec.ofNat 40 r.address
  match r.view with
  | .uncached => !(s.touchedD pa).isEmpty || !(s.touchedL2 pa).isEmpty || s.gathered pa 1
  | .cached _ => !(s.touchedD pa).isEmpty

/-- Forget the records that are no longer needed. -/
def State.settle (s : State) : State := { s with raced := s.raced.filter s.recordNeeded }

/-- The records of `n` bytes stored through one view. -/
def racedBytes (view : View) (a n : Nat) : List RacedByte := (List.range n).map fun i => { address := a + i, view := view }

/-- `n` bytes at `pa` have been stored through one view, which their records now name (20_memory.md R165, R170, R196). -/
def State.storedThrough (s : State) (view : View) (pa : PAddr) (n : Nat) : State :=
  let others := s.raced.filter fun r => !decide (pa.toNat ≤ r.address ∧ r.address < pa.toNat + n)
  { s with raced := others ++ (racedBytes view pa.toNat n).filter s.recordNeeded }

/-- The places among `n` bytes at `pa` that were last stored through a view. -/
def State.ownPlaces (s : State) (view : View) (pa : PAddr) (n : Nat) : List Nat :=
  (List.range n).filter fun i => s.raced.contains { address := pa.toNat + i, view := view }

/-- The other places. -/
def State.otherPlaces (s : State) (view : View) (pa : PAddr) (n : Nat) : List Nat :=
  (List.range n).filter fun i => !s.raced.contains { address := pa.toNat + i, view := view }

/-- The D-cache copies of a physical line under other aliases than that of an address (20_memory.md R196). -/
def State.aliasCopies (s : State) (va : Word) (pa : PAddr) : List Nat :=
  (s.touchedD pa).filter fun k => keyColour k != va.extractLsb' 12 2

/-- A datum with the bytes at some places taken from another one. -/
def takeBytes (places : List Nat) (own other : Nat) : Nat :=
  (places.foldl (fun d i => lineSet d i 1 (lineGet (BitVec.ofNat 256 other) i 1)) (BitVec.ofNat 256 own)).toNat

/-- One of several copies: the one value where they agree, a free choice where they differ. -/
def State.pickCopy (s : State) (read own : Nat) (others : List Nat) : Nat :=
  if others.isEmpty then own
  else
    let values := (own :: others).dedup
    values.getD (s.drawBelow values.length (.copy read)) own

/-! ## Moving lines (20_memory.md R162, 46_cp0.md R469, R470) -/

/-- The physical address of a D-cache line. -/
def State.dlineBase (s : State) (k : Nat) : PAddr := (s.dline k).tag ++ (BitVec.ofNat 7 (k / 4) ++ 0#5)

/-- The physical address of an L2 line. -/
def State.l2lineBase (s : State) (k : Nat) : PAddr := (s.l2line k).tag ++ (BitVec.ofNat 12 (k / 4) ++ 0#5)

/-- Write the data of a valid and dirty D-cache line to the L2 (46_cp0.md R469): to the L2 line that holds its address, or
where none does to the way that SCWay names. Which of two L2 lines that hold the address takes the data is a free choice, the
model's own (entry 7). The rule does not say what becomes of the line that stood in the way that SCWay names: that it is overwritten
whatever it held, its data lost without a write to memory also where it was valid or dirty, and its L1 copies left as they are, is the
model's choice (DESIGN CHOICE, entry 7). -/
def State.writeBackD (s : State) (k : Nat) : State :=
  let l := s.dline k
  if l.state.isValid && l.dirty then
    let pa := s.dlineBase k
    let target := (s.oneOf 4 (s.l2Hits pa)).getD (lineKey (l2Set pa) l.scWay.toNat)
    s.setL2line target { tag := l2Tag pa, state := .dirty, data := l.data }
  else s

/-- Invalidate a D-cache line; what it held is dropped. Rule R469 sets the state only: that the dirty bit goes too, which a
later Index Store Tag could show, is the model's choice (entry 7). -/
def State.dropD (s : State) (k : Nat) : State :=
  (s.setDline k { s.dline k with state := .invalid, dirty := false }).settle

/-- Invalidate an I-cache line. -/
def State.dropI (s : State) (k : Nat) : State := s.setIline k { s.iline k with valid := false }

/-- Invalidate the L1 copies of an L2 line; with `keep`, the data of a dirty D-cache copy first goes to the L2 line (46_cp0.md
R470 steps 2 and 3, R477). Step 3 speaks of one D-cache line, and R196 of reads only: where several D-cache copies (aliases or ways) of
the L2 line are dirty, all are invalidated and the L2 line takes the whole data of one of them, freely chosen, which is the model's
choice (DESIGN CHOICE, entry 7). -/
def State.dropL1Copies (s : State) (k : Nat) (keep : Bool) : State :=
  let pa := s.l2lineBase k
  let copies := s.dCopies pa
  let dirty := (copies.filter fun d => (s.dline d).dirty).map fun d => (s.dline d).data.toNat
  let s1 :=
    if keep && !dirty.isEmpty then
      s.setL2line k { s.l2line k with state := .dirty, data := BitVec.ofNat 256 (s.pickCopy 3 (dirty.headD 0) dirty.tail) }
    else s
  copies.foldl State.dropD ((s1.iCopies pa).foldl State.dropI s1)

/-- Remove a valid L2 line: its L1 copies go with it (inclusion, 10_state.md R109); with `keep`, modified data is written to
memory (46_cp0.md R470, R478), without it everything is dropped (R477). That bytes of it whose address RAM_MAP does not describe
are lost, where R192 refuses an access, is the model's choice (entry 38). -/
def State.dropL2 (s : State) (k : Nat) (keep : Bool) : State :=
  if (s.l2line k).state.isValid then
    let pa := s.l2lineBase k
    let s1 := s.dropL1Copies k keep
    let l := s1.l2line k
    let s2 := if keep && l.state.isDirty then s1.writeBytes pa 32 l.data.toNat else s1
    (s2.setL2line k { l with state := .invalid }).settle
  else s

/-- The L2 line of a physical address, filled from memory where it misses (20_memory.md R162). The way replaced is free
(10_state.md R110). -/
def State.ensureL2 (s : State) (pa : PAddr) (fetch : Bool) : Run Nat :=
  match s.oneOf (if fetch then 3 else 1) (s.l2Hits pa) with
  | some k => .ok k s
  | none =>
    (s.answers (lineBase pa) 32 fetch).run s fun _ =>
      let k := lineKey (l2Set pa) (s.drawBelow 4 (.victimL2 fetch))
      let s1 := s.dropL2 k true
      .ok k (s1.setL2line k
        { tag := l2Tag pa, state := .filled, data := BitVec.ofNat 256 (s1.readBytes (lineBase pa) 32) })

/-- The D-cache line of an address, filled through the L2 where it misses (20_memory.md R162). Whether RAM_MAP
describes what an access reaches in a line that it hits is checked by the access (R192). The new line has the data that the L2 held before
the line it replaces is written back (entry 7). -/
def State.ensureD (s : State) (va : Word) (pa : PAddr) : Run Nat :=
  match s.oneOf 0 (s.dHits (l1Set va) pa) with
  | some k => .ok k s
  | none =>
    (s.ensureL2 pa false).bind fun below s1 =>
      let k := lineKey (l1Set va) (s1.drawBelow 4 .victimD)
      let s2 := (s1.writeBackD k).dropD k
      .ok k (s2.setDline k
        { tag := l1Tag pa, state := .filled, dirty := false, scWay := BitVec.ofNat 2 (below % 4),
          stateMod := Config.dStateMod, data := (s1.l2line below).data })

/-- The I-cache line of an address, filled through the L2 where it misses (20_memory.md R185). -/
def State.ensureI (s : State) (va : Word) (pa : PAddr) : Run Nat :=
  match s.oneOf 2 (s.iHits (l1Set va) pa) with
  | some k => .ok k s
  | none =>
    (s.ensureL2 pa true).bind fun below s1 =>
      let k := lineKey (l1Set va) (s1.drawBelow 4 .victimI)
      .ok k (s1.setIline k { tag := l1Tag pa, valid := true, data := (s1.l2line below).data })

/-! ## Copies of a datum -/

/-- The datum in the D-cache lines of a list. -/
def State.inD (s : State) (keys : List Nat) (pa : PAddr) (n : Nat) : List Nat :=
  keys.map fun k => lineGet (s.dline k).data (lineOffset pa) n

/-- The datum in the L2 lines of a list. -/
def State.inL2 (s : State) (keys : List Nat) (pa : PAddr) (n : Nat) : List Nat :=
  keys.map fun k => lineGet (s.l2line k).data (lineOffset pa) n

/-- The datum in modified copies, which an uncached read races with (20_memory.md R165). -/
def State.inModified (s : State) (pa : PAddr) (n : Nat) : List Nat :=
  s.inD ((s.touchedD pa).filter fun k => (s.dline k).dirty) pa n
    ++ s.inL2 ((s.touchedL2 pa).filter fun k => (s.l2line k).state.isDirty) pa n

end Machine
end Sys2Proof
end

