-- ==== Sys2Proof/Machine/Access.lean ====
section
/-! DEFINITION. Fetches, loads and stores: 20_memory.md R131 to R141, R160 to R198. -/

namespace Sys2Proof
namespace Machine

/-! ## Uncached space (20_memory.md R161, R163) -/

/-- What a read of `n` bytes past the caches returns: memory, or a modified cached copy that differs from it (20_memory.md R165;
entry 8). A byte that was last stored past the caches is memory's (R170). -/
def State.uncachedValue (s : State) (read : Nat) (pa : PAddr) (n : Nat) (more : List Nat) : Nat :=
  let own := s.readBytes pa n
  let places := (List.range n).filter fun i => !(s.ownPlaces .uncached pa n).contains i
  s.pickCopy read own ((s.inModified pa n).map (takeBytes places own) ++ more)

/-- A load of `n` bytes past the caches (20_memory.md R161). -/
def State.loadUncached (s : State) (pa : PAddr) (n : Nat) : Run Nat :=
  (s.answers pa n false).run s fun _ => .ok (s.uncachedValue 1 pa n []) s

/-! ## Stored code (20_memory.md R185, 70_reset_and_hazards.md R715; entry 8) -/

/-- The numbers of the words that `n` bytes at `pa` touch. -/
def wordsOf (pa : PAddr) (n : Nat) : List Nat :=
  ((List.range n).map fun i => (pa.toNat + i) / 4).dedup

/-- The physical address of a word. -/
def wordAddress (w : Nat) : PAddr := BitVec.ofNat 40 (4 * w)

/-- A content of a word as one version of it, for which the sequence has not begun; it is none of the contents that a fetch through the
views `settled` can return. -/
def versionOf (past : Bool) (settled : List View) (w content : Nat) : CodeVersion :=
  { word := w, value := BitVec.ofNat 32 content, past := past, pushed := false, invalidated := [], settled := settled }

/-- The views through the caches, one for each VA[13:12]. -/
def cachedViews : List View := [.cached 0, .cached 1, .cached 2, .cached 3]

/-- The content of a word of memory. -/
def State.memoryWord (s : State) (w : Nat) : Nat := s.readBytes (wordAddress w) 4

/-- The content of a word below the first-level caches, which a fill of the I-cache takes: the L2's copy, else memory's. -/
def State.belowWord (s : State) (w : Nat) : Nat :=
  match s.touchedL2 (wordAddress w) with
  | k :: _ => lineGet (s.l2line k).data (lineOffset (wordAddress w)) 4
  | [] => s.memoryWord w

/-- The old contents of a word at a store to it. Where no version of it is known, the one that the store found. Where versions are
known, a fetch through a view that is not settled for one may still return that one, and besides the old content is what lies below:
memory's word for the fetches past the caches, the L2's or memory's for the cached ones (20_memory.md R185; entry 8). -/
def State.oldVersions (s : State) (past : Bool) (found : Nat → Nat) (w : Nat) : List CodeVersion :=
  if s.code.any fun v => v.word == w then
    [versionOf past [.uncached] w (s.belowWord w), versionOf past cachedViews w (s.memoryWord w)]
  else [versionOf past [] w (found w)]

/-- The versions after a store to the words `ws`: the old contents before it, in the state `s`, and the new ones. The sequence begins
again for the versions known before; a view for which one of them is settled can still not return that one (20_memory.md R185: the
old or the new contents; entry 8). -/
def State.noteCode (t s : State) (past : Bool) (ws : List Nat) (found after : Nat → Nat) : State :=
  let known := t.code.map fun v => if ws.contains v.word then { v with past := past, pushed := false, invalidated := [] } else v
  let added := ws.flatMap fun w => s.oldVersions past found w ++ [versionOf past [] w (after w)]
  { t with code := known ++ added.filter fun v => !known.contains v }

/-- The contents of the word at `pa` that a fetch through a view may still return (20_memory.md R185). -/
def State.versionsFor (s : State) (view : View) (pa : PAddr) : List Nat :=
  (s.code.filter fun v => v.word == pa.toNat / 4 && !v.settled.contains view).map fun v => v.value.toNat

/-! ## The gather buffer of attribute 7 (20_memory.md R163, R166; entry 9) -/

/-- Issue every gathered store, oldest first. -/
def State.drainGather (s : State) : State :=
  { s.gather.foldl (fun t g => t.writeBytes g.pa g.size g.value.toNat) s with gather := [] }

/-- A store goes on from the last gathered one: same type, next address, same line (20_memory.md R163). That stores are of the same
type where they store the same number of bytes, whatever the instruction, is the model's choice (entry 9). -/
def State.gatherContinues (s : State) (pa : PAddr) (n : Nat) : Bool :=
  match s.gather.getLast? with
  | none => true
  | some g => g.size == n && g.pa.toNat + g.size == pa.toNat && lineNumber g.pa == lineNumber pa

/-- The number of bytes gathered. -/
def State.gatheredBytes (s : State) : Nat := (s.gather.map (·.size)).sum

/-- An uncached-accelerated store: gathered where it goes on from the last one, else after the earlier ones are issued; a
full buffer of 32 bytes is written as one block (20_memory.md R163). -/
def State.gatherStore (s : State) (pa : PAddr) (n : Nat) (v : Word) : State :=
  let s1 := if s.gatherContinues pa n then s else s.drainGather
  let s2 := { s1 with gather := s1.gather ++ [{ pa := pa, size := n, value := v }] }
  if s2.gatheredBytes ≥ 32 then s2.drainGather else s2

/-! ## Loads and stores by attribute (20_memory.md R160) -/

/-- The other contents that a cached read of `n` bytes races with where the D-cache line holds `own`: at the places `places`, those
of the copies under other aliases (20_memory.md R196), and memory's where a byte was last stored past the caches (R165). -/
def State.racingValues (s : State) (va : Word) (pa : PAddr) (n own : Nat) (places : List Nat) : List Nat :=
  let past := s.ownPlaces .uncached pa n
  (if past.isEmpty then [] else [takeBytes past own (s.readBytes pa n)])
    ++ (s.inD (s.aliasCopies va pa) pa n).map (takeBytes places own)

/-- What a cached read of `n` bytes returns where the D-cache line holds `own`: a byte that was last stored through the reader's own
attribute and alias is the line's (20_memory.md R170), and any other byte races with the other copies of it (R165, R196; entry
8). -/
def State.cachedValue (s : State) (va : Word) (pa : PAddr) (n own : Nat) : Nat :=
  let places := s.otherPlaces (cachedView va) pa n
  if places.isEmpty then own else s.pickCopy 0 own (s.racingValues va pa n own places)

/-- A cached read: the D-cache line, filled where it misses (20_memory.md R162, R170). What it reaches must be described, where it hits
a line too (R192, D26). -/
def State.loadCached (s : State) (va : Word) (pa : PAddr) (n : Nat) : Run Nat :=
  (s.ensureD va pa).bind fun k s1 =>
    (s1.described pa n).run s1 fun _ => .ok (s1.cachedValue va pa n (lineGet (s1.dline k).data (lineOffset pa) n)) s1

/-- The content of a word of the line in a D-cache line. -/
def State.lineWord (s : State) (k w : Nat) : Nat := lineGet (s.dline k).data (4 * (w % 8)) 4

/-- A store past the caches is complete for the core: its bytes race with cached copies (20_memory.md R165), its words with
their older contents where they are fetched (R185). `drained` gives a state with every gathered store issued. -/
def State.noteUncached (t s : State) (pa : PAddr) (n : Nat) : State :=
  let u := s.drainGather
  (t.storedThrough .uncached pa n).noteCode u true (wordsOf pa n) u.memoryWord t.drainGather.memoryWord

/-- A store of attribute 2, issued after the gathered ones (20_memory.md R161, R163). -/
def State.storeUncached (s : State) (pa : PAddr) (n v : Nat) : State :=
  (s.drainGather.writeBytes pa n v).noteUncached s pa n

/-- A store of attribute 7 (20_memory.md R163). -/
def State.storeAccelerated (s : State) (pa : PAddr) (n : Nat) (v : Word) : State :=
  (s.gatherStore pa n v).noteUncached s pa n

/-- A store into the D-cache line `k` (20_memory.md R162); a copy under another alias then races (R196), and the words with
their older contents where they are fetched (R185). -/
def State.storeLine (s : State) (va : Word) (pa : PAddr) (k n v : Nat) : State :=
  let l := s.dline k
  let t := s.setDline k { l with state := .stored, dirty := true, data := lineSet l.data (lineOffset pa) n v }
  (t.storedThrough (cachedView va) pa n).noteCode s false (wordsOf pa n) (s.lineWord k) (t.lineWord k)

/-- A cached write modifies the D-cache line only, filled where it misses (20_memory.md R162). A store never takes a bus error
(R192): where the fill of the line would, the store goes past the caches (entry 38). What it reaches must be described, where it hits a
line too (R192, D26). -/
def State.storeCached (s : State) (va : Word) (pa : PAddr) (n v : Nat) : Run Unit :=
  match s.ensureD va pa with
  | .ok k s1 => (s1.described pa n).run s1 fun _ => .ok () (s1.storeLine va pa k n v)
  | .raise _ _ => (s.described pa n).run s fun _ => .ok () (s.storeUncached pa n v)
  | .refuse r => .refuse r
  | .fault f => .fault f

/-- `MemRead(pa, n, attr)` for a load (20_memory.md R131, R160). A load of bytes that a gathered store has still to write is refused
(R166; U34). Where such a load also reaches an absent address, itself or by the fill of its line, R192, R198, 40_loadstore.md R265 and
60_exceptions.md R627 name the data bus error, and no rule says which comes first: that the refusal does is the model's choice
(DESIGN CHOICE, entries 9 and 38). -/
def State.memRead (s : State) (va : Word) (pa : PAddr) (attr : BitVec 3) (n : Nat) : Run Nat :=
  if s.gathered pa n then .refuse .gatheredLoad
  else if attr = 3 then s.loadCached va pa n
  else s.loadUncached pa n

/-- `MemWrite(pa, n, v, attr)` (20_memory.md R131, R160). -/
def State.memWrite (s : State) (va : Word) (pa : PAddr) (attr : BitVec 3) (n : Nat) (v : Word) : Run Unit :=
  if attr = 3 then s.storeCached va pa n v.toNat
  else
    (s.described pa n).run s fun _ =>
      .ok () (if attr = 7 then s.storeAccelerated pa n v else s.storeUncached pa n v.toNat)

/-! ## The Watch check (20_memory.md R197, 60_exceptions.md R667, R668) -/

/-- An access touches the watched doubleword, and its kind is watched (20_memory.md R197). -/
def State.watched (s : State) (kind : Access) (pa : PAddr) : Bool :=
  pa.extractLsb' 3 37 == s.cp0.watchHi ++ s.cp0.watchLo.paddr0 &&
    ((kind == .load && s.cp0.watchLo.r) || (kind == .store && s.cp0.watchLo.w))

/-- The Watch check: deferred at exception or error level, else the exception, before which a cached line that misses is
still filled (60_exceptions.md R667, R668; entry 35). That a deferred Watch stays pending where the access then takes a data bus error,
which R668, R627 and R198 do not say, is the model's choice (DESIGN CHOICE, entry 35). -/
def State.watchCheck (s : State) (kind : Access) (va : Word) (pa : PAddr) (attr : BitVec 3) : Run Unit :=
  if !s.watched kind pa then .ok () s
  else if s.cp0.status.exl || s.cp0.status.erl then .ok () { s with pendingWatch := true }
  else if attr = 3 then
    match s.ensureD va pa with
    | .ok _ s1 => .raise .watch s1
    | _ => .raise .watch s
  else .raise .watch s

/-! ## LoadVirt and StoreVirt (00_scope.md R13) -/

/-- The checks of one data access in their order (20_memory.md R198): alignment to `align` bytes, translation, Watch. -/
def State.prepare (s : State) (kind : Access) (va : Word) (align : Nat) : Run (PAddr × BitVec 3) :=
  (s.translateAligned kind va align).run s fun r =>
    (s.watchCheck kind va r.1 r.2).bind fun _ s1 => .ok r s1

/-- `LoadVirt(va, n)`, with the alignment check to `n` bytes (00_scope.md R13). -/
def State.loadVirt (s : State) (va : Word) (n : Nat) : Run Word :=
  (s.prepare .load va n).bind fun r s1 =>
    (s1.memRead va r.1 r.2 n).bind fun v s2 => .ok (BitVec.ofNat 64 v) s2

/-- The load of LWL, LWR, LDL and LDR: `n` bytes from `skip` on of the aligned datum of `size` bytes at `va`; the bytes that are
not touched read as 0 here and are never used (40_loadstore.md R248 to R251, 20_memory.md R136). -/
def State.loadPart (s : State) (va : Word) (size skip n : Nat) : Run Word :=
  (s.prepare .load va size).bind fun r s1 =>
    (s1.memRead (va + BitVec.ofNat 64 skip) (r.1 + BitVec.ofNat 40 skip) r.2 n).bind fun v s2 =>
      .ok (BitVec.ofNat 64 (v * 2 ^ (8 * skip))) s2

/-- `StoreVirt(va, n, v)` with an alignment check to `align` bytes: `n` for a whole datum, 1 for a part of one
(00_scope.md R13, 20_memory.md R136). -/
def State.storeVirt (s : State) (va : Word) (align n : Nat) (v : Word) : Run Unit :=
  (s.prepare .store va align).bind fun r s1 => s1.memWrite va r.1 r.2 n v

/-! ## Instruction fetch (20_memory.md R141, R185) -/

/-- A cached fetch: the I-cache line, filled where it misses. Until the sequence for stored code is complete, the fetch is a
race with the other contents of the word (20_memory.md R185; entry 8). The word must be described, where the fetch hits a line too
(R192, D26). -/
def State.fetchCached (s : State) (va : Word) (pa : PAddr) : Run Nat :=
  (s.ensureI va pa).bind fun k s1 =>
    (s1.described pa 4).run s1 fun _ => .ok (s1.pickCopy 2 (lineGet (s1.iline k).data (lineOffset pa) 4) (s1.versionsFor (cachedView va) pa)) s1

/-- A fetch past the caches (20_memory.md R161, R185). -/
def State.fetchUncached (s : State) (pa : PAddr) : Run Nat :=
  (s.answers pa 4 true).run s fun _ => .ok (s.uncachedValue 2 pa 4 (s.versionsFor .uncached pa)) s

/-- The word at the pc (20_memory.md R141), with the checks of a fetch in their order (R198). -/
def State.fetch (s : State) : Run Word32 :=
  (s.translateAligned .fetch s.pc 4).run s fun r =>
    (if r.2 = 3 then s.fetchCached s.pc r.1 else s.fetchUncached r.1).bind fun v s1 => .ok (BitVec.ofNat 32 v) s1

/-- Four bytes put into memory as they are, whatever lies there. -/
def Memory.pokeWord (m : List Host.Cell) (a : Nat) (w : Word32) : List Host.Cell :=
  (List.range 4).foldl (fun m i => Memory.write m (a + i) (w.extractLsb' (8 * i) 8)) m

/-- A word put into memory and into every cached copy of it, as a loader of programs would (entry 41). -/
def State.poke (s : State) (pa : PAddr) (w : Word32) : State :=
  let s1 := { s with
    memory := Memory.pokeWord s.memory pa.toNat w
    gather := s.gather.filter fun g => !decide (g.pa.toNat < pa.toNat + 4 ∧ pa.toNat < g.pa.toNat + g.size)
    code := s.code.filter fun v => v.word != pa.toNat / 4 }
  let s2 := (s1.iCopies pa).foldl (fun t k =>
    t.setIline k { t.iline k with data := lineSet (t.iline k).data (lineOffset pa) 4 w.toNat }) s1
  let s3 := (s2.dCopies pa).foldl (fun t k =>
    t.setDline k { t.dline k with data := lineSet (t.dline k).data (lineOffset pa) 4 w.toNat }) s2
  (s3.l2Hits pa).foldl (fun t k =>
    t.setL2line k { t.l2line k with data := lineSet (t.l2line k).data (lineOffset pa) 4 w.toNat }) s3

/-- A word put where the next fetch reads it; nothing where that fetch would raise an exception. -/
def State.pokeFetch (s : State) (w : Word32) : State :=
  match s.translateAligned .fetch s.pc 4 with
  | .pass r => s.poke r.1 w
  | _ => s

end Machine
end Sys2Proof
end

