-- ==== Sys2Proof/Machine/Cp0Regs.lean ====
section
/-! DEFINITION. The CP0 registers as software sees them: 10_state.md R41 to R90. -/

namespace Sys2Proof
namespace Machine

/-- One bit. -/
def bit (b : Bool) : BitVec 1 := BitVec.ofBool b

/-- The performance-counter request (60_exceptions.md R644). -/
def State.perfRequest (s : State) : Bool :=
  s.cp0.perfControl.ie7 && (s.cp0.counter0.getLsbD 31 || s.cp0.counter1.getLsbD 31)

/-- Cause.IP[7:0]: timer or counters, the five pins, the two software requests (60_exceptions.md R641). -/
def State.pendingIp (s : State) : BitVec 8 :=
  bit (s.timerIp || s.perfRequest) ++ s.pins.interrupts ++ s.cp0.cause.softIp

/-! ## Reading -/

/-- EntryLo0 or EntryLo1 (10_state.md R45). -/
def EntryLo.word (l : EntryLo) : Word :=
  let low : BitVec 34 := l.pfn ++ l.c ++ bit l.d ++ bit l.v ++ bit l.g
  let e : Word := if l.e then 1 <<< (34 + Config.entryLoEOffset.val) else 0
  low.setWidth 64 ||| e

/-- EntryHi (10_state.md R53). -/
def EntryHi.word (h : EntryHi) : Word := h.r ++ 0#18 ++ h.vpn2 ++ 0#5 ++ h.asid

/-- Context (10_state.md R47). -/
def ContextReg.word (c : ContextReg) : Word := c.pteBase ++ c.badVpn2 ++ 0#4

/-- XContext (10_state.md R74). -/
def XContextReg.word (c : XContextReg) : Word := c.pteBase ++ c.r ++ c.badVpn2 ++ 0#4

/-- Status (10_state.md R55, R56, R60). -/
def StatusReg.word (r : StatusReg) : Word32 :=
  r.cu ++ 0#1 ++ bit r.fr ++ 0#3 ++ bit r.bev ++ 0#1 ++ bit r.sr ++ 0#4 ++ r.im ++ 7#3 ++ r.ksu ++ bit r.erl ++ bit r.exl
    ++ bit r.ie

/-- Cause (10_state.md R63). -/
def State.causeWord (s : State) : Word32 :=
  bit s.cp0.cause.bd ++ 0#1 ++ s.cp0.cause.ce ++ 0#12 ++ s.pendingIp ++ 0#1 ++ s.cp0.cause.excCode ++ 0#2

/-- Config: SB = 1, EW = 0, SC = 0, BE = 0, EB a parameter, IC = DC = 4, IB = DB = 1, K0 (10_state.md R69, R70). -/
def configWord (k0 : BitVec 3) : Word32 :=
  0x00400930#32 ||| (if Config.configEB then 0x2000#32 else 0#32) ||| k0.setWidth 32

/-- WatchLo (10_state.md R72). -/
def WatchLoReg.word (l : WatchLoReg) : Word32 := l.paddr0 ++ 0#1 ++ bit l.r ++ bit l.w

/-- The performance control register (10_state.md R76). -/
def PerfControl.word (p : PerfControl) : Word32 := 0#19 ++ p.event1 ++ p.event0 ++ bit p.ie7 ++ p.enables

/-- The value of CP0 register `r`, a 32-bit register sign-extended (46_cp0.md R452); none for a number without a name
(10_state.md R90). LLAddr and Diagnostic read as free values (R71, R75). -/
def State.cp0Read (s : State) (r : RegNum) : Option Word :=
  let c := s.cp0
  match r.toNat with
  | 0 => some (sext32 (bit c.indexP ++ 0#25 ++ c.index))
  | 1 => some (c.random.setWidth 64)
  | 2 => some c.entryLo0.word
  | 3 => some c.entryLo1.word
  | 4 => some c.context.word
  | 5 => some ((c.pageMask ++ 0#13).setWidth 64)
  | 6 => some (c.wired.setWidth 64)
  | 8 => some c.badVAddr
  | 9 => some (sext32 c.count)
  | 10 => some c.entryHi.word
  | 11 => some (sext32 c.compare)
  | 12 => some (sext32 c.status.word)
  | 13 => some (sext32 s.causeWord)
  | 14 => some c.epc
  | 15 => some (Config.prid.setWidth 64)
  | 16 => some (sext32 (configWord c.configK0))
  | 17 => some (sext32 (s.draw 32 .llAddr))
  | 18 => some (sext32 c.watchLo.word)
  | 19 => some (c.watchHi.setWidth 64)
  | 20 => some c.xcontext.word
  | 22 => some (s.draw 64 .diagnostic)
  | 24 => some (sext32 c.perfControl.word)
  | 25 => some (c.counter1 ++ c.counter0)
  | 28 => some (sext32 c.tagLo)
  | 29 => some (sext32 c.tagHi)
  | 30 => some c.errorEpc
  | _ => none

/-! ## Writing (46_cp0.md R451, R453) -/

/-- The fields a 64-bit value gives EntryLo. A 1 in a reserved bit is refused (10_state.md R42) where DMTC0 writes it; MTC0
(`exact` false) writes bits 31:0, and of the upper half that it makes, sign or free value (46_cp0.md R451), the reserved bits
are ignored: the model's choice (entry 17). -/
def entryLoOf (v : Word) (exact : Bool) : Chk EntryLo :=
  let high : BitVec 30 := v.extractLsb' 34 30
  let field (e : Bool) : EntryLo :=
    { e := e, pfn := v.extractLsb' 6 28, c := v.extractLsb' 3 3, d := v.getLsbD 2, v := v.getLsbD 1, g := v.getLsbD 0 }
  if high = 0 then .pass (field false)
  else if high = 1#30 <<< Config.entryLoEOffset.val then .pass (field true)
  else if exact then .refuse .reservedRegisterBit
  else .pass (field (high.getLsbD Config.entryLoEOffset.val))

/-- The fields a 32-bit value gives Status (10_state.md R55, R56). -/
def statusOf (v : Word32) : StatusReg :=
  { cu := v.extractLsb' 28 4, fr := v.getLsbD 26, bev := v.getLsbD 22, sr := v.getLsbD 20, im := v.extractLsb' 8 8,
    ksu := v.extractLsb' 3 2, erl := v.getLsbD 2, exl := v.getLsbD 1, ie := v.getLsbD 0 }

/-- A register whose reserved bits (a mask) must be written as 0 (10_state.md R42; U6). -/
def whenReservedZero (v mask : Word32) (s : State) : Chk State :=
  if v &&& mask = 0 then .pass s else .refuse .reservedRegisterBit

/-- Write Index (10_state.md R43). Whether software can write P is not stated, so P is free where the value differs from it. -/
def State.writeIndex (s : State) (v : Word32) : Chk State :=
  whenReservedZero v 0x7FFFFFC0 { s with cp0 := { s.cp0 with
    index := v.extractLsb' 0 6
    indexP := if v.getLsbD 31 = s.cp0.indexP then s.cp0.indexP else s.drawBit .indexP } }

/-- Write Wired: Random becomes 63 (10_state.md R44, R49). -/
def State.writeWired (s : State) (v : Word32) : Chk State :=
  whenReservedZero v 0xFFFFFFC0
    { s with cp0 := { s.cp0 with wired := v.extractLsb' 0 6, random := 63 }, randomHold := true }

/-- The delay of software interrupt `n` after a write of `ip` to IP[1:0]: a new one where the write requests it newly
(60_exceptions.md R642; entry 12). -/
def State.softDelayAfter (s : State) (ip : BitVec 2) (n delay : Nat) : Nat :=
  if ip.getLsbD n && !s.cp0.cause.softIp.getLsbD n then
    Config.freeNat s.free (.softInterrupt n) % (Config.softInterruptWindow + 1)
  else delay

/-- Write Cause: only IP[1:0], and a 1 in any other bit is ignored (10_state.md R64; vector V-C0-7 of 95_test_vectors.md writes all
ones). R42 and U6 refuse a 1 in a reserved bit where its effect is not stated: that R64 and the vector go before them here is the
model's choice (DESIGN CHOICE, entry 27). Each of the two requests may be taken a few steps later than it is made, whatever becomes of the other
(60_exceptions.md R642, 70_reset_and_hazards.md R730; entry 12). -/
def State.writeCause (s : State) (v : Word32) : State :=
  let ip := v.extractLsb' 8 2
  { s with
    cp0 := { s.cp0 with cause := { s.cp0.cause with softIp := ip } }
    softDelay0 := s.softDelayAfter ip 0 s.softDelay0
    softDelay1 := s.softDelayAfter ip 1 s.softDelay1 }

/-- Write Config: K0; IB and DB must stay 1, CU must stay 0, bits 31:6 are read-only (10_state.md R69, R70). -/
def State.writeConfig (s : State) (v : Word32) : Chk State :=
  if v.extractLsb' 4 2 ≠ 3 then .refuse .configLineSize
  else whenReservedZero v 0x8 { s with cp0 := { s.cp0 with configK0 := v.extractLsb' 0 3 } }

/-- Write Diagnostic: a 1 in I flushes the ITLB; B and R act on branch prediction only (10_state.md R75). -/
def State.writeDiagnostic (s : State) (v : Word) : State :=
  { s with
    cp0 := { s.cp0 with diagnostic := v }
    itlbStale := if v.getLsbD (Config.diagBits 2).val then [] else s.itlbStale }

/-- Write CP0 register `r` with a 64-bit value (a 32-bit register takes the low half); `exact` is false where the upper half
of the value is MTC0's own making. Read-only registers and fields keep their value (46_cp0.md R451), BadVPN2 of Context too
(93_implementation_defined.md G7); that BadVPN2 and R of XContext do is the model's choice (entry 26). EntryHi ignores a 1 in bits 12:8 as in Fill
(the example in 46_cp0.md R453, vector V-C0-11, writes all ones); that this example goes before 10_state.md R42 and U6 is the model's
choice (DESIGN CHOICE, entry 27). -/
def State.cp0Write (s : State) (r : RegNum) (v : Word) (exact : Bool) : Chk State :=
  let w := low32 v
  let c := s.cp0
  match r.toNat with
  | 0 => s.writeIndex w
  | 1 => .pass s
  | 2 => (entryLoOf v exact).bind fun l => .pass { s with cp0 := { c with entryLo0 := l } }
  | 3 => (entryLoOf v exact).bind fun l => .pass { s with cp0 := { c with entryLo1 := l } }
  | 4 => whenReservedZero w 0xF { s with cp0 := { c with context := { c.context with pteBase := v.extractLsb' 23 41 } } }
  | 5 => whenReservedZero w 0xFE001FFF { s with cp0 := { c with pageMask := v.extractLsb' 13 12 } }
  | 6 => s.writeWired w
  | 8 => .pass s
  | 9 => .pass { s with cp0 := { c with count := w } }
  | 10 => .pass (s.setEntryHi { r := v.extractLsb' 62 2, vpn2 := v.extractLsb' 13 31, asid := v.extractLsb' 0 8 })
  | 11 => .pass { s with cp0 := { c with compare := w }, timerIp := false }
  | 12 => whenReservedZero w 0x0BAF0000 { s with cp0 := { c with status := statusOf w } }
  | 13 => .pass (s.writeCause w)
  | 14 => .pass { s with cp0 := { c with epc := v } }
  | 15 => .pass s
  | 16 => s.writeConfig w
  | 17 => .pass { s with cp0 := { c with llAddr := w } }
  | 18 => .pass { s with
      cp0 := { c with watchLo := { paddr0 := v.extractLsb' 3 29, r := v.getLsbD 1, w := v.getLsbD 0 } }
      pendingWatch := false }
  | 19 => .pass { s with cp0 := { c with watchHi := v.extractLsb' 0 8 } }
  | 20 => whenReservedZero w 0xF { s with cp0 := { c with xcontext := { c.xcontext with pteBase := v.extractLsb' 37 27 } } }
  | 22 => .pass (s.writeDiagnostic v)
  | 24 => .pass { s with cp0 := { c with perfControl :=
      { event1 := v.extractLsb' 9 4, event0 := v.extractLsb' 5 4, ie7 := v.getLsbD 4, enables := v.extractLsb' 0 4 } } }
  | 25 => .pass { s with cp0 := { c with counter1 := v.extractLsb' 32 32, counter0 := w } }
  | 28 => .pass { s with cp0 := { c with tagLo := w } }
  | 29 => .pass { s with cp0 := { c with tagHi := w } }
  | 30 => .pass { s with cp0 := { c with errorEpc := v } }
  | _ => .refuse .unnamedCp0Register

/-- The value MTC0 gives a 64-bit register: the upper half is the sign where GPR[rt] is a sign-extended word, else free
(46_cp0.md R451; entry 26). -/
def State.mtc0Value (s : State) (v : Word) : Word := if isWord v then v else s.draw 32 .cp0Upper ++ low32 v

end Machine
end Sys2Proof
end

