-- ==== Sys2Proof/Machine/Cp0.lean ====
section
/-! DEFINITION. The CP0 instructions: register moves, TLB instructions, ERET and CACHE: 46_cp0.md. -/

namespace Sys2Proof
namespace Machine

/-! ## Register moves -/

/-- A read of CP0 register `rd`: registers 24 and 25 may be read in every mode (46_cp0.md R454); `value` makes the value of
GPR[rt]. -/
def State.moveFromCp0 (s : State) (rt rd : RegNum) (value : Word → Word) : Out :=
  let act :=
    match s.cp0Read rd with
    | some v => s.writeGpr rt (value v)
    | none => .refused .unnamedCp0Register
  if rd.toNat = 24 || rd.toNat = 25 then act else s.whenCp0 act

/-- A write of CP0 register `rd` (46_cp0.md R451, R453); `exact` is true where all 64 bits come from GPR[rt]. -/
def State.moveToCp0 (s : State) (rd : RegNum) (v : Word) (exact : Bool) : Out :=
  s.whenCp0 ((s.cp0Write rd v exact).run s fun t => .ok () t).finish

/-- MFC0 (46_cp0.md R450). -/
def execMfc0 (rt rd : RegNum) (s : State) : Out := s.moveFromCp0 rt rd fun v => sext32 (low32 v)

/-- MTC0 (46_cp0.md R451). The ones that the sign extension of GPR[rt] puts into reserved bits 63:34 of EntryLo0 and EntryLo1 do
not count as written by the program and are ignored: the model's choice (entry 17). -/
def execMtc0 (rt rd : RegNum) (s : State) : Out := s.moveToCp0 rd (s.mtc0Value (s.gpr rt)) false

/-- DMFC0 (46_cp0.md R452). -/
def execDmfc0 (rt rd : RegNum) (s : State) : Out := s.moveFromCp0 rt rd fun v => v

/-- DMTC0 (46_cp0.md R453). -/
def execDmtc0 (rt rd : RegNum) (s : State) : Out := s.moveToCp0 rd (s.gpr rt) true

/-! ## TLB instructions -/

/-- An entry matches EntryHi for TLBP (46_cp0.md R456); whether the region takes part is a parameter. -/
def TlbEntry.matchesHi (e : TlbEntry) (h : EntryHi) : Bool :=
  let keep := ~~~(e.mask.setWidth 31)
  (e.vpn2 &&& keep) == (h.vpn2 &&& keep) && (e.g || e.asid == h.asid) && (e.r == h.r || !Config.tlbpComparesR)

/-- TLBP (46_cp0.md R456). -/
def execTlbp (s : State) : Out :=
  s.whenCp0 (
    match (List.finRange 64).filter fun i => (s.tlb[i]).matchesHi s.cp0.entryHi with
    | [] => { s with cp0 := { s.cp0 with indexP := true, index := s.draw 6 .probeIndex } : State }.advance
    | [i] => { s with cp0 := { s.cp0 with indexP := false, index := BitVec.ofFin i } : State }.advance
    | _ => .fault .multipleTlbMatch)

/-- The EntryLo image of a page with the entry's G (46_cp0.md R458). -/
def TlbPage.entryLo (p : TlbPage) (g : Bool) : EntryLo := { e := p.e, pfn := p.pfn, c := p.c, d := p.d, v := p.v, g := g }

/-- The page of an EntryLo image (46_cp0.md R459). -/
def EntryLo.page (l : EntryLo) : TlbPage := { e := l.e, pfn := l.pfn, c := l.c, d := l.d, v := l.v }

/-- TLBR (46_cp0.md R458). -/
def execTlbr (s : State) : Out :=
  s.whenCp0 (
    let e := s.tlb[s.cp0.index.toNat]'(s.cp0.index.isLt)
    let t := s.setEntryHi { r := e.r, vpn2 := e.vpn2 &&& ~~~(e.mask.setWidth 31), asid := e.asid }
    { t with cp0 := { t.cp0 with
        pageMask := e.mask
        entryLo1 := e.page1.entryLo e.g
        entryLo0 := e.page0.entryLo e.g } : State }.advance)

/-- The seven legal values of PageMask.Mask (10_state.md R48). -/
def pageMaskLegal (m : BitVec 12) : Bool :=
  [0x000, 0x003, 0x00F, 0x03F, 0x0FF, 0x3FF, 0xFFF].contains m.toNat

/-- The entry that EntryHi, EntryLo0, EntryLo1 and PageMask describe (46_cp0.md R459). -/
def Cp0.tlbEntry (c : Cp0) : TlbEntry :=
  { mask := c.pageMask
    r := c.entryHi.r
    vpn2 := c.entryHi.vpn2 &&& ~~~(c.pageMask.setWidth 31)
    g := c.entryLo0.g && c.entryLo1.g
    asid := c.entryHi.asid
    page0 := c.entryLo0.page
    page1 := c.entryLo1.page }

/-- Replace a TLB entry. A fetch may go on using the old one until the ITLB is flushed (20_memory.md R158; entry 10). -/
def State.setTlb (s : State) (i : BitVec 6) (e : TlbEntry) : State :=
  let old := s.tlb[i.toNat]'(i.isLt)
  { s with
    tlb := s.tlb.set i.toNat e i.isLt
    tlbWritten := s.tlbWritten.set i.toNat true i.isLt
    itlbStale := if old.mayBeCached then (old, s.cp0.entryHi.asid) :: s.itlbStale else s.itlbStale }

/-- The common form of TLBWI and TLBWR (46_cp0.md R459, R460). With the new entry in its place, the written entries and PageMask must
have one page size (20_memory.md R155, D31; entry 32). -/
def State.writeTlb (s : State) (i : BitVec 6) : Out :=
  s.whenCp0 (
    if !pageMaskLegal s.cp0.pageMask then .refused .undefinedPageMask
    else
      let t := s.setTlb i s.cp0.tlbEntry
      if t.writtenSizesAgree then t.advance else .refused .mixedPageSizes)

/-- TLBWI (46_cp0.md R459). -/
def execTlbwi (s : State) : Out := s.writeTlb s.cp0.index

/-- TLBWR: the entry Random names, a free value from Wired to 63 (46_cp0.md R460, 10_state.md R44; entry 14). -/
def execTlbwr (s : State) : Out := s.writeTlb s.cp0.random

/-! ## ERET -/

/-- ERET (46_cp0.md R462, R463). -/
def execEret (s : State) : Out := s.whenCp0 (s.outsideSlot (.next s.exceptionReturn))

/-! ## CACHE -/

/-- The D-cache line that an Index operation names (46_cp0.md R467). -/
def dIndexKey (va : Word) : Nat := lineKey (l1Set va) (va.toNat % 4)

/-- The L2 line that an Index operation names (46_cp0.md R467). -/
def sIndexKey (pa : PAddr) : Nat := lineKey (l2Set pa) (pa.toNat % 4)

/-- Byte offset of the doubleword that bits 4:3 of an address name (46_cp0.md R467). -/
def doubleOffset (a : Nat) : Nat := a / 8 % 4 * 8

/-- TagHi and TagLo. -/
def State.setTags (s : State) (hi lo : Word32) : State := { s with cp0 := { s.cp0 with tagHi := hi, tagLo := lo } }

/-- The doubleword of TagHi and TagLo (46_cp0.md R480). -/
def State.tagData (s : State) : Nat := (s.cp0.tagHi ++ s.cp0.tagLo).toNat

/-- Neither the D-cache nor the L2 holds the line of a word. -/
def State.notHeld (s : State) (w : Nat) : Bool :=
  (s.touchedD (wordAddress w)).isEmpty && (s.touchedL2 (wordAddress w)).isEmpty

/-- No D-cache copy of the line of a word is modified. -/
def State.notModified (s : State) (w : Nat) : Bool := !((s.touchedD (wordAddress w)).any fun k => (s.dline k).dirty)

/-- The first part of the sequence for stored code, after an operation on `line` that wrote back what it invalidated (`back`) or
dropped it: for words stored into the D-cache, the line is written back and no modified copy is left; for words stored past
the caches, neither the D-cache nor the L2 holds it (20_memory.md R185, 70_reset_and_hazards.md R715). -/
def State.pushCode (s : State) (line : Option Nat) (back : Bool) : State :=
  let done (v : CodeVersion) : Bool :=
    line == some (v.word / 8) && (if v.past then s.notHeld v.word else back && s.notModified v.word)
  { s with code := s.code.map fun v => if done v then { v with pushed := true } else v }

/-- The second part of the sequence for stored code: the I-cache set that Index Invalidate names is invalidated, for the words of a
line whose first part is done; where the L2 does not hold a line stored past the caches there was nothing to do in the first
part (20_memory.md R185, 70_reset_and_hazards.md R715). -/
def State.invalidateCode (s : State) (va : Word) : State :=
  let named (v : CodeVersion) : Bool :=
    v.word / 8 % 128 == l1Set va % 128 && (v.pushed || (v.past && s.notHeld v.word))
  { s with code := s.code.map fun v =>
      if named v then { v with pushed := true, invalidated := va.extractLsb' 12 2 :: v.invalidated } else v }

/-- The number of the line that a valid D-cache line holds. -/
def State.dlineHeld (s : State) (k : Nat) : Option Nat :=
  if (s.dline k).state.isValid then some (lineNumber (s.dlineBase k)) else none

/-- The number of the line that a valid L2 line holds. -/
def State.l2lineHeld (s : State) (k : Nat) : Option Nat :=
  if (s.l2line k).state.isValid then some (lineNumber (s.l2lineBase k)) else none

/-- Index Invalidate (I), 46_cp0.md R468. -/
def State.cacheIndexInvalidateI (s : State) (va : Word) : State :=
  (((List.range 4).map (lineKey (l1Set va))).foldl State.dropI s).invalidateCode va

/-- Index WriteBack Invalidate (D), 46_cp0.md R469. -/
def State.cacheIndexWriteBackInvalidateD (s : State) (va : Word) : State :=
  ((s.writeBackD (dIndexKey va)).dropD (dIndexKey va)).pushCode (s.dlineHeld (dIndexKey va)) true

/-- Index WriteBack Invalidate (S), 46_cp0.md R470. -/
def State.cacheIndexWriteBackInvalidateS (s : State) (pa : PAddr) : State :=
  (s.dropL2 (sIndexKey pa) true).pushCode (s.l2lineHeld (sIndexKey pa)) true

/-- Index Load Tag (D), 46_cp0.md R471. -/
def State.cacheIndexLoadTagD (s : State) (va : Word) : State :=
  let l := s.dline (dIndexKey va)
  s.setTags (l.stateMod ++ 0#25 ++ l.tag.extractLsb' 24 4) (l.tag.extractLsb' 0 24 ++ l.state.code ++ l.scWay ++ 0#4)

/-- Index Load Tag (S), 46_cp0.md R472. -/
def State.cacheIndexLoadTagS (s : State) (pa : PAddr) : State :=
  let l := s.l2line (sIndexKey pa)
  s.setTags (0#28 ++ l.tag.extractLsb' 19 4) (l.tag.extractLsb' 0 19 ++ 0#1 ++ l.state.code ++ 0#10)

/-- Index Store Tag (D), 46_cp0.md R473: StateMod, data and the dirty bit stay. -/
def State.cacheIndexStoreTagD (s : State) (va : Word) : State :=
  let l := s.dline (dIndexKey va)
  (s.setDline (dIndexKey va) { l with
    scWay := s.cp0.tagLo.extractLsb' 4 2
    state := .ofCode (s.cp0.tagLo.extractLsb' 6 2)
    tag := s.cp0.tagHi.extractLsb' 0 4 ++ s.cp0.tagLo.extractLsb' 8 24 }).settle

/-- Index Store Tag (S), 46_cp0.md R474. -/
def State.cacheIndexStoreTagS (s : State) (pa : PAddr) : State :=
  let l := s.l2line (sIndexKey pa)
  (s.setL2line (sIndexKey pa) { l with
    state := .ofCode (s.cp0.tagLo.extractLsb' 10 2)
    tag := s.cp0.tagHi.extractLsb' 0 4 ++ s.cp0.tagLo.extractLsb' 13 19 }).settle

/-- Hit Invalidate (D), 46_cp0.md R475: dirty data is dropped. -/
def State.cacheHitInvalidateD (s : State) (va : Word) (pa : PAddr) : State :=
  (s.dHits (l1Set va) pa).foldl State.dropD s

/-- Hit WriteBack Invalidate (D), 46_cp0.md R476. -/
def State.cacheHitWriteBackInvalidateD (s : State) (va : Word) (pa : PAddr) : State :=
  ((s.dHits (l1Set va) pa).foldl (fun t k => (t.writeBackD k).dropD k) s).pushCode (some (lineNumber pa)) true

/-- Hit Invalidate (S), 46_cp0.md R477: nothing reaches memory. -/
def State.cacheHitInvalidateS (s : State) (pa : PAddr) : State :=
  ((s.l2Hits pa).foldl (fun t k => t.dropL2 k false) s).pushCode (some (lineNumber pa)) false

/-- Hit WriteBack Invalidate (S), 46_cp0.md R478, which speaks of one way that hits: that every way that hits is taken, in the order
of the ways, is the model's choice, as in the other Hit operations (entry 7). -/
def State.cacheHitWriteBackInvalidateS (s : State) (pa : PAddr) : State :=
  ((s.l2Hits pa).foldl (fun t k => t.dropL2 k true) s).pushCode (some (lineNumber pa)) true

/-- Index Load Data (D), 46_cp0.md R479, R480. -/
def State.cacheIndexLoadDataD (s : State) (va : Word) : State :=
  let d := BitVec.ofNat 64 (lineGet (s.dline (dIndexKey va)).data (doubleOffset va.toNat) 8)
  s.setTags (d.extractLsb' 32 32) (low32 d)

/-- Index Load Data (S), 46_cp0.md R481. -/
def State.cacheIndexLoadDataS (s : State) (pa : PAddr) : State :=
  let d := BitVec.ofNat 64 (lineGet (s.l2line (sIndexKey pa)).data (doubleOffset pa.toNat) 8)
  s.setTags (d.extractLsb' 32 32) (low32 d)

/-- Index Store Data (D), 46_cp0.md R482: tag, state and dirty bit stay. -/
def State.cacheIndexStoreDataD (s : State) (va : Word) : State :=
  let l := s.dline (dIndexKey va)
  s.setDline (dIndexKey va) { l with data := lineSet l.data (doubleOffset va.toNat) 8 s.tagData }

/-- Index Store Data (S), 46_cp0.md R483. -/
def State.cacheIndexStoreDataS (s : State) (pa : PAddr) : State :=
  let l := s.l2line (sIndexKey pa)
  s.setL2line (sIndexKey pa) { l with data := lineSet l.data (doubleOffset pa.toNat) 8 s.tagData }

/-- The operation that the op field selects (46_cp0.md R465); none outside Table 8-3. -/
def State.cacheOp (s : State) (op : BitVec 5) (va : Word) (pa : PAddr) : Option State :=
  match op.toNat with
  | 0 => some (s.cacheIndexInvalidateI va)
  | 1 => some (s.cacheIndexWriteBackInvalidateD va)
  | 5 => some (s.cacheIndexLoadTagD va)
  | 9 => some (s.cacheIndexStoreTagD va)
  | 17 => some (s.cacheHitInvalidateD va pa)
  | 21 => some (s.cacheHitWriteBackInvalidateD va pa)
  | 25 => some (s.cacheIndexLoadDataD va)
  | 29 => some (s.cacheIndexStoreDataD va)
  | 3 => some (s.cacheIndexWriteBackInvalidateS pa)
  | 7 => some (s.cacheIndexLoadTagS pa)
  | 11 => some (s.cacheIndexStoreTagS pa)
  | 19 => some (s.cacheHitInvalidateS pa)
  | 23 => some (s.cacheHitWriteBackInvalidateS pa)
  | 27 => some (s.cacheIndexLoadDataS pa)
  | 31 => some (s.cacheIndexStoreDataS pa)
  | _ => none

/-- CACHE (46_cp0.md R464 to R467): translated as a load, without alignment or Watch check; refused outside Table 8-3 and in
uncached space. That an op outside Table 8-3 whose address does not translate first takes the exception of the address, in the order
of R464, and is not refused for its op (R466, U7), is the model's choice (DESIGN CHOICE, entry 54). -/
def execCache (op : BitVec 5) (offset : BitVec 16) (base : RegNum) (s : State) : Out :=
  let va := s.address base offset
  s.whenCp0 ((s.translate .load va).run s fun r =>
    match s.cacheOp op va r.1 with
    | none => .refuse .undefinedCacheOp
    | some t => if r.2 = 3 then .ok () t else .refuse .uncachedCacheOp).finish

end Machine
end Sys2Proof
end

