-- ==== Sys2Proof/Machine/Float.lean ====
section
/-! DEFINITION. Floating-point values, rounding, arithmetic and comparison on bit patterns: 48_fpu_arith.md R550 to R561,
R581, R586, 47_fpu_move_branch.md R529. Numbers are unpacked exactly, computed exactly and rounded once. -/

namespace Sys2Proof
namespace Machine

/-! ## Formats (48_fpu_arith.md R550, R551) -/

/-- The two floating-point formats; a paired single is two of the first. -/
inductive FpFormat where
  | single
  | double
deriving DecidableEq, Repr

/-- Significand precision, hidden bit included. -/
def FpFormat.precision (f : FpFormat) : Nat :=
  match f with
  | .single => 24
  | .double => 53

/-- Width of the exponent field. -/
def FpFormat.exponentBits (f : FpFormat) : Nat :=
  match f with
  | .single => 8
  | .double => 11

/-- Emax, which is also the bias. -/
def FpFormat.emax (f : FpFormat) : Int :=
  match f with
  | .single => 127
  | .double => 1023

/-- Emin. -/
def FpFormat.emin (f : FpFormat) : Int := 1 - f.emax

/-- Number of fraction bits. -/
def FpFormat.fractionBits (f : FpFormat) : Nat := f.precision - 1

/-- Width of the format. -/
def FpFormat.width (f : FpFormat) : Nat := f.precision + f.exponentBits

/-- The largest exponent field: infinities and NaNs. -/
def FpFormat.exponentMax (f : FpFormat) : Nat := 2 ^ f.exponentBits - 1

/-- A bit pattern from its fields. -/
def FpFormat.pack (f : FpFormat) (neg : Bool) (exponent fraction : Nat) : Nat :=
  (if neg then 2 ^ (f.width - 1) else 0) + exponent * 2 ^ f.fractionBits + fraction

/-- The sign of a bit pattern. -/
def FpFormat.negative (f : FpFormat) (n : Nat) : Bool := n.testBit (f.width - 1)

/-- The exponent field of a bit pattern. -/
def FpFormat.exponent (f : FpFormat) (n : Nat) : Nat := n / 2 ^ f.fractionBits % 2 ^ f.exponentBits

/-- The fraction field of a bit pattern. -/
def FpFormat.fraction (f : FpFormat) (n : Nat) : Nat := n % 2 ^ f.fractionBits

/-- What a bit pattern stands for: a NaN, an infinity, or the number `(-1)^neg * m * 2^e` (48_fpu_arith.md R551). -/
inductive FpValue where
  | nan (signaling : Bool)
  | infinity (neg : Bool)
  | finite (neg : Bool) (m : Nat) (e : Int)
deriving DecidableEq, Repr

/-- The value of a bit pattern (48_fpu_arith.md R551); a NaN whose top fraction bit is set is signaling (R552). -/
def FpFormat.value (f : FpFormat) (n : Nat) : FpValue :=
  let neg := f.negative n
  let ex := f.exponent n
  let fr := f.fraction n
  if ex = f.exponentMax then
    if fr = 0 then .infinity neg else .nan (fr.testBit (f.fractionBits - 1))
  else if ex = 0 then .finite neg fr (f.emin - f.fractionBits)
  else .finite neg (2 ^ f.fractionBits + fr) (ex - f.emax - f.fractionBits)

/-- A denormalised number (48_fpu_arith.md R551). -/
def FpFormat.isDenormal (f : FpFormat) (n : Nat) : Bool := f.exponent n == 0 && f.fraction n != 0

/-- A signed zero. -/
def FpFormat.zero (f : FpFormat) (neg : Bool) : Nat := f.pack neg 0 0

/-- A signed infinity. -/
def FpFormat.infinity (f : FpFormat) (neg : Bool) : Nat := f.pack neg f.exponentMax 0

/-- The largest finite number. -/
def FpFormat.largest (f : FpFormat) (neg : Bool) : Nat := f.pack neg (f.exponentMax - 1) (2 ^ f.fractionBits - 1)

/-- The smallest normal number (48_fpu_arith.md R561). -/
def FpFormat.smallestNormal (f : FpFormat) (neg : Bool) : Nat := f.pack neg 1 0

/-- The default quiet NaN: FP_DEFAULT_QNAN, top fraction bit 0 and the others not all 0 (48_fpu_arith.md R552; entry 22). -/
def FpFormat.defaultNan (f : FpFormat) : Nat :=
  match f with
  | .single =>
    let q := Config.qnanSingle
    f.pack q.1 f.exponentMax (if q.2 = 0 then 2 ^ 22 - 1 else q.2.toNat)
  | .double =>
    let q := Config.qnanDouble
    f.pack q.1 f.exponentMax (if q.2 = 0 then 2 ^ 51 - 1 else q.2.toNat)

/-! ## Cause bits (10_state.md R96) -/

/-- Cause E, unimplemented operation. -/
def causeE : BitVec 6 := 0b100000
/-- Cause V, invalid operation. -/
def causeV : BitVec 6 := 0b010000
/-- Cause Z, division by zero. -/
def causeZ : BitVec 6 := 0b001000
/-- Cause O, overflow. -/
def causeO : BitVec 6 := 0b000100
/-- Cause U, underflow. -/
def causeU : BitVec 6 := 0b000010
/-- Cause I, inexact. -/
def causeI : BitVec 6 := 0b000001

/-- What an operation computes: the Cause bits it detects and its default result (48_fpu_arith.md R553, R561). -/
structure FpResult where
  cause : BitVec 6
  bits : Nat
deriving DecidableEq, Repr

/-- What of FCR31 an operation depends on: RM, and whether tiny results are flushed: FS = 1 with the U and I traps disabled
(48_fpu_arith.md R557). -/
structure FpMode where
  rm : BitVec 2
  flush : Bool
deriving DecidableEq, Repr

/-! ## Rounding (10_state.md R102) -/

/-- Rounding away from zero: from the kept part `q`, the dropped part `r` of `2^shift`, and whether something non-zero lies
below that (10_state.md R102). -/
def roundsUp (rm : BitVec 2) (neg : Bool) (q r shift : Nat) (sticky : Bool) : Bool :=
  match rm.toNat with
  | 0 =>
    let half := 2 ^ shift
    decide (2 * r > half) || (2 * r == half && (sticky || q % 2 == 1))
  | 1 => false
  | 2 => !neg && (r != 0 || sticky)
  | _ => neg && (r != 0 || sticky)

/-- `m * 2^e` (`m` not 0; with `sticky`, a little more in magnitude) rounded to the precision of the format with an unbounded
exponent: significand, exponent of its top bit, and whether the rounding was inexact. -/
def FpFormat.roundSignificand (f : FpFormat) (rm : BitVec 2) (neg : Bool) (m : Nat) (e : Int) (sticky : Bool) :
    Nat × Int × Bool :=
  let length := Nat.log2 m + 1
  let shift := length - f.precision
  let q := m / 2 ^ shift * 2 ^ (f.precision - length)
  let r := m % 2 ^ shift
  let q' := if roundsUp rm neg q r shift sticky then q + 1 else q
  let top := e + length - 1
  if q' = 2 ^ f.precision then (2 ^ f.fractionBits, top + 1, r != 0 || sticky) else (q', top, r != 0 || sticky)

/-- The default result of an overflow (48_fpu_arith.md R561). -/
def FpFormat.overflowed (f : FpFormat) (rm : BitVec 2) (neg : Bool) : Nat :=
  match rm.toNat with
  | 0 => f.infinity neg
  | 1 => f.largest neg
  | 2 => if neg then f.largest true else f.infinity false
  | _ => if neg then f.infinity true else f.largest false

/-- The default result of a flushed underflow (48_fpu_arith.md R561). -/
def FpFormat.flushed (f : FpFormat) (rm : BitVec 2) (neg : Bool) : Nat :=
  match rm.toNat with
  | 2 => if neg then f.zero true else f.smallestNormal false
  | 3 => if neg then f.smallestNormal true else f.zero false
  | _ => f.zero neg

/-- Rounding of an exact non-zero result with overflow, tininess and inexactness (48_fpu_arith.md R556 to R558). -/
def FpFormat.round (f : FpFormat) (md : FpMode) (neg : Bool) (m : Nat) (e : Int) (sticky : Bool) : FpResult :=
  let (q, top, inexact) := f.roundSignificand md.rm neg m e sticky
  if top > f.emax then { cause := causeO ||| causeI, bits := f.overflowed md.rm neg }
  else if top < f.emin then
    if md.flush then { cause := causeU ||| causeI, bits := f.flushed md.rm neg }
    else { cause := causeE, bits := 0 }
  else
    { cause := if inexact then causeI else 0
      bits := f.pack neg (top + f.emax).toNat (q - 2 ^ f.fractionBits) }

/-- An exact result without Cause bits. -/
def FpResult.exact (bits : Nat) : FpResult := { cause := 0, bits := bits }

/-- An invalid operation: the default quiet NaN (48_fpu_arith.md R554, R561). -/
def FpFormat.invalid (f : FpFormat) : FpResult := { cause := causeV, bits := f.defaultNan }

/-- The exact sum of two finite numbers, rounded; an exact zero of opposite signs is -0 with RM = 3 and +0 otherwise
(48_fpu_arith.md R562). -/
def FpFormat.addFinite (f : FpFormat) (md : FpMode) (n1 : Bool) (m1 : Nat) (e1 : Int) (n2 : Bool) (m2 : Nat) (e2 : Int) :
    FpResult :=
  let e := min e1 e2
  let signed (n : Bool) (m : Nat) (x : Int) : Int :=
    let v : Int := (m * 2 ^ (x - e).toNat : Nat)
    if n then -v else v
  let sum := signed n1 m1 e1 + signed n2 m2 e2
  if sum = 0 then
    .exact (f.zero (if n1 == n2 then n1 else md.rm == 3))
  else f.round md (decide (sum < 0)) sum.natAbs e false

/-- The sum of two values that are not NaN (48_fpu_arith.md R554, R562). -/
def FpFormat.addValues (f : FpFormat) (md : FpMode) (a b : FpValue) : FpResult :=
  match a, b with
  | .infinity n1, .infinity n2 => if n1 == n2 then .exact (f.infinity n1) else f.invalid
  | .infinity n1, _ => .exact (f.infinity n1)
  | _, .infinity n2 => .exact (f.infinity n2)
  | .finite n1 m1 e1, .finite n2 m2 e2 => f.addFinite md n1 m1 e1 n2 m2 e2
  | _, _ => f.invalid

/-- The opposite value. -/
def FpValue.opposite (v : FpValue) : FpValue :=
  match v with
  | .nan s => .nan s
  | .infinity n => .infinity (!n)
  | .finite n m e => .finite (!n) m e

/-- The exact product of two values that are not NaN; none for 0 times infinity (48_fpu_arith.md R554, R564). -/
def FpValue.product (a b : FpValue) : Option FpValue :=
  match a, b with
  | .infinity n1, .infinity n2 => some (.infinity (n1 != n2))
  | .infinity n1, .finite n2 m _ => if m = 0 then none else some (.infinity (n1 != n2))
  | .finite n1 m _, .infinity n2 => if m = 0 then none else some (.infinity (n1 != n2))
  | .finite n1 m1 e1, .finite n2 m2 e2 => some (.finite (n1 != n2) (m1 * m2) (e1 + e2))
  | _, _ => none

/-- A value that is not NaN, rounded to the format. -/
def FpFormat.roundValue (f : FpFormat) (md : FpMode) (v : FpValue) : FpResult :=
  match v with
  | .nan _ => f.invalid
  | .infinity n => .exact (f.infinity n)
  | .finite n m e => if m = 0 then .exact (f.zero n) else f.round md n m e false

/-- The quotient of two values that are not NaN (48_fpu_arith.md R554, R555, R565). -/
def FpFormat.divideValues (f : FpFormat) (md : FpMode) (a b : FpValue) : FpResult :=
  match a, b with
  | .infinity _, .infinity _ => f.invalid
  | .infinity n1, .finite n2 _ _ => .exact (f.infinity (n1 != n2))
  | .finite n1 _ _, .infinity n2 => .exact (f.zero (n1 != n2))
  | .finite n1 m1 e1, .finite n2 m2 e2 =>
    if m2 = 0 then
      if m1 = 0 then f.invalid else { cause := causeZ, bits := f.infinity (n1 != n2) }
    else if m1 = 0 then .exact (f.zero (n1 != n2))
    else
      let k := f.precision + 3
      let scaled := m1 * 2 ^ k
      f.round md (n1 != n2) (scaled / m2) (e1 - e2 - k) (scaled % m2 != 0)
  | _, _ => f.invalid

/-- The integer square root, from bit `b` downwards. -/
def isqrtFrom (n : Nat) : Nat → Nat → Nat
  | 0, r => r
  | b + 1, r => isqrtFrom n b (if (r + 2 ^ b) * (r + 2 ^ b) ≤ n then r + 2 ^ b else r)

/-- The integer square root of a number below `2 ^ 256`. -/
def isqrt (n : Nat) : Nat := isqrtFrom n 128 0

/-- The square root of a value that is not NaN (48_fpu_arith.md R554, R566). -/
def FpFormat.sqrtValue (f : FpFormat) (md : FpMode) (a : FpValue) : FpResult :=
  match a with
  | .nan _ => f.invalid
  | .infinity n => if n then f.invalid else .exact (f.infinity false)
  | .finite n m e =>
    if m = 0 then .exact (f.zero n)
    else if n then f.invalid
    else
      -- an even exponent, and enough bits for the precision and the rounding
      let odd := e % 2 != 0
      let k := f.precision + 2
      let scaled := (if odd then 2 * m else m) * 2 ^ (2 * k)
      let root := isqrt scaled
      f.round md false root ((if odd then e - 1 else e) / 2 - k) (root * root != scaled)

/-! ## The operand check (48_fpu_arith.md R553 step 3, R559, R560) -/

/-- The Cause bits of one operand: E for a denormalised one, V for a signaling NaN, E or V for a quiet NaN. -/
def FpFormat.operandCause (f : FpFormat) (n : Nat) : BitVec 6 :=
  match f.value n with
  | .nan true => causeV
  | .nan false => if Config.qnanUnimplemented then causeE else causeV
  | _ => if f.isDenormal n then causeE else 0

/-- The result of an operation on operands: the operand check, and the operation only where it finds nothing
(48_fpu_arith.md R553 steps 3 and 4). -/
def checked (causes : List (BitVec 6)) (invalidBits : Nat) (act : FpResult) : FpResult :=
  let c := causes.foldl (· ||| ·) 0
  if causes.all (· == 0) then act else { cause := c, bits := invalidBits }

/-! ## Operations on bit patterns -/

/-- ADD (48_fpu_arith.md R562). -/
def FpFormat.add (f : FpFormat) (md : FpMode) (a b : Nat) : FpResult :=
  checked [f.operandCause a, f.operandCause b] f.defaultNan (f.addValues md (f.value a) (f.value b))

/-- SUB (48_fpu_arith.md R563). -/
def FpFormat.sub (f : FpFormat) (md : FpMode) (a b : Nat) : FpResult :=
  checked [f.operandCause a, f.operandCause b] f.defaultNan (f.addValues md (f.value a) (f.value b).opposite)

/-- The product of two values that are not NaN, rounded (48_fpu_arith.md R564). -/
def FpFormat.multiplyValues (f : FpFormat) (md : FpMode) (a b : FpValue) : FpResult :=
  match a.product b with
  | none => f.invalid
  | some v => f.roundValue md v

/-- MUL (48_fpu_arith.md R564). -/
def FpFormat.mul (f : FpFormat) (md : FpMode) (a b : Nat) : FpResult :=
  checked [f.operandCause a, f.operandCause b] f.defaultNan (f.multiplyValues md (f.value a) (f.value b))

/-- DIV (48_fpu_arith.md R565). -/
def FpFormat.div (f : FpFormat) (md : FpMode) (a b : Nat) : FpResult :=
  checked [f.operandCause a, f.operandCause b] f.defaultNan (f.divideValues md (f.value a) (f.value b))

/-- SQRT (48_fpu_arith.md R566). -/
def FpFormat.sqrt (f : FpFormat) (md : FpMode) (a : Nat) : FpResult :=
  checked [f.operandCause a] f.defaultNan (f.sqrtValue md (f.value a))

/-- The bit pattern with a sign. -/
def FpFormat.withSign (f : FpFormat) (neg : Bool) (n : Nat) : Nat := f.pack neg (f.exponent n) (f.fraction n)

/-- ABS (48_fpu_arith.md R567). -/
def FpFormat.abs (f : FpFormat) (_md : FpMode) (a : Nat) : FpResult :=
  checked [f.operandCause a] f.defaultNan (.exact (f.withSign false a))

/-- NEG (48_fpu_arith.md R568). -/
def FpFormat.neg (f : FpFormat) (_md : FpMode) (a : Nat) : FpResult :=
  checked [f.operandCause a] f.defaultNan (.exact (f.withSign (!f.negative a) a))

/-- The product and sum with one rounding (48_fpu_arith.md R586, FP_MADD_FUSED true). -/
def FpFormat.fusedValues (f : FpFormat) (md : FpMode) (a b addend : FpValue) : FpResult :=
  match a.product b with
  | none => f.invalid
  | some p => f.addValues md p addend

/-- The product and sum with two roundings (48_fpu_arith.md R586, FP_MADD_FUSED false). R586 does not say what the exceptions of the
intermediate product do, and this is the model's choice (DESIGN CHOICE, entry 43): a product that is tiny and not flushed (E) or
invalid (V) ends the operation; a flushed or overflowed product goes into the sum as its default result, and the Cause bits of
both operations are recorded. -/
def FpFormat.unfusedValues (f : FpFormat) (md : FpMode) (a b addend : FpValue) : FpResult :=
  let p := f.multiplyValues md a b
  if p.cause &&& (causeE ||| causeV) != 0 then p
  else
    let r := f.addValues md (f.value p.bits) addend
    { r with cause := r.cause ||| p.cause }

/-- `(a * b) + addend` on values that are not NaN (48_fpu_arith.md R586). -/
def FpFormat.multiplyAdd (f : FpFormat) (md : FpMode) (a b addend : FpValue) : FpResult :=
  let once := f.fusedValues md a b addend
  let twice := f.unfusedValues md a b addend
  if once = twice then once else if Config.maddFused then once else twice

/-- The negation of NMADD and NMSUB, after rounding; that the default quiet NaN of an invalid operation is written as it is
is the model's choice (48_fpu_arith.md R561, R586; entry 43). -/
def FpFormat.negated (f : FpFormat) (r : FpResult) : FpResult :=
  if r.cause &&& causeV != 0 then r else { r with bits := f.withSign (!f.negative r.bits) r.bits }

/-- The four instructions of the family: `subtract` takes the opposite of the addend, `negate` negates the result. -/
def FpFormat.madd (f : FpFormat) (subtract negate : Bool) (md : FpMode) (d a b : Nat) : FpResult :=
  checked [f.operandCause d, f.operandCause a, f.operandCause b] f.defaultNan (
    let addend := if subtract then (f.value d).opposite else f.value d
    let r := f.multiplyAdd md (f.value a) (f.value b) addend
    if negate then f.negated r else r)

/-! ## Conversions (48_fpu_arith.md R569 to R581) -/

/-- Conversion between floating-point formats (48_fpu_arith.md R577, R578). -/
def FpFormat.convert (src dst : FpFormat) (md : FpMode) (a : Nat) : FpResult :=
  checked [src.operandCause a] dst.defaultNan (dst.roundValue md (src.value a))

/-- Conversion of an integer (48_fpu_arith.md R577, R578); zero is +0. -/
def FpFormat.ofInteger (f : FpFormat) (md : FpMode) (n : Int) : FpResult :=
  if n = 0 then .exact (f.zero false) else f.round md (decide (n < 0)) n.natAbs 0 false

/-- `m * 2^e` rounded to an integer magnitude, and whether that was inexact. -/
def roundToInteger (rm : BitVec 2) (neg : Bool) (m : Nat) (e : Int) : Nat × Bool :=
  if e ≥ 0 then (m * 2 ^ e.toNat, false)
  else
    let shift := (-e).toNat
    let q := m / 2 ^ shift
    let r := m % 2 ^ shift
    (if roundsUp rm neg q r shift false then q + 1 else q, r != 0)

/-- Conversion to an integer of `w` bits (48_fpu_arith.md R554, R581); `invalidBits` is FP_CVT_INVALID_RESULT. A denormalised source is
unimplemented (R559); a NaN, quiet or signaling, is invalid (R554, R581, 92_eei_decisions.md D32). That D32 decides for a quiet one,
and not FP_QNAN_OPERAND (R560), is the model's choice (DESIGN CHOICE, entry 56). -/
def FpFormat.toInteger (f : FpFormat) (w : Nat) (invalidBits : BitVec w) (rm : BitVec 2) (a : Nat) : FpResult :=
  checked [if f.isDenormal a then causeE else 0] invalidBits.toNat (
    match f.value a with
    | .finite neg m e =>
      let (q, inexact) := roundToInteger rm neg m e
      let n : Int := if neg then -(q : Int) else q
      if -(2 ^ (w - 1) : Int) ≤ n ∧ n < 2 ^ (w - 1) then
        { cause := if inexact then causeI else 0, bits := (BitVec.ofInt w n).toNat }
      else { cause := causeV, bits := invalidBits.toNat }
    | _ => { cause := causeV, bits := invalidBits.toNat })

/-! ## Comparison (47_fpu_move_branch.md R529) -/

/-- A bit pattern that is a NaN. -/
def FpFormat.isNan (f : FpFormat) (n : Nat) : Bool :=
  match f.value n with
  | .nan _ => true
  | _ => false

/-- A bit pattern that is a signaling NaN. -/
def FpFormat.isSignaling (f : FpFormat) (n : Nat) : Bool := f.value n == .nan true

/-- The place of a number or infinity in the order of numbers; +0 and -0 have the same. -/
def FpFormat.orderKey (f : FpFormat) (n : Nat) : Int :=
  let magnitude : Int := (n % 2 ^ (f.width - 1) : Nat)
  if f.negative n then -magnitude else magnitude

/-- What a compare finds: its result, and whether it signals invalid. -/
structure FpCompare where
  result : Bool
  invalid : Bool
deriving DecidableEq, Repr

/-- C.cond (47_fpu_move_branch.md R529). -/
def FpFormat.compare (f : FpFormat) (cond : BitVec 4) (a b : Nat) : FpCompare :=
  let unordered := f.isNan a || f.isNan b
  let less := !unordered && decide (f.orderKey a < f.orderKey b)
  let equal := !unordered && f.orderKey a == f.orderKey b
  { result := (cond.getLsbD 2 && less) || (cond.getLsbD 1 && equal) || (cond.getLsbD 0 && unordered)
    invalid := f.isSignaling a || f.isSignaling b || (cond.getLsbD 3 && unordered) }

end Machine
end Sys2Proof
end

