-- ==== Sys2Proof/Machine/FpuMove.lean ====
section
/-! DEFINITION. The floating-point registers, the FPU moves, loads, stores, branches and compares: 47_fpu_move_branch.md. -/

namespace Sys2Proof
namespace Machine

/-! ## Views of the registers (47_fpu_move_branch.md R501, R502) -/

/-- The register that holds the 32-bit view `n`: `n` itself, or with FR = 0 its even partner. -/
def State.fprHome (s : State) (n : RegNum) : RegNum := if s.cp0.status.fr then n else n &&& 30

/-- The 32-bit view `n` is the high half of its register: an odd number with FR = 0. -/
def State.fprIsHigh (s : State) (n : RegNum) : Bool := !s.cp0.status.fr && n.getLsbD 0

/-- A raw 64-bit register. -/
def State.fprRaw (s : State) (n : RegNum) : Word := s.fprs[n.toNat]'(n.isLt)

/-- A raw 64-bit register replaced. -/
def State.setFprRaw (s : State) (n : RegNum) (v : Word) : State := { s with fprs := s.fprs.set n.toNat v n.isLt }

/-- `FPR_W(n)`: the 32-bit view (47_fpu_move_branch.md R502). -/
def State.fprW (s : State) (n : RegNum) : Word32 :=
  if s.fprIsHigh n then (s.fprRaw (s.fprHome n)).extractLsb' 32 32 else low32 (s.fprRaw (s.fprHome n))

/-- The register that holds the 32-bit view `n` after `v` is written: with FR = 1 the upper half is free (entry 44), with
FR = 0 the other half stays (47_fpu_move_branch.md R502). -/
def State.fprWithW (s : State) (n : RegNum) (v : Word32) : Word :=
  let old := s.fprRaw (s.fprHome n)
  if s.cp0.status.fr then s.draw 32 .fprUpper ++ v
  else if s.fprIsHigh n then v ++ low32 old
  else old.extractLsb' 32 32 ++ v

/-- `FPR_W(n) <- v`. -/
def State.setFprW (s : State) (n : RegNum) (v : Word32) : State := s.setFprRaw (s.fprHome n) (s.fprWithW n v)

/-- `FPR_D(n)`: the 64-bit view (47_fpu_move_branch.md R502). -/
def State.fprD (s : State) (n : RegNum) : Word := s.fprRaw n

/-- `FPR_D(n) <- v`. -/
def State.setFprD (s : State) (n : RegNum) (v : Word) : State := s.setFprRaw n v

/-- The register numbers may name 64-bit operands: even with FR = 0 (47_fpu_move_branch.md R501). -/
def State.evenFprs (s : State) (names : List RegNum) : Bool :=
  s.cp0.status.fr || names.all fun n => !n.getLsbD 0

/-- An instruction with 64-bit operands: the usable test, then the register test (48_fpu_arith.md R553 step 1). -/
def State.whenPairs (s : State) (names : List RegNum) (act : Out) : Out :=
  s.whenCp1 (if s.evenFprs names then act else .refused .oddFpRegister)

/-! ## FCR31 (10_state.md R96) -/

/-- FCR31 as a word. -/
def Fcsr.word (f : Fcsr) : Word32 :=
  f.cc ++ bit f.fs ++ bit f.cc0 ++ 0#5 ++ f.cause ++ f.enables ++ f.flags ++ f.rm

/-- FCR31 from a word; bits 22:18 are forced to 0 (47_fpu_move_branch.md R509). -/
def Fcsr.ofWord (w : Word32) : Fcsr :=
  { cc := w.extractLsb' 25 7, fs := w.getLsbD 24, cc0 := w.getLsbD 23, cause := w.extractLsb' 12 6,
    enables := w.extractLsb' 7 5, flags := w.extractLsb' 2 5, rm := w.extractLsb' 0 2 }

/-- Cause bits that trap: E always, the others where enabled (48_fpu_arith.md R553 step 5). -/
def Fcsr.traps (f : Fcsr) (cause : BitVec 6) : Bool :=
  cause.getLsbD 5 || cause.extractLsb' 0 5 &&& f.enables != 0

/-- FCR31 with other Cause bits. -/
def State.setFpCause (s : State) (cause : BitVec 6) : State := { s with fcsr := { s.fcsr with cause := cause } }

/-- FCR31 after an operation that did not trap: Cause, and the Flags with the new bits added (48_fpu_arith.md R553 steps 2
and 6). -/
def State.recordFp (s : State) (cause : BitVec 6) : State :=
  { s with fcsr := { s.fcsr with cause := cause, flags := s.fcsr.flags ||| cause.extractLsb' 0 5 } }

/-- The end of an FPU operation with these Cause bits: the exception, before which only Cause changes, or `done` in the state
that has recorded them (48_fpu_arith.md R553 steps 5 and 6). -/
def State.fpFinish (s : State) (cause : BitVec 6) (done : State → State) : Out :=
  if s.fcsr.traps cause then (s.setFpCause cause).raise .floatingPoint else (done (s.recordFp cause)).advance

/-- The value of FCR0 (10_state.md R95). -/
def fcr0 : Word := 0x501

/-! ## Compares (47_fpu_move_branch.md R529, R546) -/

/-- The Cause bits of a compare. -/
def compareCause (invalid : Bool) : BitVec 6 := if invalid then causeV else 0

/-- A compare of single or double values: CC0 takes the result (47_fpu_move_branch.md R529). -/
def State.compareInto (s : State) (c : FpCompare) : Out :=
  s.fpFinish (compareCause c.invalid) fun t => { t with fcsr := { t.fcsr with cc0 := c.result } }

/-- C.cond.S (47_fpu_move_branch.md R529). -/
def State.compareS (s : State) (cond : BitVec 4) (fs ft : RegNum) : Out :=
  s.whenCp1 (s.compareInto (FpFormat.single.compare cond (s.fprW fs).toNat (s.fprW ft).toNat))

/-- C.cond.D (47_fpu_move_branch.md R529). -/
def State.compareD (s : State) (cond : BitVec 4) (fs ft : RegNum) : Out :=
  s.whenPairs [fs, ft] (s.compareInto (FpFormat.double.compare cond (s.fprD fs).toNat (s.fprD ft).toNat))

/-- The lower single of a pair. -/
def lowerSingle (v : Word) : Nat := (low32 v).toNat

/-- The upper single of a pair. -/
def upperSingle (v : Word) : Nat := (v.extractLsb' 32 32).toNat

/-- C.cond.PS: the lower singles give CC0, the upper singles CC1 (47_fpu_move_branch.md R546). -/
def State.comparePs (s : State) (cond : BitVec 4) (fs ft : RegNum) : Out :=
  s.whenPairs [fs, ft] (
    let low := FpFormat.single.compare cond (lowerSingle (s.fprD fs)) (lowerSingle (s.fprD ft))
    let high := FpFormat.single.compare cond (upperSingle (s.fprD fs)) (upperSingle (s.fprD ft))
    s.fpFinish (compareCause (low.invalid || high.invalid)) fun t =>
      { t with fcsr := { t.fcsr with cc0 := low.result, cc := t.fcsr.cc.extractLsb' 1 6 ++ bit high.result } })

/-! ## Moves (47_fpu_move_branch.md R504 to R509, R520) -/

/-- MFC1 (47_fpu_move_branch.md R504). -/
def execMfc1 (rt fs : RegNum) (s : State) : Out := s.whenCp1 (s.writeGpr rt (sext32 (s.fprW fs)))

/-- MTC1 (47_fpu_move_branch.md R505). -/
def execMtc1 (rt fs : RegNum) (s : State) : Out := s.whenCp1 (s.setFprW fs (low32 (s.gpr rt))).advance

/-- DMFC1 (47_fpu_move_branch.md R506). -/
def execDmfc1 (rt fs : RegNum) (s : State) : Out := s.whenPairs [fs] (s.writeGpr rt (s.fprD fs))

/-- DMTC1 (47_fpu_move_branch.md R507). -/
def execDmtc1 (rt fs : RegNum) (s : State) : Out := s.whenPairs [fs] (s.setFprD fs (s.gpr rt)).advance

/-- CFC1 (47_fpu_move_branch.md R508). -/
def execCfc1 (rt fs : RegNum) (s : State) : Out :=
  s.whenCp1 (
    match fs.toNat with
    | 0 => s.writeGpr rt fcr0
    | 31 => s.writeGpr rt (sext32 s.fcsr.word)
    | _ => .refused .unnamedFcr)

/-- FCR31 replaced by CTC1; a Cause bit that traps raises the exception at once (47_fpu_move_branch.md R509, 10_state.md
R100). -/
def State.writeFcsr (s : State) (f : Fcsr) : Out :=
  let t := { s with fcsr := f }
  if f.traps f.cause then t.raise .floatingPoint else t.advance

/-- CTC1 (47_fpu_move_branch.md R509); a write of FCR0 is ignored. -/
def execCtc1 (rt fs : RegNum) (s : State) : Out :=
  s.whenCp1 (
    match fs.toNat with
    | 0 => s.advance
    | 31 => s.writeFcsr (.ofWord (low32 (s.gpr rt)))
    | _ => .refused .unnamedFcr)

/-- MOV.S (47_fpu_move_branch.md R520). -/
def execMovS (fd fs : RegNum) (s : State) : Out := s.whenCp1 (s.setFprW fd (s.fprW fs)).advance

/-- MOV.D (47_fpu_move_branch.md R520). -/
def execMovD (fd fs : RegNum) (s : State) : Out := s.whenPairs [fd, fs] (s.setFprD fd (s.fprD fs)).advance

/-- MOV.PS (47_fpu_move_branch.md R520). -/
def execMovPs (fd fs : RegNum) (s : State) : Out := s.whenPairs [fd, fs] (s.setFprD fd (s.fprD fs)).advance

/-! ## Loads and stores (47_fpu_move_branch.md R510 to R513) -/

/-- LWC1 (47_fpu_move_branch.md R510). -/
def execLwc1 (ft : RegNum) (offset : BitVec 16) (base : RegNum) (s : State) : Out :=
  s.whenCp1 ((s.loadVirt (s.address base offset) 4).bind fun v t => .ok () (t.setFprW ft (low32 v))).finish

/-- LDC1 (47_fpu_move_branch.md R511). -/
def execLdc1 (ft : RegNum) (offset : BitVec 16) (base : RegNum) (s : State) : Out :=
  s.whenPairs [ft] ((s.loadVirt (s.address base offset) 8).bind fun v t => .ok () (t.setFprD ft v)).finish

/-- SWC1 (47_fpu_move_branch.md R512). -/
def execSwc1 (ft : RegNum) (offset : BitVec 16) (base : RegNum) (s : State) : Out :=
  s.whenCp1 (s.storeVirt (s.address base offset) 4 4 ((s.fprW ft).setWidth 64)).finish

/-- SDC1 (47_fpu_move_branch.md R513). -/
def execSdc1 (ft : RegNum) (offset : BitVec 16) (base : RegNum) (s : State) : Out :=
  s.whenPairs [ft] (s.storeVirt (s.address base offset) 8 8 (s.fprD ft)).finish

/-! ## Branches (47_fpu_move_branch.md R514 to R518) -/

/-- BC1F (47_fpu_move_branch.md R514). -/
def execBc1f (offset : BitVec 16) (s : State) : Out := s.whenCp1 (s.outsideSlot (s.branch (!s.fcsr.cc0) offset))

/-- BC1T (47_fpu_move_branch.md R515). -/
def execBc1t (offset : BitVec 16) (s : State) : Out := s.whenCp1 (s.outsideSlot (s.branch s.fcsr.cc0 offset))

/-- BC1FL (47_fpu_move_branch.md R516). -/
def execBc1fl (offset : BitVec 16) (s : State) : Out := s.whenCp1 (s.outsideSlot (s.branchLikely (!s.fcsr.cc0) offset))

/-- BC1TL (47_fpu_move_branch.md R517). -/
def execBc1tl (offset : BitVec 16) (s : State) : Out := s.whenCp1 (s.outsideSlot (s.branchLikely s.fcsr.cc0 offset))

/-! ## The sixteen compares (47_fpu_move_branch.md R530 to R546) -/

/-- C.F.S (47_fpu_move_branch.md R530). -/
def execCFS (fs ft : RegNum) (s : State) : Out := s.compareS 0 fs ft

/-- C.F.D (47_fpu_move_branch.md R530). -/
def execCFD (fs ft : RegNum) (s : State) : Out := s.compareD 0 fs ft

/-- C.F.PS (47_fpu_move_branch.md R530, R546). -/
def execCFPs (fs ft : RegNum) (s : State) : Out := s.comparePs 0 fs ft

/-- C.UN.S (47_fpu_move_branch.md R531). -/
def execCUnS (fs ft : RegNum) (s : State) : Out := s.compareS 1 fs ft

/-- C.UN.D (47_fpu_move_branch.md R531). -/
def execCUnD (fs ft : RegNum) (s : State) : Out := s.compareD 1 fs ft

/-- C.UN.PS (47_fpu_move_branch.md R531, R546). -/
def execCUnPs (fs ft : RegNum) (s : State) : Out := s.comparePs 1 fs ft

/-- C.EQ.S (47_fpu_move_branch.md R532). -/
def execCEqS (fs ft : RegNum) (s : State) : Out := s.compareS 2 fs ft

/-- C.EQ.D (47_fpu_move_branch.md R532). -/
def execCEqD (fs ft : RegNum) (s : State) : Out := s.compareD 2 fs ft

/-- C.EQ.PS (47_fpu_move_branch.md R532, R546). -/
def execCEqPs (fs ft : RegNum) (s : State) : Out := s.comparePs 2 fs ft

/-- C.UEQ.S (47_fpu_move_branch.md R533). -/
def execCUeqS (fs ft : RegNum) (s : State) : Out := s.compareS 3 fs ft

/-- C.UEQ.D (47_fpu_move_branch.md R533). -/
def execCUeqD (fs ft : RegNum) (s : State) : Out := s.compareD 3 fs ft

/-- C.UEQ.PS (47_fpu_move_branch.md R533, R546). -/
def execCUeqPs (fs ft : RegNum) (s : State) : Out := s.comparePs 3 fs ft

/-- C.OLT.S (47_fpu_move_branch.md R534). -/
def execCOltS (fs ft : RegNum) (s : State) : Out := s.compareS 4 fs ft

/-- C.OLT.D (47_fpu_move_branch.md R534). -/
def execCOltD (fs ft : RegNum) (s : State) : Out := s.compareD 4 fs ft

/-- C.OLT.PS (47_fpu_move_branch.md R534, R546). -/
def execCOltPs (fs ft : RegNum) (s : State) : Out := s.comparePs 4 fs ft

/-- C.ULT.S (47_fpu_move_branch.md R535). -/
def execCUltS (fs ft : RegNum) (s : State) : Out := s.compareS 5 fs ft

/-- C.ULT.D (47_fpu_move_branch.md R535). -/
def execCUltD (fs ft : RegNum) (s : State) : Out := s.compareD 5 fs ft

/-- C.ULT.PS (47_fpu_move_branch.md R535, R546). -/
def execCUltPs (fs ft : RegNum) (s : State) : Out := s.comparePs 5 fs ft

/-- C.OLE.S (47_fpu_move_branch.md R536). -/
def execCOleS (fs ft : RegNum) (s : State) : Out := s.compareS 6 fs ft

/-- C.OLE.D (47_fpu_move_branch.md R536). -/
def execCOleD (fs ft : RegNum) (s : State) : Out := s.compareD 6 fs ft

/-- C.OLE.PS (47_fpu_move_branch.md R536, R546). -/
def execCOlePs (fs ft : RegNum) (s : State) : Out := s.comparePs 6 fs ft

/-- C.ULE.S (47_fpu_move_branch.md R537). -/
def execCUleS (fs ft : RegNum) (s : State) : Out := s.compareS 7 fs ft

/-- C.ULE.D (47_fpu_move_branch.md R537). -/
def execCUleD (fs ft : RegNum) (s : State) : Out := s.compareD 7 fs ft

/-- C.ULE.PS (47_fpu_move_branch.md R537, R546). -/
def execCUlePs (fs ft : RegNum) (s : State) : Out := s.comparePs 7 fs ft

/-- C.SF.S (47_fpu_move_branch.md R538). -/
def execCSfS (fs ft : RegNum) (s : State) : Out := s.compareS 8 fs ft

/-- C.SF.D (47_fpu_move_branch.md R538). -/
def execCSfD (fs ft : RegNum) (s : State) : Out := s.compareD 8 fs ft

/-- C.SF.PS (47_fpu_move_branch.md R538, R546). -/
def execCSfPs (fs ft : RegNum) (s : State) : Out := s.comparePs 8 fs ft

/-- C.NGLE.S (47_fpu_move_branch.md R539). -/
def execCNgleS (fs ft : RegNum) (s : State) : Out := s.compareS 9 fs ft

/-- C.NGLE.D (47_fpu_move_branch.md R539). -/
def execCNgleD (fs ft : RegNum) (s : State) : Out := s.compareD 9 fs ft

/-- C.NGLE.PS (47_fpu_move_branch.md R539, R546). -/
def execCNglePs (fs ft : RegNum) (s : State) : Out := s.comparePs 9 fs ft

/-- C.SEQ.S (47_fpu_move_branch.md R540). -/
def execCSeqS (fs ft : RegNum) (s : State) : Out := s.compareS 10 fs ft

/-- C.SEQ.D (47_fpu_move_branch.md R540). -/
def execCSeqD (fs ft : RegNum) (s : State) : Out := s.compareD 10 fs ft

/-- C.SEQ.PS (47_fpu_move_branch.md R540, R546). -/
def execCSeqPs (fs ft : RegNum) (s : State) : Out := s.comparePs 10 fs ft

/-- C.NGL.S (47_fpu_move_branch.md R541). -/
def execCNglS (fs ft : RegNum) (s : State) : Out := s.compareS 11 fs ft

/-- C.NGL.D (47_fpu_move_branch.md R541). -/
def execCNglD (fs ft : RegNum) (s : State) : Out := s.compareD 11 fs ft

/-- C.NGL.PS (47_fpu_move_branch.md R541, R546). -/
def execCNglPs (fs ft : RegNum) (s : State) : Out := s.comparePs 11 fs ft

/-- C.LT.S (47_fpu_move_branch.md R542). -/
def execCLtS (fs ft : RegNum) (s : State) : Out := s.compareS 12 fs ft

/-- C.LT.D (47_fpu_move_branch.md R542). -/
def execCLtD (fs ft : RegNum) (s : State) : Out := s.compareD 12 fs ft

/-- C.LT.PS (47_fpu_move_branch.md R542, R546). -/
def execCLtPs (fs ft : RegNum) (s : State) : Out := s.comparePs 12 fs ft

/-- C.NGE.S (47_fpu_move_branch.md R543). -/
def execCNgeS (fs ft : RegNum) (s : State) : Out := s.compareS 13 fs ft

/-- C.NGE.D (47_fpu_move_branch.md R543). -/
def execCNgeD (fs ft : RegNum) (s : State) : Out := s.compareD 13 fs ft

/-- C.NGE.PS (47_fpu_move_branch.md R543, R546). -/
def execCNgePs (fs ft : RegNum) (s : State) : Out := s.comparePs 13 fs ft

/-- C.LE.S (47_fpu_move_branch.md R544). -/
def execCLeS (fs ft : RegNum) (s : State) : Out := s.compareS 14 fs ft

/-- C.LE.D (47_fpu_move_branch.md R544). -/
def execCLeD (fs ft : RegNum) (s : State) : Out := s.compareD 14 fs ft

/-- C.LE.PS (47_fpu_move_branch.md R544, R546). -/
def execCLePs (fs ft : RegNum) (s : State) : Out := s.comparePs 14 fs ft

/-- C.NGT.S (47_fpu_move_branch.md R545). -/
def execCNgtS (fs ft : RegNum) (s : State) : Out := s.compareS 15 fs ft

/-- C.NGT.D (47_fpu_move_branch.md R545). -/
def execCNgtD (fs ft : RegNum) (s : State) : Out := s.compareD 15 fs ft

/-- C.NGT.PS (47_fpu_move_branch.md R545, R546). -/
def execCNgtPs (fs ft : RegNum) (s : State) : Out := s.comparePs 15 fs ft

end Machine
end Sys2Proof
end

