-- ==== Sys2Proof/Machine/FpuArith.lean ====
section
/-! DEFINITION. FPU arithmetic, conversions, multiply-add and paired-single instructions: 48_fpu_arith.md. -/

namespace Sys2Proof
namespace Machine

/-- What of FCR31 an operation depends on (48_fpu_arith.md R553, R557). -/
def State.fpMode (s : State) : FpMode :=
  { rm := s.fcsr.rm, flush := s.fcsr.fs && !s.fcsr.enables.getLsbD 1 && !s.fcsr.enables.getLsbD 0 }

/-- A result of the 32-bit view (48_fpu_arith.md R553 steps 5 and 6). -/
def State.finishW (s : State) (fd : RegNum) (r : FpResult) : Out :=
  s.fpFinish r.cause fun t => t.setFprW fd (BitVec.ofNat 32 r.bits)

/-- A result of the 64-bit view (48_fpu_arith.md R553 steps 5 and 6). -/
def State.finishD (s : State) (fd : RegNum) (r : FpResult) : Out :=
  s.fpFinish r.cause fun t => t.setFprD fd (BitVec.ofNat 64 r.bits)

/-- A pair of single results: the Cause bits of both lanes, and neither half where one traps (48_fpu_arith.md R587). -/
def State.finishPs (s : State) (fd : RegNum) (high low : FpResult) : Out :=
  s.fpFinish (high.cause ||| low.cause) fun t => t.setFprD fd (BitVec.ofNat 32 high.bits ++ BitVec.ofNat 32 low.bits)

/-- An operation of one single operand. -/
def State.unaryS (s : State) (op : FpMode → Nat → FpResult) (fd fs : RegNum) : Out :=
  s.whenCp1 (s.finishW fd (op s.fpMode (s.fprW fs).toNat))

/-- An operation of one double operand. -/
def State.unaryD (s : State) (op : FpMode → Nat → FpResult) (fd fs : RegNum) : Out :=
  s.whenPairs [fd, fs] (s.finishD fd (op s.fpMode (s.fprD fs).toNat))

/-- An operation of one paired-single operand (48_fpu_arith.md R587). -/
def State.unaryPs (s : State) (op : FpMode → Nat → FpResult) (fd fs : RegNum) : Out :=
  s.whenPairs [fd, fs] (
    s.finishPs fd (op s.fpMode (upperSingle (s.fprD fs))) (op s.fpMode (lowerSingle (s.fprD fs))))

/-- An operation of two single operands. -/
def State.binaryS (s : State) (op : FpMode → Nat → Nat → FpResult) (fd fs ft : RegNum) : Out :=
  s.whenCp1 (s.finishW fd (op s.fpMode (s.fprW fs).toNat (s.fprW ft).toNat))

/-- An operation of two double operands. -/
def State.binaryD (s : State) (op : FpMode → Nat → Nat → FpResult) (fd fs ft : RegNum) : Out :=
  s.whenPairs [fd, fs, ft] (s.finishD fd (op s.fpMode (s.fprD fs).toNat (s.fprD ft).toNat))

/-- An operation of two paired-single operands (48_fpu_arith.md R587). -/
def State.binaryPs (s : State) (op : FpMode → Nat → Nat → FpResult) (fd fs ft : RegNum) : Out :=
  s.whenPairs [fd, fs, ft] (
    s.finishPs fd (op s.fpMode (upperSingle (s.fprD fs)) (upperSingle (s.fprD ft)))
      (op s.fpMode (lowerSingle (s.fprD fs)) (lowerSingle (s.fprD ft))))

/-- A multiply-add of singles; fd is the addend (48_fpu_arith.md R582). -/
def State.maddS (s : State) (subtract negate : Bool) (fd fs ft : RegNum) : Out :=
  s.binaryS (fun md a b => FpFormat.single.madd subtract negate md (s.fprW fd).toNat a b) fd fs ft

/-- A multiply-add of doubles (48_fpu_arith.md R582). -/
def State.maddD (s : State) (subtract negate : Bool) (fd fs ft : RegNum) : Out :=
  s.binaryD (fun md a b => FpFormat.double.madd subtract negate md (s.fprD fd).toNat a b) fd fs ft

/-- A multiply-add of paired singles (48_fpu_arith.md R582, R587). -/
def State.maddPs (s : State) (subtract negate : Bool) (fd fs ft : RegNum) : Out :=
  s.whenPairs [fd, fs, ft] (
    s.finishPs fd
      (FpFormat.single.madd subtract negate s.fpMode (upperSingle (s.fprD fd)) (upperSingle (s.fprD fs)) (upperSingle (s.fprD ft)))
      (FpFormat.single.madd subtract negate s.fpMode (lowerSingle (s.fprD fd)) (lowerSingle (s.fprD fs)) (lowerSingle (s.fprD ft))))

/-- The 32-bit or 64-bit operand of a format. -/
def State.fprOf (s : State) (f : FpFormat) (n : RegNum) : Nat :=
  match f with
  | .single => (s.fprW n).toNat
  | .double => (s.fprD n).toNat

/-- The registers among the operands that a format makes 64-bit ones. -/
def FpFormat.pairs (f : FpFormat) (n : RegNum) : List RegNum :=
  match f with
  | .single => []
  | .double => [n]

/-- A conversion to a 32-bit integer (48_fpu_arith.md R581). -/
def State.toW (s : State) (f : FpFormat) (rm : BitVec 2) (fd fs : RegNum) : Out :=
  s.whenPairs (f.pairs fs) (s.finishW fd (f.toInteger 32 Config.cvtInvalidW rm (s.fprOf f fs)))

/-- A conversion to a 64-bit integer (48_fpu_arith.md R581). -/
def State.toL (s : State) (f : FpFormat) (rm : BitVec 2) (fd fs : RegNum) : Out :=
  s.whenPairs (fd :: f.pairs fs) (s.finishD fd (f.toInteger 64 Config.cvtInvalidL rm (s.fprOf f fs)))

/-- ADD.S (48_fpu_arith.md R562). -/
def execAddS (fd fs ft : RegNum) (s : State) : Out := s.binaryS FpFormat.single.add fd fs ft

/-- ADD.D (48_fpu_arith.md R562). -/
def execAddD (fd fs ft : RegNum) (s : State) : Out := s.binaryD FpFormat.double.add fd fs ft

/-- ADD.PS (48_fpu_arith.md R562, R587). -/
def execAddPs (fd fs ft : RegNum) (s : State) : Out := s.binaryPs FpFormat.single.add fd fs ft

/-- SUB.S (48_fpu_arith.md R563). -/
def execSubS (fd fs ft : RegNum) (s : State) : Out := s.binaryS FpFormat.single.sub fd fs ft

/-- SUB.D (48_fpu_arith.md R563). -/
def execSubD (fd fs ft : RegNum) (s : State) : Out := s.binaryD FpFormat.double.sub fd fs ft

/-- SUB.PS (48_fpu_arith.md R563, R587). -/
def execSubPs (fd fs ft : RegNum) (s : State) : Out := s.binaryPs FpFormat.single.sub fd fs ft

/-- MUL.S (48_fpu_arith.md R564). -/
def execMulS (fd fs ft : RegNum) (s : State) : Out := s.binaryS FpFormat.single.mul fd fs ft

/-- MUL.D (48_fpu_arith.md R564). -/
def execMulD (fd fs ft : RegNum) (s : State) : Out := s.binaryD FpFormat.double.mul fd fs ft

/-- MUL.PS (48_fpu_arith.md R564, R587). -/
def execMulPs (fd fs ft : RegNum) (s : State) : Out := s.binaryPs FpFormat.single.mul fd fs ft

/-- DIV.S (48_fpu_arith.md R565). -/
def execDivS (fd fs ft : RegNum) (s : State) : Out := s.binaryS FpFormat.single.div fd fs ft

/-- DIV.D (48_fpu_arith.md R565). -/
def execDivD (fd fs ft : RegNum) (s : State) : Out := s.binaryD FpFormat.double.div fd fs ft

/-- SQRT.S (48_fpu_arith.md R566). -/
def execSqrtS (fd fs : RegNum) (s : State) : Out := s.unaryS FpFormat.single.sqrt fd fs

/-- SQRT.D (48_fpu_arith.md R566). -/
def execSqrtD (fd fs : RegNum) (s : State) : Out := s.unaryD FpFormat.double.sqrt fd fs

/-- ABS.S (48_fpu_arith.md R567). -/
def execAbsS (fd fs : RegNum) (s : State) : Out := s.unaryS FpFormat.single.abs fd fs

/-- ABS.D (48_fpu_arith.md R567). -/
def execAbsD (fd fs : RegNum) (s : State) : Out := s.unaryD FpFormat.double.abs fd fs

/-- ABS.PS (48_fpu_arith.md R567, R587). -/
def execAbsPs (fd fs : RegNum) (s : State) : Out := s.unaryPs FpFormat.single.abs fd fs

/-- NEG.S (48_fpu_arith.md R568). -/
def execNegS (fd fs : RegNum) (s : State) : Out := s.unaryS FpFormat.single.neg fd fs

/-- NEG.D (48_fpu_arith.md R568). -/
def execNegD (fd fs : RegNum) (s : State) : Out := s.unaryD FpFormat.double.neg fd fs

/-- NEG.PS (48_fpu_arith.md R568, R587). -/
def execNegPs (fd fs : RegNum) (s : State) : Out := s.unaryPs FpFormat.single.neg fd fs

/-- ROUND.L.S (48_fpu_arith.md R569). -/
def execRoundLS (fd fs : RegNum) (s : State) : Out := s.toL .single 0 fd fs

/-- ROUND.L.D (48_fpu_arith.md R569). -/
def execRoundLD (fd fs : RegNum) (s : State) : Out := s.toL .double 0 fd fs

/-- TRUNC.L.S (48_fpu_arith.md R570). -/
def execTruncLS (fd fs : RegNum) (s : State) : Out := s.toL .single 1 fd fs

/-- TRUNC.L.D (48_fpu_arith.md R570). -/
def execTruncLD (fd fs : RegNum) (s : State) : Out := s.toL .double 1 fd fs

/-- CEIL.L.S (48_fpu_arith.md R571). -/
def execCeilLS (fd fs : RegNum) (s : State) : Out := s.toL .single 2 fd fs

/-- CEIL.L.D (48_fpu_arith.md R571). -/
def execCeilLD (fd fs : RegNum) (s : State) : Out := s.toL .double 2 fd fs

/-- FLOOR.L.S (48_fpu_arith.md R572). -/
def execFloorLS (fd fs : RegNum) (s : State) : Out := s.toL .single 3 fd fs

/-- FLOOR.L.D (48_fpu_arith.md R572). -/
def execFloorLD (fd fs : RegNum) (s : State) : Out := s.toL .double 3 fd fs

/-- ROUND.W.S (48_fpu_arith.md R573). -/
def execRoundWS (fd fs : RegNum) (s : State) : Out := s.toW .single 0 fd fs

/-- ROUND.W.D (48_fpu_arith.md R573). -/
def execRoundWD (fd fs : RegNum) (s : State) : Out := s.toW .double 0 fd fs

/-- TRUNC.W.S (48_fpu_arith.md R574). -/
def execTruncWS (fd fs : RegNum) (s : State) : Out := s.toW .single 1 fd fs

/-- TRUNC.W.D (48_fpu_arith.md R574). -/
def execTruncWD (fd fs : RegNum) (s : State) : Out := s.toW .double 1 fd fs

/-- CEIL.W.S (48_fpu_arith.md R575). -/
def execCeilWS (fd fs : RegNum) (s : State) : Out := s.toW .single 2 fd fs

/-- CEIL.W.D (48_fpu_arith.md R575). -/
def execCeilWD (fd fs : RegNum) (s : State) : Out := s.toW .double 2 fd fs

/-- FLOOR.W.S (48_fpu_arith.md R576). -/
def execFloorWS (fd fs : RegNum) (s : State) : Out := s.toW .single 3 fd fs

/-- FLOOR.W.D (48_fpu_arith.md R576). -/
def execFloorWD (fd fs : RegNum) (s : State) : Out := s.toW .double 3 fd fs

/-- CVT.S.D (48_fpu_arith.md R577). -/
def execCvtSD (fd fs : RegNum) (s : State) : Out := 
  s.whenPairs [fs] (s.finishW fd (FpFormat.double.convert .single s.fpMode (s.fprD fs).toNat))

/-- CVT.S.W (48_fpu_arith.md R577). -/
def execCvtSW (fd fs : RegNum) (s : State) : Out := 
  s.whenCp1 (s.finishW fd (FpFormat.single.ofInteger s.fpMode (s.fprW fs).toInt))

/-- CVT.S.L (48_fpu_arith.md R577). -/
def execCvtSL (fd fs : RegNum) (s : State) : Out := 
  s.whenPairs [fs] (s.finishW fd (FpFormat.single.ofInteger s.fpMode (s.fprD fs).toInt))

/-- CVT.D.S (48_fpu_arith.md R578). -/
def execCvtDS (fd fs : RegNum) (s : State) : Out := 
  s.whenPairs [fd] (s.finishD fd (FpFormat.single.convert .double s.fpMode (s.fprW fs).toNat))

/-- CVT.D.W (48_fpu_arith.md R578). -/
def execCvtDW (fd fs : RegNum) (s : State) : Out := 
  s.whenPairs [fd] (s.finishD fd (FpFormat.double.ofInteger s.fpMode (s.fprW fs).toInt))

/-- CVT.D.L (48_fpu_arith.md R578). -/
def execCvtDL (fd fs : RegNum) (s : State) : Out := 
  s.whenPairs [fd, fs] (s.finishD fd (FpFormat.double.ofInteger s.fpMode (s.fprD fs).toInt))

/-- CVT.W.S (48_fpu_arith.md R579). -/
def execCvtWS (fd fs : RegNum) (s : State) : Out := s.toW .single s.fcsr.rm fd fs

/-- CVT.W.D (48_fpu_arith.md R579). -/
def execCvtWD (fd fs : RegNum) (s : State) : Out := s.toW .double s.fcsr.rm fd fs

/-- CVT.L.S (48_fpu_arith.md R580). -/
def execCvtLS (fd fs : RegNum) (s : State) : Out := s.toL .single s.fcsr.rm fd fs

/-- CVT.L.D (48_fpu_arith.md R580). -/
def execCvtLD (fd fs : RegNum) (s : State) : Out := s.toL .double s.fcsr.rm fd fs

/-- MADD.S (48_fpu_arith.md R582, R586). -/
def execMaddS (fd fs ft : RegNum) (s : State) : Out := s.maddS false false fd fs ft

/-- MADD.D (48_fpu_arith.md R582, R586). -/
def execMaddD (fd fs ft : RegNum) (s : State) : Out := s.maddD false false fd fs ft

/-- MADD.PS (48_fpu_arith.md R582, R586, R587). -/
def execMaddPs (fd fs ft : RegNum) (s : State) : Out := s.maddPs false false fd fs ft

/-- MSUB.S (48_fpu_arith.md R583, R586). -/
def execMsubS (fd fs ft : RegNum) (s : State) : Out := s.maddS true false fd fs ft

/-- MSUB.D (48_fpu_arith.md R583, R586). -/
def execMsubD (fd fs ft : RegNum) (s : State) : Out := s.maddD true false fd fs ft

/-- MSUB.PS (48_fpu_arith.md R583, R586, R587). -/
def execMsubPs (fd fs ft : RegNum) (s : State) : Out := s.maddPs true false fd fs ft

/-- NMADD.S (48_fpu_arith.md R584, R586). -/
def execNmaddS (fd fs ft : RegNum) (s : State) : Out := s.maddS false true fd fs ft

/-- NMADD.D (48_fpu_arith.md R584, R586). -/
def execNmaddD (fd fs ft : RegNum) (s : State) : Out := s.maddD false true fd fs ft

/-- NMADD.PS (48_fpu_arith.md R584, R586, R587). -/
def execNmaddPs (fd fs ft : RegNum) (s : State) : Out := s.maddPs false true fd fs ft

/-- NMSUB.S (48_fpu_arith.md R585, R586). -/
def execNmsubS (fd fs ft : RegNum) (s : State) : Out := s.maddS true true fd fs ft

/-- NMSUB.D (48_fpu_arith.md R585, R586). -/
def execNmsubD (fd fs ft : RegNum) (s : State) : Out := s.maddD true true fd fs ft

/-- NMSUB.PS (48_fpu_arith.md R585, R586, R587). -/
def execNmsubPs (fd fs ft : RegNum) (s : State) : Out := s.maddPs true true fd fs ft

end Machine
end Sys2Proof
end

