-- ==== Sys2Proof/Machine/LoadStore.lean ====
section
/-! DEFINITION. Loads, stores, LL and SC, SYNC: 40_loadstore.md. -/

namespace Sys2Proof
namespace Machine

/-- The common form of the loads: a datum of `n` bytes, turned into the value of GPR[rt] (40_loadstore.md R240, R265). -/
def State.loadTo (s : State) (rt : RegNum) (va : Word) (n : Nat) (value : Word → Word) : Out :=
  ((s.loadVirt va n).bind fun v s1 => .ok () (s1.setGpr rt (value v))).finish

/-- The common form of LWL, LWR, LDL and LDR: `n` bytes from `skip` on of the aligned datum of `size` bytes (40_loadstore.md R248
to R251). -/
def State.loadPartTo (s : State) (rt : RegNum) (va : Word) (size skip n : Nat) (value : Word → Word) : Out :=
  ((s.loadPart va size skip n).bind fun v s1 => .ok () (s1.setGpr rt (value v))).finish

/-- The common form of the stores (40_loadstore.md R240, R265): `n` bytes at `va`, aligned to `align` bytes. -/
def State.storeFrom (s : State) (va : Word) (align n : Nat) (v : Word) : Out :=
  (s.storeVirt va align n v).finish

/-- What LL and LLD record (20_memory.md R179): LLbit, and the physical address, of which LLAddr holds bits 35:4
(10_state.md R71). -/
def State.setLink (s : State) (pa : PAddr) : State :=
  { s with llBit := true, llPa := some pa, cp0 := { s.cp0 with llAddr := pa.extractLsb' 4 32 } }

/-- The common form of LL and LLD (40_loadstore.md R252, R253); cached locations only (20_memory.md R182). -/
def State.loadLinked (s : State) (rt : RegNum) (va : Word) (n : Nat) (value : Word → Word) : Out :=
  ((s.prepare .load va n).bind fun r s1 =>
    if r.2 ≠ 3 then .refuse .linkedUncached
    else (s1.memRead va r.1 r.2 n).bind fun v s2 =>
      .ok () ((s2.setLink r.1).setGpr rt (value (BitVec.ofNat 64 v)))).finish

/-- LLbit after SC or SCD is free (20_memory.md R181; entry 23). -/
def State.afterConditional (s : State) : State := { s with llBit := s.drawBit .llBit }

/-- The address of a conditional store is not that of the preceding LL or LLD (20_memory.md R180). Before the first LL or LLD there
is no such address, and the store then does as LLbit says (entry 23). -/
def State.linkDiffers (s : State) (pa : PAddr) : Bool :=
  match s.llPa with
  | none => false
  | some p => p != pa

/-- The common form of SC and SCD (40_loadstore.md R262, R263): the checks of a store whatever LLbit is, the refusal of another
address than the preceding LL or LLD's whatever LLbit is (20_memory.md R180), then the store and 1, or nothing and 0. -/
def State.storeConditional (s : State) (rt : RegNum) (va : Word) (n : Nat) : Out :=
  ((s.prepare .store va n).bind fun r s1 =>
    if r.2 ≠ 3 then .refuse .linkedUncached
    else if s1.linkDiffers r.1 then .refuse .linkedAddress
    else if !s1.llBit then .ok () (s1.afterConditional.setGpr rt 0)
    else (s1.memWrite va r.1 r.2 n (s1.gpr rt)).bind fun _ s2 =>
      .ok () (s2.afterConditional.setGpr rt 1)).finish

/-- The place of an address in its aligned word (40_loadstore.md R248). -/
def byteInWord (va : Word) : Nat := va.toNat % 4

/-- The place of an address in its aligned doubleword (40_loadstore.md R250). -/
def byteInDouble (va : Word) : Nat := va.toNat % 8

/-- The word LWL leaves: the loaded word's low bytes above the register's (40_loadstore.md R248). -/
def mergeLwl (b : Nat) (old w : Word32) : Word32 :=
  (w <<< (8 * (3 - b))) ||| (old &&& BitVec.ofNat 32 (2 ^ (8 * (3 - b)) - 1))

/-- The word LWR leaves: the loaded word's high bytes below the register's (40_loadstore.md R249). -/
def mergeLwr (b : Nat) (old w : Word32) : Word32 :=
  (w >>> (8 * b)) ||| (old &&& ~~~(BitVec.allOnes 32 >>> (8 * b)))

/-- The doubleword LDL leaves (40_loadstore.md R250). -/
def mergeLdl (b : Nat) (old d : Word) : Word :=
  (d <<< (8 * (7 - b))) ||| (old &&& BitVec.ofNat 64 (2 ^ (8 * (7 - b)) - 1))

/-- The doubleword LDR leaves (40_loadstore.md R251). -/
def mergeLdr (b : Nat) (old d : Word) : Word :=
  (d >>> (8 * b)) ||| (old &&& ~~~(BitVec.allOnes 64 >>> (8 * b)))

/-- GPR[rt] after LWR (40_loadstore.md R249): the sign-extended word where b = 0 or the old value was a sign-extended word; else
the upper half is freely kept or filled with the sign (entry 24). -/
def State.lwrValue (s : State) (b : Nat) (old : Word) (w : Word32) : Word :=
  let t := mergeLwr b (low32 old) w
  if b = 0 || isWord old then sext32 t
  else if s.drawBit .lwrUpper then old.extractLsb' 32 32 ++ t else sext32 t

/-- LB (40_loadstore.md R241). -/
def execLb (rt : RegNum) (offset : BitVec 16) (base : RegNum) (s : State) : Out :=
  s.loadTo rt (s.address base offset) 1 fun v => (v.setWidth 8).signExtend 64

/-- LBU (40_loadstore.md R242). -/
def execLbu (rt : RegNum) (offset : BitVec 16) (base : RegNum) (s : State) : Out :=
  s.loadTo rt (s.address base offset) 1 fun v => v

/-- LH (40_loadstore.md R243). -/
def execLh (rt : RegNum) (offset : BitVec 16) (base : RegNum) (s : State) : Out :=
  s.loadTo rt (s.address base offset) 2 fun v => (v.setWidth 16).signExtend 64

/-- LHU (40_loadstore.md R244). -/
def execLhu (rt : RegNum) (offset : BitVec 16) (base : RegNum) (s : State) : Out :=
  s.loadTo rt (s.address base offset) 2 fun v => v

/-- LW (40_loadstore.md R245). -/
def execLw (rt : RegNum) (offset : BitVec 16) (base : RegNum) (s : State) : Out :=
  s.loadTo rt (s.address base offset) 4 fun v => sext32 (low32 v)

/-- LWU (40_loadstore.md R246). -/
def execLwu (rt : RegNum) (offset : BitVec 16) (base : RegNum) (s : State) : Out :=
  s.loadTo rt (s.address base offset) 4 fun v => v

/-- LD (40_loadstore.md R247). -/
def execLd (rt : RegNum) (offset : BitVec 16) (base : RegNum) (s : State) : Out :=
  s.loadTo rt (s.address base offset) 8 fun v => v

/-- LWL (40_loadstore.md R248). -/
def execLwl (rt : RegNum) (offset : BitVec 16) (base : RegNum) (s : State) : Out :=
  let va := s.address base offset
  s.loadPartTo rt (va &&& ~~~3) 4 0 (byteInWord va + 1) fun v => sext32 (mergeLwl (byteInWord va) (low32 (s.gpr rt)) (low32 v))

/-- LWR (40_loadstore.md R249). -/
def execLwr (rt : RegNum) (offset : BitVec 16) (base : RegNum) (s : State) : Out :=
  let va := s.address base offset
  s.loadPartTo rt (va &&& ~~~3) 4 (byteInWord va) (4 - byteInWord va) fun v => s.lwrValue (byteInWord va) (s.gpr rt) (low32 v)

/-- LDL (40_loadstore.md R250). -/
def execLdl (rt : RegNum) (offset : BitVec 16) (base : RegNum) (s : State) : Out :=
  let va := s.address base offset
  s.loadPartTo rt (va &&& ~~~7) 8 0 (byteInDouble va + 1) fun v => mergeLdl (byteInDouble va) (s.gpr rt) v

/-- LDR (40_loadstore.md R251). -/
def execLdr (rt : RegNum) (offset : BitVec 16) (base : RegNum) (s : State) : Out :=
  let va := s.address base offset
  s.loadPartTo rt (va &&& ~~~7) 8 (byteInDouble va) (8 - byteInDouble va) fun v => mergeLdr (byteInDouble va) (s.gpr rt) v

/-- LL (40_loadstore.md R252). -/
def execLl (rt : RegNum) (offset : BitVec 16) (base : RegNum) (s : State) : Out :=
  s.loadLinked rt (s.address base offset) 4 fun v => sext32 (low32 v)

/-- LLD (40_loadstore.md R253). -/
def execLld (rt : RegNum) (offset : BitVec 16) (base : RegNum) (s : State) : Out :=
  s.loadLinked rt (s.address base offset) 8 fun v => v

/-- SB (40_loadstore.md R254). -/
def execSb (rt : RegNum) (offset : BitVec 16) (base : RegNum) (s : State) : Out :=
  s.storeFrom (s.address base offset) 1 1 (s.gpr rt)

/-- SH (40_loadstore.md R255). -/
def execSh (rt : RegNum) (offset : BitVec 16) (base : RegNum) (s : State) : Out :=
  s.storeFrom (s.address base offset) 2 2 (s.gpr rt)

/-- SW (40_loadstore.md R256). -/
def execSw (rt : RegNum) (offset : BitVec 16) (base : RegNum) (s : State) : Out :=
  s.storeFrom (s.address base offset) 4 4 (s.gpr rt)

/-- SD (40_loadstore.md R257). -/
def execSd (rt : RegNum) (offset : BitVec 16) (base : RegNum) (s : State) : Out :=
  s.storeFrom (s.address base offset) 8 8 (s.gpr rt)

/-- SWL (40_loadstore.md R258): the most significant bytes of the word, at va-b to va. -/
def execSwl (rt : RegNum) (offset : BitVec 16) (base : RegNum) (s : State) : Out :=
  let va := s.address base offset
  let b := byteInWord va
  s.storeFrom (va - BitVec.ofNat 64 b) 1 (b + 1) (((low32 (s.gpr rt)) >>> (8 * (3 - b))).setWidth 64)

/-- SWR (40_loadstore.md R259): the least significant bytes of the word, at va to va+3-b. -/
def execSwr (rt : RegNum) (offset : BitVec 16) (base : RegNum) (s : State) : Out :=
  let va := s.address base offset
  s.storeFrom va 1 (4 - byteInWord va) (s.gpr rt)

/-- SDL (40_loadstore.md R260). -/
def execSdl (rt : RegNum) (offset : BitVec 16) (base : RegNum) (s : State) : Out :=
  let va := s.address base offset
  let b := byteInDouble va
  s.storeFrom (va - BitVec.ofNat 64 b) 1 (b + 1) (s.gpr rt >>> (8 * (7 - b)))

/-- SDR (40_loadstore.md R261). -/
def execSdr (rt : RegNum) (offset : BitVec 16) (base : RegNum) (s : State) : Out :=
  let va := s.address base offset
  s.storeFrom va 1 (8 - byteInDouble va) (s.gpr rt)

/-- SC (40_loadstore.md R262). -/
def execSc (rt : RegNum) (offset : BitVec 16) (base : RegNum) (s : State) : Out :=
  s.storeConditional rt (s.address base offset) 4

/-- SCD (40_loadstore.md R263). -/
def execScd (rt : RegNum) (offset : BitVec 16) (base : RegNum) (s : State) : Out :=
  s.storeConditional rt (s.address base offset) 8

/-- A cached copy of a word holds something else than memory. -/
def State.staleCopy (s : State) (w : Nat) : Bool :=
  let pa := wordAddress w
  let copies := s.inD (s.touchedD pa) pa 4 ++ s.inL2 (s.touchedL2 pa) pa 4
    ++ (s.iCopies pa).map fun k => lineGet (s.iline k).data (lineOffset pa) 4
  copies.any fun v => v != s.memoryWord w

/-- The views for which SYNC ends the sequence of a version: fetches through the I-cache sets that have been invalidated, and fetches
past the caches, of a word stored past them, or of another one where no modified copy is left. Where a copy that was filled since
a store past the caches still shows the old bytes, cached fetches have to wait for the whole sequence (20_memory.md R185,
70_reset_and_hazards.md R715; entry 8). -/
def State.syncedViews (s : State) (v : CodeVersion) : List View :=
  let past := v.past || (s.inModified (wordAddress v.word) 4).isEmpty
  (if past then [.uncached] else []) ++ if v.past && s.staleCopy v.word then [] else v.invalidated.map View.cached

/-- A version of a word after SYNC. -/
def State.syncVersion (s : State) (v : CodeVersion) : CodeVersion :=
  let again := v.past && s.staleCopy v.word
  { v with
    pushed := v.pushed && !again
    invalidated := if again then [] else v.invalidated
    settled := (s.syncedViews v ++ v.settled).dedup }

/-- The sequence is complete for every fetch. -/
def CodeVersion.isSettled (v : CodeVersion) : Bool :=
  [View.uncached, .cached 0, .cached 1, .cached 2, .cached 3].all fun w => v.settled.contains w

/-- SYNC ends the sequence for stored code (20_memory.md R185). -/
def State.syncCode (s : State) : State := { s with code := (s.code.map s.syncVersion).filter fun v => !v.isSettled }

/-- SYNC (40_loadstore.md R264, 20_memory.md R175): every pending store is issued; what the caches hold stays there. -/
def execSync (s : State) : Out := s.drainGather.syncCode.advance

end Machine
end Sys2Proof
end

