-- ==== Sys2Proof/Machine/MulDiv.lean ====
section
/-! DEFINITION. Multiply, divide and the Godson2 three-operand forms: 42_muldiv.md. -/

namespace Sys2Proof
namespace Machine

/-- End of an instruction that writes HI and LO. -/
def State.writeHiLo (s : State) (hi lo : Word) : Out := (s.setHiLo hi lo).advance

/-- HI and LO free, over all 64-bit values (42_muldiv.md R349). -/
def State.freeHiLo (s : State) : Out := s.writeHiLo (s.draw 64 .hi) (s.draw 64 .lo)

/-- HI and LO free, sign-extended words (42_muldiv.md R345, R346; entry 25). -/
def State.freeWordHiLo (s : State) : Out := s.writeHiLo (sext32 (s.draw 32 .hi)) (sext32 (s.draw 32 .lo))

/-- A 32-bit form: HI and LO are free where an operand is no sign-extended word (42_muldiv.md R349). -/
def State.whenWords (s : State) (rs rt : RegNum) (act : Out) : Out :=
  if isWord (s.gpr rs) && isWord (s.gpr rt) then act else s.freeHiLo

/-- The dividend is the most negative word and the divisor -1 (42_muldiv.md R346). -/
def divOverflows32 (a b : Word32) : Bool := a == BitVec.intMin 32 && b == BitVec.allOnes 32

/-- The dividend is the most negative doubleword and the divisor -1 (42_muldiv.md R346). -/
def divOverflows64 (a b : Word) : Bool := a == BitVec.intMin 64 && b == BitVec.allOnes 64

/-- The signed quotient, truncated toward zero (42_muldiv.md R347). -/
def quotient {w : Nat} (a b : BitVec w) : BitVec w := BitVec.ofInt w (a.toInt.tdiv b.toInt)

/-- The signed remainder, with the sign of the dividend (42_muldiv.md R347). -/
def remainder {w : Nat} (a b : BitVec w) : BitVec w := BitVec.ofInt w (a.toInt.tmod b.toInt)

/-- A word result of a Godson2 division, free where the divisor is 0 (42_muldiv.md R345). -/
def State.divideWord (s : State) (rd : RegNum) (b v : Word32) : Out :=
  s.writeGpr rd (sext32 (if b = 0 then s.draw 32 .result else v))

/-- A doubleword result of a Godson2 division, free where the divisor is 0 (42_muldiv.md R345). -/
def State.divideDouble (s : State) (rd : RegNum) (b v : Word) : Out :=
  s.writeGpr rd (if b = 0 then s.draw 64 .result else v)

/-- MULT (42_muldiv.md R321). -/
def execMult (rs rt : RegNum) (s : State) : Out :=
  s.whenWords rs rt (
    let p := (s.gpr rs |> low32).signExtend 64 * (s.gpr rt |> low32).signExtend 64
    s.writeHiLo (sext32 (p.extractLsb' 32 32)) (sext32 (low32 p)))

/-- DMULT (42_muldiv.md R322). -/
def execDmult (rs rt : RegNum) (s : State) : Out :=
  let p := (s.gpr rs).signExtend 128 * (s.gpr rt).signExtend 128
  s.writeHiLo (p.extractLsb' 64 64) (p.extractLsb' 0 64)

/-- MULTU (42_muldiv.md R323). -/
def execMultu (rs rt : RegNum) (s : State) : Out :=
  s.whenWords rs rt (
    let p := (s.gpr rs |> low32).setWidth 64 * (s.gpr rt |> low32).setWidth 64
    s.writeHiLo (sext32 (p.extractLsb' 32 32)) (sext32 (low32 p)))

/-- DMULTU (42_muldiv.md R324). -/
def execDmultu (rs rt : RegNum) (s : State) : Out :=
  let p := (s.gpr rs).setWidth 128 * (s.gpr rt).setWidth 128
  s.writeHiLo (p.extractLsb' 64 64) (p.extractLsb' 0 64)

/-- DIV (42_muldiv.md R325). -/
def execDiv (rs rt : RegNum) (s : State) : Out :=
  let a := low32 (s.gpr rs)
  let b := low32 (s.gpr rt)
  s.whenWords rs rt (
    if b = 0 || divOverflows32 a b then s.freeWordHiLo
    else s.writeHiLo (sext32 (remainder a b)) (sext32 (quotient a b)))

/-- DDIV (42_muldiv.md R326). -/
def execDdiv (rs rt : RegNum) (s : State) : Out :=
  let a := s.gpr rs
  let b := s.gpr rt
  if b = 0 || divOverflows64 a b then s.freeHiLo
  else s.writeHiLo (remainder a b) (quotient a b)

/-- DIVU (42_muldiv.md R327). -/
def execDivu (rs rt : RegNum) (s : State) : Out :=
  let a := low32 (s.gpr rs)
  let b := low32 (s.gpr rt)
  s.whenWords rs rt (
    if b = 0 then s.freeWordHiLo else s.writeHiLo (sext32 (a % b)) (sext32 (a / b)))

/-- DDIVU (42_muldiv.md R328). -/
def execDdivu (rs rt : RegNum) (s : State) : Out :=
  let a := s.gpr rs
  let b := s.gpr rt
  if b = 0 then s.freeHiLo else s.writeHiLo (a % b) (a / b)

/-- MFHI (42_muldiv.md R329). -/
def execMfhi (rd : RegNum) (s : State) : Out :=
  s.writeGpr rd s.hi

/-- MTHI (42_muldiv.md R330). -/
def execMthi (rs : RegNum) (s : State) : Out :=
  s.writeHiLo (s.gpr rs) s.lo

/-- MFLO (42_muldiv.md R331). -/
def execMflo (rd : RegNum) (s : State) : Out :=
  s.writeGpr rd s.lo

/-- MTLO (42_muldiv.md R332). -/
def execMtlo (rs : RegNum) (s : State) : Out :=
  s.writeHiLo s.hi (s.gpr rs)

/-- MULT.G (42_muldiv.md R333). -/
def execMultG (rd rs rt : RegNum) (s : State) : Out :=
  s.writeGpr rd (sext32 (low32 ((low32 (s.gpr rs)).signExtend 64 * (low32 (s.gpr rt)).signExtend 64)))

/-- MULTU.G (42_muldiv.md R334). -/
def execMultuG (rd rs rt : RegNum) (s : State) : Out :=
  s.writeGpr rd (sext32 (low32 ((low32 (s.gpr rs)).setWidth 64 * (low32 (s.gpr rt)).setWidth 64)))

/-- DMULT.G (42_muldiv.md R335). -/
def execDmultG (rd rs rt : RegNum) (s : State) : Out :=
  s.writeGpr rd (((s.gpr rs).signExtend 128 * (s.gpr rt).signExtend 128).extractLsb' 0 64)

/-- DMULTU.G (42_muldiv.md R336). -/
def execDmultuG (rd rs rt : RegNum) (s : State) : Out :=
  s.writeGpr rd (((s.gpr rs).setWidth 128 * (s.gpr rt).setWidth 128).extractLsb' 0 64)

/-- DIV.G (42_muldiv.md R337). -/
def execDivG (rd rs rt : RegNum) (s : State) : Out :=
  s.divideWord rd (low32 (s.gpr rt)) (quotient (low32 (s.gpr rs)) (low32 (s.gpr rt)))

/-- DIVU.G (42_muldiv.md R338). -/
def execDivuG (rd rs rt : RegNum) (s : State) : Out :=
  s.divideWord rd (low32 (s.gpr rt)) (low32 (s.gpr rs) / low32 (s.gpr rt))

/-- DDIV.G (42_muldiv.md R339). -/
def execDdivG (rd rs rt : RegNum) (s : State) : Out :=
  s.divideDouble rd (s.gpr rt)
    (if divOverflows64 (s.gpr rs) (s.gpr rt) then s.draw 64 .result else quotient (s.gpr rs) (s.gpr rt))

/-- DDIVU.G (42_muldiv.md R340). -/
def execDdivuG (rd rs rt : RegNum) (s : State) : Out :=
  s.divideDouble rd (s.gpr rt) (s.gpr rs / s.gpr rt)

/-- MOD.G (42_muldiv.md R341). -/
def execModG (rd rs rt : RegNum) (s : State) : Out :=
  s.divideWord rd (low32 (s.gpr rt)) (remainder (low32 (s.gpr rs)) (low32 (s.gpr rt)))

/-- MODU.G (42_muldiv.md R342). -/
def execModuG (rd rs rt : RegNum) (s : State) : Out :=
  s.divideWord rd (low32 (s.gpr rt)) (low32 (s.gpr rs) % low32 (s.gpr rt))

/-- DMOD.G (42_muldiv.md R343). -/
def execDmodG (rd rs rt : RegNum) (s : State) : Out :=
  s.divideDouble rd (s.gpr rt) (remainder (s.gpr rs) (s.gpr rt))

/-- DMODU.G (42_muldiv.md R344). -/
def execDmoduG (rd rs rt : RegNum) (s : State) : Out :=
  s.divideDouble rd (s.gpr rt) (s.gpr rs % s.gpr rt)

end Machine
end Sys2Proof
end

