-- ==== Sys2Proof/Machine/Shift.lean ====
section
/-! DEFINITION. Shifts: 44_shift.md. -/

namespace Sys2Proof
namespace Machine

/-- The amount of a variable word shift: the low 5 bits (44_shift.md R400). -/
def State.amount5 (s : State) (rs : RegNum) : Nat := ((s.gpr rs).extractLsb' 0 5).toNat

/-- The amount of a variable doubleword shift: the low 6 bits (44_shift.md R400). -/
def State.amount6 (s : State) (rs : RegNum) : Nat := ((s.gpr rs).extractLsb' 0 6).toNat

/-- SLL (44_shift.md R401). -/
def execSll (rd rt : RegNum) (sa : BitVec 5) (s : State) : Out :=
  s.writeGpr rd (sext32 (low32 (s.gpr rt) <<< sa.toNat))

/-- SRL (44_shift.md R402). -/
def execSrl (rd rt : RegNum) (sa : BitVec 5) (s : State) : Out :=
  s.writeGpr rd (s.wordResult [s.gpr rt] (low32 (s.gpr rt) >>> sa.toNat))

/-- SRA (44_shift.md R403). -/
def execSra (rd rt : RegNum) (sa : BitVec 5) (s : State) : Out :=
  s.writeGpr rd (s.wordResult [s.gpr rt] ((low32 (s.gpr rt)).sshiftRight sa.toNat))

/-- SLLV (44_shift.md R404). -/
def execSllv (rd rt rs : RegNum) (s : State) : Out :=
  s.writeGpr rd (sext32 (low32 (s.gpr rt) <<< s.amount5 rs))

/-- SRLV (44_shift.md R405). -/
def execSrlv (rd rt rs : RegNum) (s : State) : Out :=
  s.writeGpr rd (s.wordResult [s.gpr rt] (low32 (s.gpr rt) >>> s.amount5 rs))

/-- SRAV (44_shift.md R406). -/
def execSrav (rd rt rs : RegNum) (s : State) : Out :=
  s.writeGpr rd (s.wordResult [s.gpr rt] ((low32 (s.gpr rt)).sshiftRight (s.amount5 rs)))

/-- DSLL (44_shift.md R407). -/
def execDsll (rd rt : RegNum) (sa : BitVec 5) (s : State) : Out :=
  s.writeGpr rd (s.gpr rt <<< sa.toNat)

/-- DSRL (44_shift.md R408). -/
def execDsrl (rd rt : RegNum) (sa : BitVec 5) (s : State) : Out :=
  s.writeGpr rd (s.gpr rt >>> sa.toNat)

/-- DSRA (44_shift.md R409). -/
def execDsra (rd rt : RegNum) (sa : BitVec 5) (s : State) : Out :=
  s.writeGpr rd ((s.gpr rt).sshiftRight sa.toNat)

/-- DSLLV (44_shift.md R410). -/
def execDsllv (rd rt rs : RegNum) (s : State) : Out :=
  s.writeGpr rd (s.gpr rt <<< s.amount6 rs)

/-- DSRLV (44_shift.md R411). -/
def execDsrlv (rd rt rs : RegNum) (s : State) : Out :=
  s.writeGpr rd (s.gpr rt >>> s.amount6 rs)

/-- DSRAV (44_shift.md R412). -/
def execDsrav (rd rt rs : RegNum) (s : State) : Out :=
  s.writeGpr rd ((s.gpr rt).sshiftRight (s.amount6 rs))

/-- DSLL32 (44_shift.md R413). -/
def execDsll32 (rd rt : RegNum) (sa : BitVec 5) (s : State) : Out :=
  s.writeGpr rd (s.gpr rt <<< (sa.toNat + 32))

/-- DSRL32 (44_shift.md R414). -/
def execDsrl32 (rd rt : RegNum) (sa : BitVec 5) (s : State) : Out :=
  s.writeGpr rd (s.gpr rt >>> (sa.toNat + 32))

/-- DSRA32 (44_shift.md R415). -/
def execDsra32 (rd rt : RegNum) (sa : BitVec 5) (s : State) : Out :=
  s.writeGpr rd ((s.gpr rt).sshiftRight (sa.toNat + 32))

end Machine
end Sys2Proof
end

