-- ==== Sys2Proof/Machine/Special.lean ====
section
/-! DEFINITION. SYSCALL, BREAK and the traps: 45_special_trap.md. -/

namespace Sys2Proof
namespace Machine

/-- A conditional trap: the Trap exception where the condition holds, else nothing but the advance (45_special_trap.md R425,
R440). -/
def State.trapWhen (s : State) (c : Bool) : Out := if c then s.raise .trap else s.advance

/-- SYSCALL (45_special_trap.md R426). -/
def execSyscall (_code : BitVec 20) (s : State) : Out :=
  s.raise .systemCall

/-- BREAK (45_special_trap.md R427). -/
def execBreak (_code : BitVec 20) (s : State) : Out :=
  s.raise .breakpoint

/-- TGE (45_special_trap.md R428). -/
def execTge (rs rt : RegNum) (_code : BitVec 10) (s : State) : Out :=
  s.trapWhen (!ltSigned (s.gpr rs) (s.gpr rt))

/-- TGEU (45_special_trap.md R429). -/
def execTgeu (rs rt : RegNum) (_code : BitVec 10) (s : State) : Out :=
  s.trapWhen (!ltUnsigned (s.gpr rs) (s.gpr rt))

/-- TLT (45_special_trap.md R430). -/
def execTlt (rs rt : RegNum) (_code : BitVec 10) (s : State) : Out :=
  s.trapWhen (ltSigned (s.gpr rs) (s.gpr rt))

/-- TLTU (45_special_trap.md R431). -/
def execTltu (rs rt : RegNum) (_code : BitVec 10) (s : State) : Out :=
  s.trapWhen (ltUnsigned (s.gpr rs) (s.gpr rt))

/-- TEQ (45_special_trap.md R432). -/
def execTeq (rs rt : RegNum) (_code : BitVec 10) (s : State) : Out :=
  s.trapWhen (s.gpr rs == s.gpr rt)

/-- TNE (45_special_trap.md R433). -/
def execTne (rs rt : RegNum) (_code : BitVec 10) (s : State) : Out :=
  s.trapWhen (s.gpr rs != s.gpr rt)

/-- TGEI (45_special_trap.md R434). -/
def execTgei (rs : RegNum) (imm : BitVec 16) (s : State) : Out :=
  s.trapWhen (!ltSigned (s.gpr rs) (immSext imm))

/-- TGEIU (45_special_trap.md R435). -/
def execTgeiu (rs : RegNum) (imm : BitVec 16) (s : State) : Out :=
  s.trapWhen (!ltUnsigned (s.gpr rs) (immSext imm))

/-- TLTI (45_special_trap.md R436). -/
def execTlti (rs : RegNum) (imm : BitVec 16) (s : State) : Out :=
  s.trapWhen (ltSigned (s.gpr rs) (immSext imm))

/-- TLTIU (45_special_trap.md R437). -/
def execTltiu (rs : RegNum) (imm : BitVec 16) (s : State) : Out :=
  s.trapWhen (ltUnsigned (s.gpr rs) (immSext imm))

/-- TEQI (45_special_trap.md R438). -/
def execTeqi (rs : RegNum) (imm : BitVec 16) (s : State) : Out :=
  s.trapWhen (s.gpr rs == immSext imm)

/-- TNEI (45_special_trap.md R439). -/
def execTnei (rs : RegNum) (imm : BitVec 16) (s : State) : Out :=
  s.trapWhen (s.gpr rs != immSext imm)

end Machine
end Sys2Proof
end

