-- ==== Sys2Proof/Machine/Events.lean ====
section
/-! DEFINITION. What happens between instructions: time, resets, NMI and interrupts: 60_exceptions.md R609, R640 to R645,
R667 to R673, 10_state.md R44, R51, R78, R120 to R122. -/

namespace Sys2Proof
namespace Machine

/-! ## Time (entries 13, 14, 15) -/

/-- The place of an enable of the performance counters: 0 EXL, 1 K, 2 S, 3 U (10_state.md R76; entry 15). -/
def State.perfEnabled (s : State) (which : Fin 4) : Bool := s.cp0.perfControl.enables.getLsbD (Config.perfEnableBits which).val

/-- An enabled qualifier matches the mode, so the performance counters may count (10_state.md R76, Table 5-19). -/
def State.perfCounts (s : State) : Bool :=
  let st := s.cp0.status
  if st.erl then false
  else if st.exl then s.perfEnabled 0
  else
    match st.ksu.toNat with
    | 0 => s.perfEnabled 1
    | 1 => s.perfEnabled 2
    | 2 => s.perfEnabled 3
    | _ => false

/-- How far Count advances in this step: freely, but it does not stand still for more steps than its window
(10_state.md R51, 60_exceptions.md R643, 70_reset_and_hazards.md R730; entry 13). -/
def State.countStep (s : State) : Word32 :=
  if s.draw 32 .countStep = 0 && decide (Config.countWindow ≤ s.countIdle) then 1 else s.draw 32 .countStep

/-- Count meets Compare on its way (10_state.md R51, R52). -/
def State.timerMatches (s : State) : Bool := decide ((s.cp0.compare - s.cp0.count).toNat ≤ s.countStep.toNat)

/-- A performance counter after a step: it goes on by a free amount where it counts (10_state.md R78; entry 15). -/
def State.perfAfter (s : State) (counts : Bool) (which : Nat) (counter : Word32) : Word32 :=
  if counts then counter + s.draw 32 (.perfStep which) else counter

/-- What every step does besides its own effect; `counts` tells whether the performance counters count. -/
def State.tickTime (s : State) (counts : Bool) : State :=
  { s with
    cp0 := { s.cp0 with
      count := s.cp0.count + s.countStep
      counter0 := s.perfAfter counts 0 s.cp0.counter0
      counter1 := s.perfAfter counts 1 s.cp0.counter1 }
    timerIp := s.timerIp || s.timerMatches
    softDelay0 := s.softDelay0 - 1
    softDelay1 := s.softDelay1 - 1
    countIdle := if s.countStep = 0 then s.countIdle + 1 else 0
    free := s.free + 1 }

/-- Random after an instruction: 63 right after a write of Wired, else a free value from Wired to 63 (10_state.md R44; entry
14). -/
def State.tickRandom (s : State) : State :=
  if s.randomHold then { s with randomHold := false }
  else
    let w := s.cp0.wired.toNat
    { s with cp0 := { s.cp0 with random := BitVec.ofNat 6 (w + s.drawBelow (64 - w) .random) } }

/-- The end of a step that executed an instruction, `s` being the state it was executed in. -/
def State.tickInstruction (s t : State) : State := t.tickRandom.tickTime (s.perfCounts || t.perfCounts)

/-- The end of a step that took an event. -/
def State.tickEvent (s t : State) : State := t.tickTime (s.perfCounts || t.perfCounts)

/-! ## Interrupts (60_exceptions.md R640 to R642) -/

/-- The requests that are enabled by Status.IM. -/
def State.enabledIp (s : State) : BitVec 8 := s.cp0.status.im &&& s.pendingIp

/-- Interrupts are enabled (10_state.md R58). -/
def State.interruptsEnabled (s : State) : Bool := s.cp0.status.ie && !s.cp0.status.exl && !s.cp0.status.erl

/-- The requests that are not delayed: all but a software interrupt that was made a few steps ago (60_exceptions.md R642; entry
12). -/
def State.readyIp (s : State) : BitVec 8 := 0x3F#6 ++ bit (s.softDelay1 == 0) ++ bit (s.softDelay0 == 0)

/-- An interrupt is taken before the next instruction (60_exceptions.md R640), but a software interrupt may be some steps late
(R642; entry 12). -/
def State.interruptDue (s : State) : Bool := s.interruptsEnabled && s.enabledIp &&& s.readyIp != 0

/-- A deferred Watch exception is taken (60_exceptions.md R668). -/
def State.watchDue (s : State) : Bool := s.pendingWatch && !s.cp0.status.exl && !s.cp0.status.erl

/-- The deferred Watch exception (60_exceptions.md R668). That taking it clears the pending bit, of which the rule names only a reset
and a write of WatchLo as clearing it, is the model's choice (entry 35). -/
def State.takeWatch (s : State) : State := { s with pendingWatch := false }.takeException .watch

/-! ## Resets and NMI (60_exceptions.md R669 to R672) -/

/-- All cache contents become undefined (60_exceptions.md R669, 10_state.md R111; entry 6); the copies that raced are gone. -/
def State.loseCaches (s : State) : State :=
  { s with caches := { epoch := s.free + 1, icache := [], dcache := [], l2 := [] }, raced := [] }

/-- SOFT RESET: 60_exceptions.md R669, R671, 10_state.md R122. -/
def State.takeSoftReset (s : State) : State :=
  let t := s.drainGather.errorEntry.loseCaches
  { t with
    pins := { t.pins with interrupts := 0, softReset := false }
    pendingWatch := false }

/-- NMI: 60_exceptions.md R672. -/
def State.takeNmi (s : State) : State :=
  let t := s.errorEntry
  { t with pins := { t.pins with nmi := false } }

/-- A free value of `w` bits for the register number `n` of a cold reset (10_state.md R121). -/
def State.lost (s : State) (w n : Nat) : BitVec w := s.draw w (.coldReset n)

/-- A free bit for the register number `n` of a cold reset. -/
def State.lostBit (s : State) (n : Nat) : Bool := s.drawBit (.coldReset n)

/-- A TLB entry that a cold reset leaves undefined; its numbers start at 1000 (10_state.md R121). -/
def State.lostTlbEntry (s : State) (i : Nat) : TlbEntry :=
  let v := s.lost 54 (1000 + 3 * i)
  { mask := v.extractLsb' 0 12
    r := v.extractLsb' 12 2
    vpn2 := v.extractLsb' 14 31
    g := v.getLsbD 45
    asid := v.extractLsb' 46 8
    page0 := (s.freeEntryLo (.coldReset (1001 + 3 * i))).page
    page1 := (s.freeEntryLo (.coldReset (1002 + 3 * i))).page }

/-- Status after a cold reset: ERL = BEV = 1, SR = 0, the rest undefined (10_state.md R120, R121). -/
def State.lostStatus (s : State) : StatusReg :=
  { cu := s.lost 4 300, fr := s.lostBit 301, bev := true, sr := false, im := s.lost 8 302, ksu := s.lost 2 303, erl := true,
    exl := s.lostBit 304, ie := s.lostBit 305 }

/-- CP0 after a cold reset of a running machine (10_state.md R120, R121). -/
def State.lostCp0 (s : State) : Cp0 :=
  { indexP := s.lostBit 310
    index := s.lost 6 311
    random := 63
    entryLo0 := s.freeEntryLo (.coldReset 312)
    entryLo1 := s.freeEntryLo (.coldReset 313)
    context := { pteBase := s.lost 41 314, badVpn2 := s.lost 19 315 }
    pageMask := s.lost 12 316
    wired := 0
    badVAddr := s.lost 64 317
    count := s.lost 32 318
    entryHi := { r := s.lost 2 319, vpn2 := s.lost 31 320, asid := s.lost 8 321 }
    compare := s.lost 32 322
    status := s.lostStatus
    cause := { bd := s.lostBit 323, ce := s.lost 2 324, excCode := s.lost 5 325, softIp := s.lost 2 326 }
    epc := s.lost 64 327
    configK0 := s.lost 3 328
    llAddr := s.lost 32 329
    watchLo := { paddr0 := s.lost 29 330, r := s.lostBit 331, w := s.lostBit 332 }
    watchHi := s.lost 8 333
    xcontext := { pteBase := s.lost 27 334, r := s.lost 2 335, badVpn2 := s.lost 31 336 }
    diagnostic := s.lost 64 337
    perfControl := { event1 := 0, event0 := 0, ie7 := s.lostBit 338, enables := s.lost 4 339 }
    counter0 := s.lost 32 340
    counter1 := s.lost 32 341
    tagLo := s.lost 32 342
    tagHi := s.lost 32 343
    errorEpc := s.restartPc }

/-- FCR31 after a cold reset of a running machine (10_state.md R121). -/
def State.lostFcsr (s : State) : Fcsr :=
  { cc := s.lost 7 350, fs := s.lostBit 351, cc0 := s.lostBit 352, cause := s.lost 6 353, enables := s.lost 5 354,
    flags := s.lost 5 355, rm := s.lost 2 356 }

/-- COLD RESET of a running machine: 60_exceptions.md R670, 10_state.md R120, R121 (entry 46). Registers the spec calls
undefined take free values; memory and the map of the platform stay; the timer request, which
Cause.IP[7] shows, counts among the undefined bits of Cause. -/
def State.takeColdReset (s : State) : State :=
  { gprs := Vector.ofFn fun i => s.lost 64 (100 + i.val)
    pc := resetVector
    delay := .none
    hi := s.lost 64 360
    lo := s.lost 64 361
    llBit := s.lostBit 362
    llPa := none
    cp0 := s.lostCp0
    tlb := Vector.ofFn fun i => s.lostTlbEntry i.val
    tlbWritten := Vector.replicate 64 false
    itlbStale := (List.range 16).map fun i => (s.lostTlbEntry (64 + i), s.lost 8 (400 + i))
    fprs := Vector.ofFn fun i => s.lost 64 (200 + i.val)
    fcsr := s.lostFcsr
    memory := s.memory
    caches := { epoch := s.free + 1, icache := [], dcache := [], l2 := [] }
    gather := []
    raced := []
    code := []
    ramMap := s.ramMap
    ddrConfig := s.lost 32 363
    ddrSample := s.lost 32 364
    ddrReady := false
    sampleReady := false
    pins := { s.pins with interrupts := 0, coldReset := false }
    timerIp := s.lostBit 365
    pendingWatch := false
    randomHold := false
    softDelay0 := 0
    softDelay1 := 0
    countIdle := 0
    free := s.free }

end Machine
end Sys2Proof
end

