-- ==== Sys2Proof/Machine/Cycle.lean ====
section
/-! DEFINITION. One step of the machine: an event or an instruction (60_exceptions.md R609; entry 42). The section is marked
noncomputable for the reason given in Sys2Proof/Decode.lean. -/

namespace Sys2Proof
namespace Machine

/-- The refusal of a word that the decoder answers by name. -/
def wordRefusal (r : DecodeRefusal) : Refusal :=
  match r with
  | .mustBeZero => .mustBeZero
  | .conditionalMove => .conditionalMove
  | .godson2Function => .godson2Function

/-- What a decoded word does: an instruction is executed; a reserved encoding raises Reserved Instruction (30_encoding.md
R230); an unlisted coprocessor word is tested for its unit first (R231, R232, 45_special_trap.md R446). -/
def execDecoded (d : Decoded) (s : State) : Out :=
  match d with
  | .instr i => exec i s
  | .reserved => s.raise .reservedInstruction
  | .cop0Other => s.whenCp0 (.refused .unlistedCop0)
  | .cop1Other => s.whenCp1 (.refused .unlistedCop1)
  | .cop2 => if s.cp0.status.cu.getLsbD 2 then .refused .coprocessor2 else s.raise (.coprocessorUnusable 2)
  | .refused r => .refused (wordRefusal r)

/-- The end of a step that began in `s`: time passes, Random moves on. -/
def finishStep (s : State) (o : Out) : Out :=
  match o with
  | .next t => .next (s.tickInstruction t)
  | .fault f => .fault f
  | .refused r => .refused r

noncomputable section

/-- Fetch, decode and execute, without what every step does besides (20_memory.md R141). -/
def State.runFetched (s : State) : Out :=
  match s.fetch with
  | .ok w t => execDecoded (decode w) t
  | .raise e t => t.raise e
  | .refuse r => .refused r
  | .fault f => .fault f

/-- Fetch, decode and execute one instruction. -/
def State.instructionStep (s : State) : Out := finishStep s s.runFetched

/-- One step: the event of the highest priority, or the instruction at the pc (60_exceptions.md R608, R609). -/
def State.cycle (s : State) : Out :=
  if s.pins.coldReset then .next (s.tickEvent s.takeColdReset)
  else if s.pins.softReset then .next (s.tickEvent s.takeSoftReset)
  else if s.pins.nmi then .next (s.tickEvent s.takeNmi)
  else if s.mode == .undefined then .refused .undefinedMode
  else if s.watchDue then .next (s.tickEvent s.takeWatch)
  else if s.interruptDue then .next (s.tickEvent (s.takeException .interrupt))
  else s.instructionStep

/-- The table's bits stored where the next step fetches (entry 41). -/
def State.placeWord (s : State) (nbits w : Nat) : State := s.pokeFetch (BitVec.ofNat 32 (w % 2 ^ nbits))

end

end Machine
end Sys2Proof
end

