-- ==== Sys2Proof/Machine/Step.lean ====
section
/-! DEFINITION. The step, and where a test word is put. The section is marked noncomputable for the reason given in
Sys2Proof/Decode.lean. -/

namespace Sys2Proof
namespace Machine

noncomputable section

/-- One step of the machine. -/
def step (s : State) : Host.Outcome State Fault Refusal := s.cycle

/-- The instruction whose bits are `w` stored where the next step fetches (entry 41). -/
def State.withFetchWord (s : State) (nbits w : Nat) : State := s.placeWord nbits w

end

end Machine
end Sys2Proof
end

