-- ==== Sys2Proof/Safety.lean ====
section
/-! DEFINITION. The terms that claims about the machine use: the invariant of the state, and how one state may differ from
another (the frames). -/

namespace Sys2Proof
namespace Machine

/-! ## The invariant -/

/-- What every step keeps: memory and the caches in canonical form, only lines that exist, Random between Wired and 63
(10_state.md R44, R49), never a whole line of 32 bytes waiting in the gather buffer (20_memory.md R163), and Count standing still for no more steps than its
window (70_reset_and_hazards.md R730; entry 13). -/
structure State.Inv (s : State) : Prop where
  memory : Memory.wf s.memory = true
  icache : Lines.sorted s.caches.icache = true
  dcache : Lines.sorted s.caches.dcache = true
  l2 : Lines.sorted s.caches.l2 = true
  icacheLines : ∀ p ∈ s.caches.icache, p.1 < 2048
  dcacheLines : ∀ p ∈ s.caches.dcache, p.1 < 2048
  l2Lines : ∀ p ∈ s.caches.l2, p.1 < 16384
  random : s.cp0.wired.toNat ≤ s.cp0.random.toNat
  gather : s.gatheredBytes < 32
  count : s.countIdle ≤ Config.countWindow

/-! ## Frames -/

/-- The byte of main memory that has been written at an address, none where nothing has. -/
def State.byteAt (s : State) (a : Nat) : Option Byte := Memory.read s.memory a

/-- `t` differs from `s` in the pc and the delay-slot state only. -/
structure OnlyPc (s t : State) : Prop where
  gprs : ∀ r, t.gpr r = s.gpr r
  bytes : ∀ a, t.byteAt a = s.byteAt a
  rest : t = { s with pc := t.pc, delay := t.delay }

/-- `t` differs from `s` in general register `rd`, the pc and the delay-slot state only. -/
structure OnlyGpr (s t : State) (rd : RegNum) : Prop where
  gprs : ∀ r, r ≠ rd → t.gpr r = s.gpr r
  bytes : ∀ a, t.byteAt a = s.byteAt a
  rest : t = { s with gprs := t.gprs, pc := t.pc, delay := t.delay }

/-- `t` differs from `s` in HI, LO, the pc and the delay-slot state only. -/
structure OnlyHiLo (s t : State) : Prop where
  gprs : ∀ r, t.gpr r = s.gpr r
  bytes : ∀ a, t.byteAt a = s.byteAt a
  rest : t = { s with hi := t.hi, lo := t.lo, pc := t.pc, delay := t.delay }

/-- `t` differs from `s` in the CP0 registers, the pc and the delay-slot state only. -/
structure OnlyCp0 (s t : State) : Prop where
  gprs : ∀ r, t.gpr r = s.gpr r
  bytes : ∀ a, t.byteAt a = s.byteAt a
  rest : t = { s with cp0 := t.cp0, pc := t.pc, delay := t.delay }

/-- `t` differs from `s` in FCR31, the pc and the delay-slot state only. -/
structure OnlyFcsr (s t : State) : Prop where
  gprs : ∀ r, t.gpr r = s.gpr r
  fprs : ∀ r, t.fprRaw r = s.fprRaw r
  bytes : ∀ a, t.byteAt a = s.byteAt a
  rest : t = { s with fcsr := t.fcsr, pc := t.pc, delay := t.delay }

/-- `t` differs from `s` in the 64-bit register `fd`, FCR31, the pc and the delay-slot state only. -/
structure OnlyFprD (s t : State) (fd : RegNum) : Prop where
  gprs : ∀ r, t.gpr r = s.gpr r
  fprs : ∀ r, r ≠ fd → t.fprRaw r = s.fprRaw r
  bytes : ∀ a, t.byteAt a = s.byteAt a
  rest : t = { s with fprs := t.fprs, fcsr := t.fcsr, pc := t.pc, delay := t.delay }

/-- `t` differs from `s` in the 32-bit view `fd` (and with FR = 1 the upper half of its register), FCR31, the pc and the
delay-slot state only. -/
structure OnlyFprW (s t : State) (fd : RegNum) : Prop where
  gprs : ∀ r, t.gpr r = s.gpr r
  views : ∀ r, r ≠ fd → t.fprW r = s.fprW r
  fprs : ∀ r, r ≠ s.fprHome fd → t.fprRaw r = s.fprRaw r
  bytes : ∀ a, t.byteAt a = s.byteAt a
  rest : t = { s with fprs := t.fprs, fcsr := t.fcsr, pc := t.pc, delay := t.delay }

/-- The `n` bytes from physical address `pa` hold the low bytes of `v`, least significant first (20_memory.md R131), and
every other byte is as in `s`. -/
structure StoresBytes (s t : State) (pa : PAddr) (n : Nat) (v : Word) : Prop where
  stored : ∀ i, i < n → t.byteAt (pa + BitVec.ofNat 40 i).toNat = some (v.extractLsb' (8 * i) 8)
  others : ∀ a, (∀ i, i < n → a ≠ (pa + BitVec.ofNat 40 i).toNat) → t.byteAt a = s.byteAt a

/-! ## Outcomes -/

/-- The pc goes on as after any instruction that is no taken branch (10_state.md R36). -/
def Advanced (s t : State) : Prop := t.pc = s.nextPc ∧ t.delay = .none

/-- The instruction completes, writes `v` to general register `rd` (nothing where `rd` is 0, 10_state.md R31), and changes
nothing else. -/
def GprResult (s : State) (o : Out) (rd : RegNum) (v : Word) : Prop :=
  ∃ t, o = .next t ∧ Advanced s t ∧ t.gpr rd = (if rd = 0 then 0 else v) ∧ OnlyGpr s t rd

/-- The instruction completes, writes `hi` and `lo` to HI and LO, and changes nothing else. -/
def HiLoResult (s : State) (o : Out) (hi lo : Word) : Prop :=
  ∃ t, o = .next t ∧ Advanced s t ∧ t.hi = hi ∧ t.lo = lo ∧ OnlyHiLo s t

/-- The instruction completes and changes nothing but the pc. -/
def NoEffect (s : State) (o : Out) : Prop := ∃ t, o = .next t ∧ Advanced s t ∧ OnlyPc s t

/-- The instruction takes the exception `e`, from the state it began in. -/
def Takes (s : State) (o : Out) (e : Exc) : Prop := o = .next (s.takeException e)

/-- A branch or jump goes on to its delay slot at the next word, with `target` pending, and changes nothing else. -/
def EntersSlot (s : State) (o : Out) (target : Option Word) : Prop :=
  ∃ t, o = .next t ∧ t.pc = s.pc + 4 ∧ t.delay = .slot target ∧ OnlyPc s t

/-- An and-link branch or jump goes on to its delay slot, with the link value in general register `rd`. -/
def LinksAndEntersSlot (s : State) (o : Out) (rd : RegNum) (target : Option Word) : Prop :=
  ∃ t, o = .next t ∧ t.pc = s.pc + 4 ∧ t.delay = .slot target ∧
    t.gpr rd = (if rd = 0 then 0 else s.pc + 8) ∧ OnlyGpr s t rd

/-- A branch-likely that is not taken skips its delay slot and changes nothing else. -/
def SkipsSlot (s : State) (o : Out) : Prop :=
  ∃ t, o = .next t ∧ t.pc = s.pc + 8 ∧ t.delay = .none ∧ OnlyPc s t

/-- As `SkipsSlot`, with the link value in general register 31. -/
def LinksAndSkipsSlot (s : State) (o : Out) : Prop :=
  ∃ t, o = .next t ∧ t.pc = s.pc + 8 ∧ t.delay = .none ∧ t.gpr 31 = s.pc + 8 ∧ OnlyGpr s t 31

/-- FCR31 after an operation that did not trap: the Cause bits of the operation, and the Flags with them added
(48_fpu_arith.md R553 steps 2 and 6). -/
def FcsrRecords (s t : State) (cause : BitVec 6) : Prop :=
  t.fcsr = { s.fcsr with cause := cause, flags := s.fcsr.flags ||| cause.extractLsb' 0 5 }

/-- The FPU instruction completes with the 64-bit result `v` in `fd`. -/
def FprResultD (s : State) (o : Out) (fd : RegNum) (v : Word) (cause : BitVec 6) : Prop :=
  ∃ t, o = .next t ∧ Advanced s t ∧ t.fprD fd = v ∧ FcsrRecords s t cause ∧ OnlyFprD s t fd

/-- The FPU instruction completes with the 32-bit result `v` in `fd`. -/
def FprResultW (s : State) (o : Out) (fd : RegNum) (v : Word32) (cause : BitVec 6) : Prop :=
  ∃ t, o = .next t ∧ Advanced s t ∧ t.fprW fd = v ∧ FcsrRecords s t cause ∧ OnlyFprW s t fd

/-- The FPU instruction takes the Floating-Point exception: of FCR31 only the Cause bits have changed, and no register has
(48_fpu_arith.md R553 step 5). -/
def FpTraps (s : State) (o : Out) (cause : BitVec 6) : Prop :=
  o = .next ({ s with fcsr := { s.fcsr with cause := cause } }.takeException .floatingPoint)

/-- The end of an FPU operation with a 64-bit result: the result, or the trap (48_fpu_arith.md R553 steps 5 and 6). -/
def FpEndsD (s : State) (o : Out) (fd : RegNum) (r : FpResult) : Prop :=
  (s.fcsr.traps r.cause = false → FprResultD s o fd (BitVec.ofNat 64 r.bits) r.cause) ∧
  (s.fcsr.traps r.cause = true → FpTraps s o r.cause)

/-- The end of an FPU operation with a 32-bit result. -/
def FpEndsW (s : State) (o : Out) (fd : RegNum) (r : FpResult) : Prop :=
  (s.fcsr.traps r.cause = false → FprResultW s o fd (BitVec.ofNat 32 r.bits) r.cause) ∧
  (s.fcsr.traps r.cause = true → FpTraps s o r.cause)

/-- The end of a paired-single operation: one set of Cause bits, and both halves or neither (48_fpu_arith.md R587). -/
def FpEndsPs (s : State) (o : Out) (fd : RegNum) (high low : FpResult) : Prop :=
  FpEndsD s o fd { cause := high.cause ||| low.cause, bits := (BitVec.ofNat 32 high.bits ++ BitVec.ofNat 32 low.bits).toNat }

/-! ## Numbers -/

/-- The rational number that a finite value stands for; 0 for an infinity or a NaN. -/
def FpValue.rational (v : FpValue) : ℚ :=
  match v with
  | .finite neg m e => (if neg then -1 else 1) * m * 2 ^ e
  | _ => 0

/-- A value that is a number, not an infinity or a NaN. -/
def FpValue.isFinite (v : FpValue) : Bool :=
  match v with
  | .finite _ _ _ => true
  | _ => false

/-- A bit pattern of the format that arithmetic computes with: a finite number that is not denormalised. -/
def FpFormat.plainNumber (f : FpFormat) (n : Nat) : Bool := (f.value n).isFinite && !f.isDenormal n

/-- The 32 lower bits of a doubleword. -/
def lowerHalf (v : Word) : Word32 := BitVec.ofNat 32 v.toNat

/-- The 32 upper bits of a doubleword. -/
def upperHalf (v : Word) : Word32 := BitVec.ofNat 32 (v.toNat / 2 ^ 32)

/-! ## Accesses whose checks pass -/

/-- Memory answers at an address: RAM, ROM, or memory behind a DDR controller that has been configured. -/
def State.isMemory (s : State) (a : Nat) : Bool :=
  match s.kindAt a with
  | some .ram => true
  | some .rom => true
  | some .dram => s.ddrReady
  | _ => false

/-- A store changes memory at an address: RAM, or memory behind a DDR controller that has been configured. -/
def State.takesStores (s : State) (a : Nat) : Bool :=
  match s.kindAt a with
  | some .ram => true
  | some .dram => s.ddrReady
  | _ => false

/-- Memory answers at each of `n` addresses from `pa` upwards. -/
def State.inMemory (s : State) (pa : PAddr) (n : Nat) : Prop := ∀ i, i < n → s.isMemory (pa + BitVec.ofNat 40 i).toNat = true

/-- A store changes memory at each of `n` addresses from `pa` upwards. -/
def State.inRam (s : State) (pa : PAddr) (n : Nat) : Prop := ∀ i, i < n → s.takesStores (pa + BitVec.ofNat 40 i).toNat = true

/-- No modified copy of the line of an address is known. -/
def State.unmodified (s : State) (pa : PAddr) : Prop :=
  (∀ k ∈ s.touchedD pa, (s.dline k).dirty = false) ∧ ∀ k ∈ s.touchedL2 pa, (s.l2line k).state.isDirty = false

/-- A fetch of the word at a physical address through a view is no race: for every store to it, if any, the sequence is complete for
that view (20_memory.md R185). -/
def State.codeSettled (s : State) (view : View) (pa : PAddr) : Prop := ∀ v ∈ s.code, v.word = pa.toNat / 4 → view ∈ v.settled

/-- A cached load of `n` bytes is no race: each byte was last stored through the reader's own alias, or no byte was stored past the
caches and there is no copy under another alias (20_memory.md R165, R170, R196). -/
def State.notRaced (s : State) (va : Word) (pa : PAddr) (n : Nat) : Prop :=
  s.otherPlaces (cachedView va) pa n = [] ∨ (s.ownPlaces .uncached pa n = [] ∧ s.aliasCopies va pa = [])

/-- The checks of an access pass, past the caches: attribute 2 or 7 (20_memory.md R161, R163). -/
def State.passesUncached (s : State) (kind : Access) (va : Word) (align : Nat) (pa : PAddr) : Prop :=
  s.translateAligned kind va align = .pass (pa, 2) ∨ s.translateAligned kind va align = .pass (pa, 7)

/-- A load of `n` bytes at `va` past the caches from memory at `pa`: the checks pass, no gathered store overlaps it and no
modified copy is in a cache. -/
structure UncachedLoad (s : State) (va : Word) (n : Nat) (pa : PAddr) : Prop where
  translates : s.passesUncached .load va n pa
  notWatched : s.watched .load pa = false
  notGathered : s.gathered pa n = false
  memory : s.inMemory pa n
  unmodified : s.unmodified pa

/-- A load past the caches of `n` bytes from `skip` on of the aligned datum of `size` bytes at `va`, which lies at `pa`
(40_loadstore.md R248 to R251). Only those bytes count. -/
structure UncachedPart (s : State) (va : Word) (size skip n : Nat) (pa : PAddr) : Prop where
  translates : s.passesUncached .load va size pa
  notWatched : s.watched .load pa = false
  notGathered : s.gathered (pa + BitVec.ofNat 40 skip) n = false
  memory : s.inMemory (pa + BitVec.ofNat 40 skip) n
  unmodified : s.unmodified (pa + BitVec.ofNat 40 skip)

/-- A load of `n` bytes at `va` that the D-cache line `k` answers. -/
structure CachedLoad (s : State) (va : Word) (n : Nat) (pa : PAddr) (k : Nat) : Prop where
  translates : s.translateAligned .load va n = .pass (pa, 3)
  notWatched : s.watched .load pa = false
  notGathered : s.gathered pa n = false
  described : s.described pa n = .pass ()
  hit : s.dHits (l1Set va) pa = [k]
  notRaced : s.notRaced va pa n

/-- A load of `n` bytes from `skip` on of the aligned datum of `size` bytes at `va`, which lies at `pa`, that the D-cache line `k`
answers. -/
structure CachedPart (s : State) (va : Word) (size skip n : Nat) (pa : PAddr) (k : Nat) : Prop where
  translates : s.translateAligned .load va size = .pass (pa, 3)
  notWatched : s.watched .load pa = false
  notGathered : s.gathered (pa + BitVec.ofNat 40 skip) n = false
  described : s.described (pa + BitVec.ofNat 40 skip) n = .pass ()
  hit : s.dHits (l1Set (va + BitVec.ofNat 64 skip)) (pa + BitVec.ofNat 40 skip) = [k]
  notRaced : s.notRaced (va + BitVec.ofNat 64 skip) (pa + BitVec.ofNat 40 skip) n

/-- A store of `n` bytes at `va`, aligned to `align`, past the caches (attribute 2) to RAM at `pa`. -/
structure UncachedStore (s : State) (va : Word) (align n : Nat) (pa : PAddr) : Prop where
  translates : s.translateAligned .store va align = .pass (pa, 2)
  notWatched : s.watched .store pa = false
  ram : s.inRam pa n

/-- An uncached-accelerated store (attribute 7) of `n` bytes at `va`, aligned to `align`, at a physical address `pa` that RAM_MAP
describes. -/
structure AcceleratedStore (s : State) (va : Word) (align n : Nat) (pa : PAddr) : Prop where
  translates : s.translateAligned .store va align = .pass (pa, 7)
  notWatched : s.watched .store pa = false
  described : s.described pa n = .pass ()

/-- A store of `n` bytes at `va`, aligned to `align`, that hits the D-cache line `k`. -/
structure CachedStore (s : State) (va : Word) (align n : Nat) (pa : PAddr) (k : Nat) : Prop where
  translates : s.translateAligned .store va align = .pass (pa, 3)
  notWatched : s.watched .store pa = false
  described : s.described pa n = .pass ()
  hit : s.dHits (l1Set va) pa = [k]

/-- L2 line `j` holds data that goes to memory where it is replaced: it is valid, and it or a D-cache copy of it is modified. -/
abbrev State.modifiedL2 (s : State) (j : Nat) : Prop :=
  (s.l2line j).state.isValid = true ∧
    ((s.l2line j).state.isDirty = true ∨ ∃ d ∈ s.dCopies (s.l2lineBase j), (s.dline d).dirty = true)

/-- D-cache line `k` holds data that goes to the L2 where it is replaced. -/
abbrev State.modifiedD (s : State) (k : Nat) : Prop := (s.dline k).state.isValid = true ∧ (s.dline k).dirty = true

/-- The L2 can give the line of an address: one of its ways holds the line, or it has to be filled from memory, and a modified line that
could be replaced for it is one of RAM. -/
def State.belowReady (s : State) (pa : PAddr) : Prop :=
  (∃ j, s.l2Hits pa = [j]) ∨
    (s.l2Hits pa = [] ∧ s.inMemory (lineBase pa) 32 ∧
      ∀ way, way < 4 → s.modifiedL2 (lineKey (l2Set pa) way) → s.inRam (s.l2lineBase (lineKey (l2Set pa) way)) 32)

/-- A cached load or store at `va` misses the D-cache, under every alias; the L2 holds each modified line that could be replaced
(inclusion, 10_state.md R109), and no byte of the line is in the record of the latest stores. -/
structure MissesD (s : State) (va : Word) (pa : PAddr) : Prop where
  miss : s.dCopies pa = []
  inSet : s.dHits (l1Set va) pa = []
  included : ∀ way, way < 4 → s.modifiedD (lineKey (l1Set va) way) → ∃ i, s.l2Hits (s.dlineBase (lineKey (l1Set va) way)) = [i]
  below : s.belowReady pa
  notRaced : ∀ r ∈ s.raced, r.address / 32 ≠ lineNumber pa

/-- The 32 bytes that memory holds for the line of a physical address. -/
def State.memoryLine (s : State) (pa : PAddr) : BitVec 256 := BitVec.ofNat 256 (s.readBytes (lineBase pa) 32)

/-- The data that a fill of an L1 line takes: the L2's where it holds the line, else memory's (20_memory.md R162). -/
def State.fillData (s : State) (pa : PAddr) : BitVec 256 :=
  match s.l2Hits pa with
  | [] => s.memoryLine pa
  | j :: _ => (s.l2line j).data

/-- The 32 bytes of a line are in memory from `pa` upwards, and every other byte is as before. -/
def StoresLine (s t : State) (pa : PAddr) (data : BitVec 256) : Prop :=
  (∀ i, i < 32 → t.byteAt (pa + BitVec.ofNat 40 i).toNat = some (data.extractLsb' (8 * i) 8)) ∧
  ∀ a, (∀ i, i < 32 → a ≠ (pa + BitVec.ofNat 40 i).toNat) → t.byteAt a = s.byteAt a

/-- The data of L2 line `k` is in memory where it was modified: that of its one modified D-cache copy, or its own; where neither was
modified memory is as before. -/
def WritesBackL2 (s t : State) (k : Nat) : Prop :=
  let b := s.l2lineBase k
  let modified := (s.dCopies b).filter fun d => (s.dline d).dirty
  (modified = [] → (s.l2line k).state ≠ .dirty → ∀ a, t.byteAt a = s.byteAt a) ∧
  (s.inRam b 32 →
    (modified = [] → (s.l2line k).state = .dirty → StoresLine s t b (s.l2line k).data) ∧
    ∀ d, modified = [d] → StoresLine s t b (s.dline d).data)

/-- What the L2 and memory do for a fill of an L1 line. Where the L2 holds the line it keeps its lines and memory is as before; else
way `j` of its set takes the line from memory, and what it held before is written back where it was modified (20_memory.md R162). The
L2 lines of `taken` take the data of the D-cache line that the fill replaces. -/
def FillsBelow (s t : State) (pa : PAddr) (j : Nat) (taken : List Nat) : Prop :=
  (∀ i, i ∉ taken → i ≠ j ∨ s.l2Hits pa ≠ [] → t.l2line i = s.l2line i) ∧
  (s.l2Hits pa ≠ [] ∨ (s.l2line j).state = .invalid → ∀ a, t.byteAt a = s.byteAt a) ∧
  (s.l2Hits pa = [] → j / 4 = l2Set pa ∧ t.l2Hits pa = [j] ∧ (t.l2line j).data = s.memoryLine pa ∧
    (t.l2line j).state.isDirty = false ∧ ((s.l2line j).state ≠ .invalid → WritesBackL2 s t j))

/-- The L1 lines among `copies` that go with the line that L2 line `j` held before a fill of the line of `pa` replaced it (inclusion,
10_state.md R109). -/
def State.goneWith (s : State) (pa : PAddr) (j : Nat) (copies : PAddr → List Nat) : List Nat :=
  if s.l2Hits pa = [] ∧ (s.l2line j).state.isValid = true then copies (s.l2lineBase j) else []

/-- The I-cache lines that go with a replaced L2 line are invalid, and all others are as before, but for the line `k`. -/
def KeepsI (s t : State) (pa : PAddr) (j : Nat) (k : Option Nat) : Prop :=
  (∀ i ∈ s.goneWith pa j s.iCopies, some i ≠ k → (t.iline i).valid = false) ∧
  ∀ i, i ∉ s.goneWith pa j s.iCopies → some i ≠ k → t.iline i = s.iline i

/-- The D-cache lines that go with a replaced L2 line are invalid, and all others are as before, but for the line `k`. -/
def KeepsD (s t : State) (pa : PAddr) (j : Nat) (k : Option Nat) : Prop :=
  (∀ i ∈ s.goneWith pa j s.dCopies, some i ≠ k → (t.dline i).state = .invalid) ∧
  ∀ i, i ∉ s.goneWith pa j s.dCopies → some i ≠ k → t.dline i = s.dline i

/-- The L2 lines that take the data of D-cache line `k` where a fill of the line of `pa` replaces it, and L2 line `j` too where that
misses: none where line `k` is not modified, or has gone with L2 line `j` (20_memory.md R162). -/
def State.takenFrom (s : State) (pa : PAddr) (j k : Nat) : List Nat :=
  let l := s.dline k
  if l.state.isValid = true ∧ l.dirty = true ∧ k ∉ s.goneWith pa j s.dCopies then s.l2Hits (s.dlineBase k) else []

/-- `t` has the line of `pa` in one way `k` of the I-cache set of `va`; the other lines of the three caches and memory are as the fill
leaves them. -/
def FillsI (s t : State) (va : Word) (pa : PAddr) : Prop :=
  ∃ j k, FillsBelow s t pa j [] ∧ k / 4 = l1Set va ∧ t.iHits (l1Set va) pa = [k] ∧ (t.iline k).data = s.fillData pa ∧
    KeepsD s t pa j none ∧ KeepsI s t pa j (some k)

/-- `t` has the line of `pa` in one way `k` of the D-cache set of `va`, with the data `data`; the data of the line that it replaces, if
modified, is in the L2, and the other lines of the three caches and memory are as the fill leaves them. -/
def FillsD (s t : State) (va : Word) (pa : PAddr) (data : BitVec 256) (dirty : Bool) : Prop :=
  ∃ j k, FillsBelow s t pa j (s.takenFrom pa j k) ∧
    (∀ i ∈ s.takenFrom pa j k, t.l2line i = { tag := l2Tag (s.dlineBase k), state := .dirty, data := (s.dline k).data }) ∧
    k / 4 = l1Set va ∧ t.dHits (l1Set va) pa = [k] ∧ (t.dline k).data = data ∧
    (t.dline k).dirty = dirty ∧ KeepsD s t pa j (some k) ∧ KeepsI s t pa j none

/-- The load misses the D-cache, fills it through the L2 and completes with `v` in general register `rd` (20_memory.md R162). -/
def FillingLoad (s : State) (o : Out) (va : Word) (pa : PAddr) (rd : RegNum) (v : Word) : Prop :=
  ∃ t, o = .next t ∧ Advanced s t ∧ t.gpr rd = (if rd = 0 then 0 else v) ∧ (∀ r, r ≠ rd → t.gpr r = s.gpr r) ∧
    FillsD s t va pa (s.fillData pa) false ∧
    t = { s with gprs := t.gprs, caches := t.caches, memory := t.memory, raced := t.raced, pc := t.pc, delay := t.delay }

/-- The store misses the D-cache, fills it through the L2, writes the low `n` bytes of `v` into the D-cache line only, and completes
(20_memory.md R162). -/
def FillingStore (s : State) (o : Out) (va : Word) (pa : PAddr) (n : Nat) (v : Word) : Prop :=
  ∃ t, o = .next t ∧ Advanced s t ∧ (∀ r, t.gpr r = s.gpr r) ∧
    FillsD s t va pa (lineSet (s.fillData pa) (lineOffset pa) n v.toNat) true ∧
    t = { s with caches := t.caches, memory := t.memory, raced := t.raced, code := t.code, pc := t.pc, delay := t.delay }

/-- The datum that a D-cache line holds for a physical address. -/
def State.lineDatum (s : State) (k : Nat) (pa : PAddr) (n : Nat) : Word :=
  BitVec.ofNat 64 (lineGet (s.dline k).data (lineOffset pa) n)

/-- `n` bytes that memory holds from `pa` upwards, little-endian; a byte that nothing has written is free (20_memory.md R131;
entry 4). -/
def State.storedLE (s : State) (pa : PAddr) : Nat → Nat
  | 0 => 0
  | n + 1 => (s.storedByte pa.toNat).toNat + 256 * s.storedLE (pa + 1) n

/-- The datum that main memory holds at a physical address, little-endian (20_memory.md R131). -/
def State.ramDatum (s : State) (pa : PAddr) (n : Nat) : Word := BitVec.ofNat 64 (s.storedLE pa n)

/-- The instruction completes, stores the low `n` bytes of `v` at `pa` in RAM after the gathered stores are issued, and changes
nothing else (the records of races and of stored code apart). -/
def StoreResult (s : State) (o : Out) (pa : PAddr) (n : Nat) (v : Word) : Prop :=
  ∃ t, o = .next t ∧ Advanced s t ∧ StoresBytes s.drainGather t pa n v ∧ (∀ r, t.gpr r = s.gpr r) ∧
    t = { s.drainGather with memory := t.memory, raced := t.raced, code := t.code, pc := t.pc, delay := t.delay }

/-- The instruction completes and its low `n` bytes of `v` wait in the gather buffer behind the stores that they go on from, or
behind none after those are issued; with 32 bytes the buffer is issued. Nothing else changes (the records of races and of
stored code apart). -/
def GatherResult (s : State) (o : Out) (pa : PAddr) (n : Nat) (v : Word) : Prop :=
  let before := if s.gatherContinues pa n then s else s.drainGather
  let waiting := before.gather ++ [{ pa := pa, size := n, value := v }]
  ∃ t, o = .next t ∧ Advanced s t ∧ (∀ r, t.gpr r = s.gpr r) ∧
    (before.gatheredBytes + n < 32 → t.gather = waiting ∧
      t = { before with gather := t.gather, raced := t.raced, code := t.code, pc := t.pc, delay := t.delay }) ∧
    (32 ≤ before.gatheredBytes + n → t.gather = [] ∧
      t = { ({ before with gather := waiting } : State).drainGather with
              raced := t.raced, code := t.code, pc := t.pc, delay := t.delay })

/-- The instruction completes, stores the low `n` bytes of `v` in the D-cache line `k` only, which becomes modified, and changes
nothing else (20_memory.md R162; the records of races and of stored code apart). -/
def LineStoreResult (s : State) (o : Out) (pa : PAddr) (k n : Nat) (v : Word) : Prop :=
  ∃ t, o = .next t ∧ Advanced s t ∧
    (t.dline k).data = lineSet (s.dline k).data (lineOffset pa) n v.toNat ∧ (t.dline k).dirty = true ∧
    (t.dline k).state.isValid = true ∧ (t.dline k).tag = (s.dline k).tag ∧ (∀ j, j ≠ k → t.dline j = s.dline j) ∧
    (∀ r, t.gpr r = s.gpr r) ∧ (∀ a, t.byteAt a = s.byteAt a) ∧
    t = { s with caches := { s.caches with dcache := t.caches.dcache }, raced := t.raced, code := t.code, pc := t.pc,
                 delay := t.delay }

/-- With a new entry of PageMask in place `i`, the page sizes of the TLB entries that have been written agree: every other one with a
valid page has the Mask of PageMask (20_memory.md R155, D31; entry 32). -/
abbrev State.sizesFit (s : State) (i : BitVec 6) : Prop :=
  ∀ j : Fin 64, j.val ≠ i.toNat → s.tlbWritten[j] = true → (s.tlb[j]).page0.v = true ∨ (s.tlb[j]).page1.v = true →
    (s.tlb[j]).mask = s.cp0.pageMask

/-! ## Modes and classes of instructions -/

/-- Nothing outside the instruction stream is to be taken: no reset, NMI, deferred Watch or interrupt, and a defined mode. -/
structure State.Quiet (s : State) : Prop where
  noColdReset : s.pins.coldReset = false
  noSoftReset : s.pins.softReset = false
  noNmi : s.pins.nmi = false
  mode : s.mode ≠ .undefined
  noWatch : s.watchDue = false
  noInterrupt : s.interruptDue = false

/-- An enabled request is ready where it is a hardware, timer or counter request, or a software request whose delay has run out
(60_exceptions.md R641, R642; the delay is entry 12). -/
abbrev ReadyRequest (s : State) (n : Nat) : Prop :=
  s.cp0.status.im.getLsbD n = true ∧ s.pendingIp.getLsbD n = true ∧ (n = 0 → s.softDelay0 = 0) ∧ (n = 1 → s.softDelay1 = 0)

/-- The privileged instructions, but for the reads of CP0 registers 24 and 25 (60_exceptions.md R662, 46_cp0.md R454): opcode
COP0, and CACHE. -/
def isPrivileged (i : Instr) : Bool :=
  let w := encode i
  let counterRead := (rsOf w == 0 || rsOf w == 1) && (rdOf w == 24 || rdOf w == 25)
  (opOf w == 16 && !counterRead) || opOf w == 47

/-- The instructions of the floating-point unit: opcode COP1, and its loads and stores (30_encoding.md R210, 47_fpu_move_branch.md
R500). -/
def usesFpu (i : Instr) : Bool := [17, 49, 53, 57, 61].contains (opOf (encode i)).toNat

/-- The FP registers that an instruction uses as a 64-bit operand: format D, L or PS, and the doubleword moves, loads and stores
(47_fpu_move_branch.md R501). -/
def fpPairOperands (i : Instr) : List RegNum :=
  match i with
  | .dmfc1 _ fs => [fs]
  | .dmtc1 _ fs => [fs]
  | .ldc1 ft _ _ => [ft]
  | .sdc1 ft _ _ => [ft]
  | .addD fd fs ft => [fd, fs, ft]
  | .subD fd fs ft => [fd, fs, ft]
  | .mulD fd fs ft => [fd, fs, ft]
  | .divD fd fs ft => [fd, fs, ft]
  | .maddD fd fs ft => [fd, fs, ft]
  | .msubD fd fs ft => [fd, fs, ft]
  | .nmaddD fd fs ft => [fd, fs, ft]
  | .nmsubD fd fs ft => [fd, fs, ft]
  | .addPs fd fs ft => [fd, fs, ft]
  | .subPs fd fs ft => [fd, fs, ft]
  | .mulPs fd fs ft => [fd, fs, ft]
  | .maddPs fd fs ft => [fd, fs, ft]
  | .msubPs fd fs ft => [fd, fs, ft]
  | .nmaddPs fd fs ft => [fd, fs, ft]
  | .nmsubPs fd fs ft => [fd, fs, ft]
  | .sqrtD fd fs => [fd, fs]
  | .absD fd fs => [fd, fs]
  | .negD fd fs => [fd, fs]
  | .absPs fd fs => [fd, fs]
  | .negPs fd fs => [fd, fs]
  | .movD fd fs => [fd, fs]
  | .movPs fd fs => [fd, fs]
  | .roundLD fd fs => [fd, fs]
  | .truncLD fd fs => [fd, fs]
  | .ceilLD fd fs => [fd, fs]
  | .floorLD fd fs => [fd, fs]
  | .cvtLD fd fs => [fd, fs]
  | .cvtDL fd fs => [fd, fs]
  | .roundLS fd _ => [fd]
  | .truncLS fd _ => [fd]
  | .ceilLS fd _ => [fd]
  | .floorLS fd _ => [fd]
  | .cvtLS fd _ => [fd]
  | .cvtDS fd _ => [fd]
  | .cvtDW fd _ => [fd]
  | .roundWD _ fs => [fs]
  | .truncWD _ fs => [fs]
  | .ceilWD _ fs => [fs]
  | .floorWD _ fs => [fs]
  | .cvtWD _ fs => [fs]
  | .cvtSD _ fs => [fs]
  | .cvtSL _ fs => [fs]
  | .cFD fs ft => [fs, ft]
  | .cUnD fs ft => [fs, ft]
  | .cEqD fs ft => [fs, ft]
  | .cUeqD fs ft => [fs, ft]
  | .cOltD fs ft => [fs, ft]
  | .cUltD fs ft => [fs, ft]
  | .cOleD fs ft => [fs, ft]
  | .cUleD fs ft => [fs, ft]
  | .cSfD fs ft => [fs, ft]
  | .cNgleD fs ft => [fs, ft]
  | .cSeqD fs ft => [fs, ft]
  | .cNglD fs ft => [fs, ft]
  | .cLtD fs ft => [fs, ft]
  | .cNgeD fs ft => [fs, ft]
  | .cLeD fs ft => [fs, ft]
  | .cNgtD fs ft => [fs, ft]
  | .cFPs fs ft => [fs, ft]
  | .cUnPs fs ft => [fs, ft]
  | .cEqPs fs ft => [fs, ft]
  | .cUeqPs fs ft => [fs, ft]
  | .cOltPs fs ft => [fs, ft]
  | .cUltPs fs ft => [fs, ft]
  | .cOlePs fs ft => [fs, ft]
  | .cUlePs fs ft => [fs, ft]
  | .cSfPs fs ft => [fs, ft]
  | .cNglePs fs ft => [fs, ft]
  | .cSeqPs fs ft => [fs, ft]
  | .cNglPs fs ft => [fs, ft]
  | .cLtPs fs ft => [fs, ft]
  | .cNgePs fs ft => [fs, ft]
  | .cLePs fs ft => [fs, ft]
  | .cNgtPs fs ft => [fs, ft]
  | _ => []

end Machine
end Sys2Proof
end

