-- ==== Sys2Proof/WellFormed.lean ====
section
/-! DEFINITION. Which operands the spec gives an instruction a behaviour for: the forms it excludes are checked here. -/

namespace Sys2Proof

/-- The CP0 register numbers that Table 5-1 names (10_state.md R41, R90). -/
def cp0Named (r : RegNum) : Bool :=
  !([7, 21, 23, 26, 27, 31].contains r.toNat)

/-- The CACHE operations of Table 8-3 (46_cp0.md R465). -/
def cacheOpListed (op : BitVec 5) : Bool :=
  [0, 1, 5, 9, 17, 21, 25, 29, 3, 7, 11, 19, 23, 27, 31].contains op.toNat

/-- The CP1 control registers that exist (10_state.md R94). -/
def fcrNamed (r : RegNum) : Bool :=
  [0, 31].contains r.toNat

/-- An instruction all of whose operands the spec gives a behaviour for: JALR with rd other than rs (43_branch.md R364),
the and-link branches with rs other than 31 (R372, R373, R380, R381), moves of a named CP0 register (10_state.md R90) or
an existing FP control register (R94), a listed CACHE operation (46_cp0.md R466). -/
def Instr.wf (i : Instr) : Bool :=
  match i with
  | .jalr rd rs => rd != rs
  | .bltzal rs _ => rs != 31
  | .bgezal rs _ => rs != 31
  | .bltzall rs _ => rs != 31
  | .bgezall rs _ => rs != 31
  | .mfc0 _ rd => cp0Named rd
  | .mtc0 _ rd => cp0Named rd
  | .dmfc0 _ rd => cp0Named rd
  | .dmtc0 _ rd => cp0Named rd
  | .cfc1 _ fs => fcrNamed fs
  | .ctc1 _ fs => fcrNamed fs
  | .cache op _ _ => cacheOpListed op
  | _ => true

end Sys2Proof
end

