-- ==== Sys2Proof/Certificates/Slice0/Obligations.lean ====
section
/-! DEFINITION. The statements for the provers. Numbers of rules are those of spec/; "entry" is a row of the assumption log. -/

open Sys2Proof Sys2Proof.Machine

/-! ## Encoding -/

/-- Decoding the encoding of a well-formed instruction gives the instruction back (30_encoding.md R200 to R236). -/
def Obligations.DecodeOfEncode : Prop := ∀ i : Instr, i.wf = true → decode (encode i) = .instr i

/-- A word that decodes to an instruction is the encoding of that instruction: no bit of it is ignored (30_encoding.md
R204). -/
def Obligations.EncodeOfDecode : Prop := ∀ (w : Word32) (i : Instr), decode w = .instr i → encode i = w

/-- Words written out bit by bit from the spec's encodings decode to the instructions they stand for. -/
def Obligations.WordsDecode : Prop :=
  decode 0b001000_01001_01000_1111111111111111#32 = .instr (.addi 8 9 0xFFFF) ∧
  decode 0b000000_01001_01010_01000_00000_100000#32 = .instr (.add 8 9 10) ∧
  decode 0b110001_00100_00000_0000000000000000#32 = .instr (.lwc1 0 0 4) ∧
  decode 0b010001_10001_00110_00100_00010_000000#32 = .instr (.addD 2 4 6) ∧
  decode 0b010000_1_0000000000000000000_011000#32 = .instr .eret ∧
  decode 0b101111_00100_10101_0000000000010000#32 = .instr (.cache 21 16 4)

/-- The reserved primary opcodes decode as reserved, and such a word raises Reserved Instruction (30_encoding.md R230). -/
def Claim.ReservedOpcodesRaise : Prop :=
  ∀ (w : Word32) (s : State), (opOf w).toNat ∈ [19, 28, 29, 30, 51, 59] →
    decode w = .reserved ∧ Takes s (execDecoded (decode w) s) .reservedInstruction

/-- The reserved functions of SPECIAL and the reserved selectors of REGIMM decode as reserved, and such a word raises Reserved
Instruction (30_encoding.md R211, R212, R230). Function 000001 is one of them by R211 and U43; that R6 (b), which has MOVF
and MOVT refused without a word of theirs, does not mean it is the model's choice (DESIGN CHOICE, entry 28). -/
def Claim.ReservedFunctionsRaise : Prop :=
  ∀ (w : Word32) (s : State),
    (opOf w).toNat = 0 ∧ (functOf w).toNat ∈ [1, 5, 14, 21, 40, 41, 53, 55, 57, 61] ∨
      (opOf w).toNat = 1 ∧ (rtOf w).toNat ∈ [4, 5, 6, 7, 13, 15, 20, 21, 22, 23, 24, 25, 26, 27, 28, 29, 30, 31] →
    decode w = .reserved ∧ Takes s (execDecoded (decode w) s) .reservedInstruction

/-- The words that are refused by name: MOVZ and MOVN, a non-zero must-be-zero field of SPECIAL, of opcode 011111, of BLEZ, BGTZ,
BLEZL, BGTZL and of LUI, and an unlisted function of opcode 011111 (30_encoding.md R204, R211, R216, R234). -/
def Claim.WordsRefusedByName : Prop :=
  ∀ (w : Word32) (s : State),
    let funct := (functOf w).toNat
    let sends := fun (r : DecodeRefusal) (f : Refusal) => decode w = .refused r ∧ execDecoded (decode w) s = .refused f
    ((opOf w).toNat = 0 →
      (funct ∈ [10, 11] → sends .conditionalMove .conditionalMove) ∧
      (funct ∈ [0, 2, 3, 56, 58, 59, 60, 62, 63] → rsOf w ≠ 0 → sends .mustBeZero .mustBeZero) ∧
      (funct ∈ [4, 6, 7, 20, 22, 23, 32, 33, 34, 35, 36, 37, 38, 39, 42, 43, 44, 45, 46, 47] → saOf w ≠ 0 →
        sends .mustBeZero .mustBeZero) ∧
      (funct ∈ [24, 25, 26, 27, 28, 29, 30, 31] → rdOf w ≠ 0 ∨ saOf w ≠ 0 → sends .mustBeZero .mustBeZero) ∧
      (funct ∈ [16, 18] → rsOf w ≠ 0 ∨ rtOf w ≠ 0 ∨ saOf w ≠ 0 → sends .mustBeZero .mustBeZero) ∧
      (funct ∈ [8, 17, 19] → rtOf w ≠ 0 ∨ rdOf w ≠ 0 ∨ saOf w ≠ 0 → sends .mustBeZero .mustBeZero) ∧
      (funct = 9 → rtOf w ≠ 0 ∨ saOf w ≠ 0 → sends .mustBeZero .mustBeZero) ∧
      (funct = 15 → rsOf w ≠ 0 ∨ rtOf w ≠ 0 ∨ rdOf w ≠ 0 ∨ saOf w ≠ 0 → sends .mustBeZero .mustBeZero)) ∧
    ((opOf w).toNat = 31 →
      (funct ∈ [24, 25, 26, 27, 28, 29, 30, 31, 34, 35, 38, 39] → saOf w ≠ 0 → sends .mustBeZero .mustBeZero) ∧
      (funct ∉ [24, 25, 26, 27, 28, 29, 30, 31, 34, 35, 38, 39] → sends .godson2Function .godson2Function)) ∧
    ((opOf w).toNat ∈ [6, 7, 22, 23] → rtOf w ≠ 0 → sends .mustBeZero .mustBeZero) ∧
    ((opOf w).toNat = 15 → rsOf w ≠ 0 → sends .mustBeZero .mustBeZero)

/-- The COP0 words that the spec lists: bits 25:21 and bits 10:0 of the moves, bits 25:6 and the function of the others
(30_encoding.md R203, R204, R213). -/
def Claim.listedCop0 (w : Word32) : Prop :=
  ((rsOf w).toNat ∈ [0, 1, 4, 5] ∧ w.extractLsb' 0 11 = 0) ∨
  (w.extractLsb' 6 20 = 0x80000 ∧ (functOf w).toNat ∈ [1, 2, 6, 8, 24])

/-- The COP1 words that the spec lists: the moves, the branches, and by format the operations of three registers, those of two (bits
20:16 zero) and the compares (bits 10:6 zero) (30_encoding.md R204, R221 to R223, R233). -/
def Claim.listedCop1 (w : Word32) : Prop :=
  let rs := (rsOf w).toNat
  let funct := (functOf w).toNat
  (rs ∈ [0, 1, 2, 4, 5, 6] ∧ w.extractLsb' 0 11 = 0) ∨
  (rs = 8 ∧ (rtOf w).toNat < 4) ∨
  (rs ∈ [16, 17] ∧ (funct ∈ [0, 1, 2, 3, 24, 25, 26, 27] ∨
    (rtOf w = 0 ∧ (funct ∈ [4, 5, 6, 7, 8, 9, 10, 11, 12, 13, 14, 15, 36, 37] ∨ (rs = 16 ∧ funct = 33) ∨ (rs = 17 ∧ funct = 32))))) ∨
  (rs = 11 ∧ (funct ∈ [0, 1, 2, 24, 25, 26, 27] ∨ (rtOf w = 0 ∧ funct ∈ [5, 6, 7]))) ∨
  (rs ∈ [20, 21] ∧ rtOf w = 0 ∧ funct ∈ [32, 33]) ∨
  (rs ∈ [11, 16, 17] ∧ saOf w = 0 ∧ 48 ≤ funct)

/-- The coprocessor words: a listed one is an instruction; any other one, whatever field or function it differs in, is refused where
its unit is usable and raises Coprocessor Unusable where it is not (30_encoding.md R204, R213, R221 to R223, R231 to R233). -/
def Claim.UnlistedCoprocessorWords : Prop :=
  ∀ (w : Word32) (s : State),
    ((opOf w).toNat = 16 →
      (Claim.listedCop0 w → ∃ i, decode w = .instr i) ∧
      (¬Claim.listedCop0 w →
        (s.cp0Usable = true → execDecoded (decode w) s = .refused .unlistedCop0) ∧
        (s.cp0Usable = false → Takes s (execDecoded (decode w) s) (.coprocessorUnusable 0)))) ∧
    ((opOf w).toNat = 17 →
      (Claim.listedCop1 w → ∃ i, decode w = .instr i) ∧
      (¬Claim.listedCop1 w →
        (s.cp1Usable = true → execDecoded (decode w) s = .refused .unlistedCop1) ∧
        (s.cp1Usable = false → Takes s (execDecoded (decode w) s) (.coprocessorUnusable 1))))

/-- The words without an instruction: reserved ones raise Reserved Instruction, others stop by name. -/
def Obligations.ReservedAndRefusedWords : Prop :=
  Claim.ReservedOpcodesRaise ∧ Claim.ReservedFunctionsRaise ∧ Claim.WordsRefusedByName ∧ Claim.UnlistedCoprocessorWords

/-! ## The step -/

/-- With no event to take, a step fetches the word at the pc and, where it decodes to a well-formed instruction, executes
that instruction in the state the fetch leaves; a next state then passes through the end of the step (entry 42). -/
def Obligations.StepRunsDecodedInstruction : Prop :=
  ∀ (s t : State) (w : Word32) (i : Instr), s.Quiet → s.fetch = .ok w t → decode w = .instr i → i.wf = true →
    (∀ u, exec i t = .next u → step s = .next (s.tickInstruction u)) ∧
    (∀ f, exec i t = .fault f → step s = .fault f) ∧
    (∀ r, exec i t = .refused r → step s = .refused r)

/-- What the end of a step adds: Count, the performance counters, the timer request, Random and the model's own counters; nothing
else changes. Random stays in its range and is 63 right after a write of Wired; a counter whose enables are all 0 stays. Count
stands still for no more steps than its window, which the model counts (70_reset_and_hazards.md R730; entry 13). -/
def Obligations.EndOfStepFrame : Prop :=
  ∀ (s t : State), t.Inv →
    let u := s.tickInstruction t
    (∀ r, u.gpr r = t.gpr r) ∧ (∀ a, u.byteAt a = t.byteAt a) ∧
    u.cp0 = { t.cp0 with random := u.cp0.random, count := u.cp0.count, counter0 := u.cp0.counter0, counter1 := u.cp0.counter1 } ∧
    u = { t with cp0 := u.cp0, timerIp := u.timerIp, randomHold := false, softDelay0 := u.softDelay0, softDelay1 := u.softDelay1,
                 countIdle := u.countIdle, free := t.free + 1 } ∧
    t.cp0.wired.toNat ≤ u.cp0.random.toNat ∧
    (t.randomHold = true → u.cp0.random = t.cp0.random) ∧
    (s.cp0.perfControl.enables = 0 → t.cp0.perfControl.enables = 0 →
      u.cp0.counter0 = t.cp0.counter0 ∧ u.cp0.counter1 = t.cp0.counter1) ∧
    (t.timerIp = true → u.timerIp = true) ∧
    u.countIdle = (if u.cp0.count = t.cp0.count then t.countIdle + 1 else 0) ∧ u.countIdle ≤ Config.countWindow

/-- The word a fetch past the caches (attribute 2 or 7) reads from memory is little-endian, and the fetch changes nothing
(20_memory.md R131, R141, R161, R163). -/
def Claim.UncachedFetchReadsRam : Prop :=
  ∀ (s : State) (pa : PAddr), s.passesUncached .fetch s.pc 4 pa → s.inMemory pa 4 → s.unmodified pa →
    s.codeSettled .uncached pa →
    s.fetch = .ok (s.storedByte (pa + 3).toNat ++ s.storedByte (pa + 2).toNat ++ s.storedByte (pa + 1).toNat ++
      s.storedByte pa.toNat) s

/-- A fetch that hits the instruction cache takes the word of that line, stale or not, and changes nothing (10_state.md R107,
20_memory.md R162, R185). -/
def Claim.CachedFetchHits : Prop :=
  ∀ (s : State) (pa : PAddr) (k : Nat), s.translateAligned .fetch s.pc 4 = .pass (pa, 3) → s.iHits (l1Set s.pc) pa = [k] →
    s.described pa 4 = .pass () → s.codeSettled (cachedView s.pc) pa → s.fetch = .ok (BitVec.ofNat 32 (lineGet (s.iline k).data (lineOffset pa) 4)) s

/-- A fetch that misses the instruction cache fills it from the L2, or where the L2 misses too, both from memory, and takes the word of
the new line. A line that the L2 replaces takes its L1 copies with it, and its data goes to memory where it or its D-cache copy is
modified; every other byte and line keep what they hold (20_memory.md R162, R185, 10_state.md R109; which way is replaced is free,
R110). -/
def Claim.CachedFetchFills : Prop :=
  ∀ (s : State) (pa : PAddr), s.translateAligned .fetch s.pc 4 = .pass (pa, 3) → s.iHits (l1Set s.pc) pa = [] → s.belowReady pa →
    s.described pa 4 = .pass () → s.codeSettled (cachedView s.pc) pa →
    ∃ t, s.fetch = .ok (BitVec.ofNat 32 (lineGet (s.fillData pa) (lineOffset pa) 4)) t ∧ FillsI s t s.pc pa ∧
      t = { s with caches := t.caches, memory := t.memory, raced := t.raced }

/-- Fetches from memory, past the caches and through them. -/
def Obligations.FetchesReadTheWord : Prop := Claim.UncachedFetchReadsRam ∧ Claim.CachedFetchHits ∧ Claim.CachedFetchFills

/-- A misaligned pc raises an address error on the fetch: AdEL with BadVAddr = PC, and EPC = PC unless EXL is 1, where EPC stays
(20_memory.md R141, 60_exceptions.md R610). -/
def Claim.MisalignedFetchRaises : Prop :=
  ∀ s : State, s.Quiet → s.pc.toNat % 4 ≠ 0 →
    ∃ t, step s = .next t ∧ t.cp0.cause.excCode = 4 ∧ t.cp0.badVAddr = s.pc ∧
      (s.cp0.status.exl = false → s.delay = .none → t.cp0.epc = s.pc) ∧
      (s.cp0.status.exl = true → t.cp0.epc = s.cp0.epc) ∧
      t.cp0.status.exl = true ∧ t.pc = s.vectorBase + 0x180 ∧ (∀ r, t.gpr r = s.gpr r) ∧ ∀ a, t.byteAt a = s.byteAt a

/-! ## Registers -/

/-- GPR[0] always reads as 0 and a write to it is discarded; any other register reads what was written to it (10_state.md
R31). -/
def Obligations.RegisterZero : Prop :=
  ∀ (s : State) (r : RegNum) (v : Word),
    s.gpr 0 = 0 ∧ s.setGpr 0 v = s ∧ (r ≠ 0 → (s.setGpr r v).gpr r = v) ∧ ∀ q, q ≠ r → (s.setGpr r v).gpr q = s.gpr q

/-! ## Integer arithmetic and logic: 41_alu.md -/

/-- AND, OR, XOR, NOR, ANDI, ORI, XORI, LUI (41_alu.md R287 to R290, R301 to R304). -/
def Claim.LogicResults : Prop :=
  ∀ (s : State) (rd rs rt : RegNum) (imm : BitVec 16), s.leavesSegment = false →
    GprResult s (exec (.and rd rs rt) s) rd (s.gpr rs &&& s.gpr rt) ∧
    GprResult s (exec (.or rd rs rt) s) rd (s.gpr rs ||| s.gpr rt) ∧
    GprResult s (exec (.xor rd rs rt) s) rd (s.gpr rs ^^^ s.gpr rt) ∧
    GprResult s (exec (.nor rd rs rt) s) rd (~~~(s.gpr rs ||| s.gpr rt)) ∧
    GprResult s (exec (.andi rt rs imm) s) rt (s.gpr rs &&& BitVec.ofNat 64 imm.toNat) ∧
    GprResult s (exec (.ori rt rs imm) s) rt (s.gpr rs ||| BitVec.ofNat 64 imm.toNat) ∧
    GprResult s (exec (.xori rt rs imm) s) rt (s.gpr rs ^^^ BitVec.ofNat 64 imm.toNat) ∧
    GprResult s (exec (.lui rt imm) s) rt (BitVec.ofInt 64 (imm.toInt * 65536))

/-- ADDU, ADDIU, SUBU: the sum modulo 2^32, sign-extended, for sources that are sign-extended words; some value and no trap for
any other source (41_alu.md R283, R293, R297, R305; entry 24). -/
def Claim.WordSumResults : Prop :=
  ∀ (s : State) (rd rs rt : RegNum) (imm : BitVec 16), s.leavesSegment = false →
    (isWord (s.gpr rs) = true → isWord (s.gpr rt) = true →
      GprResult s (exec (.addu rd rs rt) s) rd (BitVec.ofInt 64 (((s.gpr rs).toInt + (s.gpr rt).toInt).bmod (2 ^ 32))) ∧
      GprResult s (exec (.subu rd rs rt) s) rd (BitVec.ofInt 64 (((s.gpr rs).toInt - (s.gpr rt).toInt).bmod (2 ^ 32)))) ∧
    (isWord (s.gpr rs) = true →
      GprResult s (exec (.addiu rt rs imm) s) rt (BitVec.ofInt 64 (((s.gpr rs).toInt + imm.toInt).bmod (2 ^ 32)))) ∧
    (∃ v, GprResult s (exec (.addu rd rs rt) s) rd v) ∧ (∃ v, GprResult s (exec (.subu rd rs rt) s) rd v) ∧
    ∃ v, GprResult s (exec (.addiu rt rs imm) s) rt v

/-- ADD, SUB and ADDI of sources that are sign-extended words: the exact sum where it fits 32 bits, else the Integer Overflow
exception (41_alu.md R281, R291, R295). -/
def Claim.TrappingWordSums : Prop :=
  ∀ (s : State) (rd rs rt : RegNum) (imm : BitVec 16), s.leavesSegment = false → isWord (s.gpr rs) = true →
    (isWord (s.gpr rt) = true →
      (let n := (s.gpr rs).toInt + (s.gpr rt).toInt
       let fits := -(2 ^ 31 : Int) ≤ n ∧ n < 2 ^ 31
       (fits → GprResult s (exec (.add rd rs rt) s) rd (BitVec.ofInt 64 n)) ∧
         (¬fits → Takes s (exec (.add rd rs rt) s) .overflow)) ∧
      (let n := (s.gpr rs).toInt - (s.gpr rt).toInt
       let fits := -(2 ^ 31 : Int) ≤ n ∧ n < 2 ^ 31
       (fits → GprResult s (exec (.sub rd rs rt) s) rd (BitVec.ofInt 64 n)) ∧
         (¬fits → Takes s (exec (.sub rd rs rt) s) .overflow))) ∧
    (let n := (s.gpr rs).toInt + imm.toInt
     let fits := -(2 ^ 31 : Int) ≤ n ∧ n < 2 ^ 31
     (fits → GprResult s (exec (.addi rt rs imm) s) rt (BitVec.ofInt 64 n)) ∧
       (¬fits → Takes s (exec (.addi rt rs imm) s) .overflow))

/-- DADDU, DADDIU, DSUBU: the sum modulo 2^64 (41_alu.md R284, R294, R298). -/
def Claim.DoubleSumResults : Prop :=
  ∀ (s : State) (rd rs rt : RegNum) (imm : BitVec 16), s.leavesSegment = false →
    GprResult s (exec (.daddu rd rs rt) s) rd (BitVec.ofNat 64 ((s.gpr rs).toNat + (s.gpr rt).toNat)) ∧
    GprResult s (exec (.dsubu rd rs rt) s) rd (BitVec.ofInt 64 ((s.gpr rs).toInt - (s.gpr rt).toInt)) ∧
    GprResult s (exec (.daddiu rt rs imm) s) rt (BitVec.ofInt 64 ((s.gpr rs).toInt + imm.toInt))

/-- The sums that never trap. -/
def Obligations.WrappingSums : Prop := Claim.WordSumResults ∧ Claim.DoubleSumResults

/-- DADD, DADDI, DSUB: the exact sum where it fits 64 bits, else the Integer Overflow exception (41_alu.md R282, R292, R296). -/
def Claim.TrappingDoubleSums : Prop :=
  ∀ (s : State) (rd rs rt : RegNum) (imm : BitVec 16), s.leavesSegment = false →
    (let n := (s.gpr rs).toInt + (s.gpr rt).toInt
     let fits := -(2 ^ 63 : Int) ≤ n ∧ n < 2 ^ 63
     (fits → GprResult s (exec (.dadd rd rs rt) s) rd (BitVec.ofInt 64 n)) ∧ (¬fits → Takes s (exec (.dadd rd rs rt) s) .overflow)) ∧
    (let n := (s.gpr rs).toInt - (s.gpr rt).toInt
     let fits := -(2 ^ 63 : Int) ≤ n ∧ n < 2 ^ 63
     (fits → GprResult s (exec (.dsub rd rs rt) s) rd (BitVec.ofInt 64 n)) ∧ (¬fits → Takes s (exec (.dsub rd rs rt) s) .overflow)) ∧
    (let n := (s.gpr rs).toInt + imm.toInt
     let fits := -(2 ^ 63 : Int) ≤ n ∧ n < 2 ^ 63
     (fits → GprResult s (exec (.daddi rt rs imm) s) rt (BitVec.ofInt 64 n)) ∧ (¬fits → Takes s (exec (.daddi rt rs imm) s) .overflow))

/-- The sums that trap on overflow. -/
def Obligations.TrappingSums : Prop := Claim.TrappingWordSums ∧ Claim.TrappingDoubleSums

/-- SLT, SLTI, SLTU, SLTIU: 1 where the 64-bit comparison holds, else 0; the immediate is sign-extended before either comparison
(41_alu.md R285, R286, R299, R300). -/
def Claim.SetLessResults : Prop :=
  ∀ (s : State) (rd rs rt : RegNum) (imm : BitVec 16), s.leavesSegment = false →
    GprResult s (exec (.slt rd rs rt) s) rd (if (s.gpr rs).toInt < (s.gpr rt).toInt then 1 else 0) ∧
    GprResult s (exec (.sltu rd rs rt) s) rd (if (s.gpr rs).toNat < (s.gpr rt).toNat then 1 else 0) ∧
    GprResult s (exec (.slti rt rs imm) s) rt (if (s.gpr rs).toInt < imm.toInt then 1 else 0) ∧
    GprResult s (exec (.sltiu rt rs imm) s) rt (if (s.gpr rs).toNat < (BitVec.ofInt 64 imm.toInt).toNat then 1 else 0)

/-- Logic, LUI and the set-on-less-than instructions. -/
def Claim.LogicAndComparisons : Prop := Claim.LogicResults ∧ Claim.SetLessResults

/-! ## Shifts: 44_shift.md -/

/-- SLL, SLLV, SRL, SRLV, SRA, SRAV: a shift of the low word, sign-extended; the right shifts of a register that holds no
sign-extended word give some value (44_shift.md R401 to R406, entry 24). -/
def Claim.WordShiftResults : Prop :=
  ∀ (s : State) (rd rt rs : RegNum) (sa : BitVec 5), s.leavesSegment = false →
    let low := (s.gpr rt).toNat % 2 ^ 32
    let n := (s.gpr rs).toNat % 32
    GprResult s (exec (.sll rd rt sa) s) rd ((BitVec.ofNat 32 (low * 2 ^ sa.toNat)).signExtend 64) ∧
    GprResult s (exec (.sllv rd rt rs) s) rd ((BitVec.ofNat 32 (low * 2 ^ n)).signExtend 64) ∧
    (isWord (s.gpr rt) = true →
      GprResult s (exec (.srl rd rt sa) s) rd ((BitVec.ofNat 32 (low / 2 ^ sa.toNat)).signExtend 64) ∧
      GprResult s (exec (.srlv rd rt rs) s) rd ((BitVec.ofNat 32 (low / 2 ^ n)).signExtend 64) ∧
      GprResult s (exec (.sra rd rt sa) s) rd (BitVec.ofInt 64 ((s.gpr rt).toInt / 2 ^ sa.toNat)) ∧
      GprResult s (exec (.srav rd rt rs) s) rd (BitVec.ofInt 64 ((s.gpr rt).toInt / 2 ^ n))) ∧
    (∃ v, GprResult s (exec (.srl rd rt sa) s) rd v) ∧ (∃ v, GprResult s (exec (.srlv rd rt rs) s) rd v) ∧
    (∃ v, GprResult s (exec (.sra rd rt sa) s) rd v) ∧ ∃ v, GprResult s (exec (.srav rd rt rs) s) rd v

/-- The nine doubleword shifts (44_shift.md R407 to R415). -/
def Claim.DoubleShiftResults : Prop :=
  ∀ (s : State) (rd rt rs : RegNum) (sa : BitVec 5), s.leavesSegment = false →
    let n := (s.gpr rs).toNat % 64
    GprResult s (exec (.dsll rd rt sa) s) rd (BitVec.ofNat 64 ((s.gpr rt).toNat * 2 ^ sa.toNat)) ∧
    GprResult s (exec (.dsll32 rd rt sa) s) rd (BitVec.ofNat 64 ((s.gpr rt).toNat * 2 ^ (sa.toNat + 32))) ∧
    GprResult s (exec (.dsllv rd rt rs) s) rd (BitVec.ofNat 64 ((s.gpr rt).toNat * 2 ^ n)) ∧
    GprResult s (exec (.dsrl rd rt sa) s) rd (BitVec.ofNat 64 ((s.gpr rt).toNat / 2 ^ sa.toNat)) ∧
    GprResult s (exec (.dsrl32 rd rt sa) s) rd (BitVec.ofNat 64 ((s.gpr rt).toNat / 2 ^ (sa.toNat + 32))) ∧
    GprResult s (exec (.dsrlv rd rt rs) s) rd (BitVec.ofNat 64 ((s.gpr rt).toNat / 2 ^ n)) ∧
    GprResult s (exec (.dsra rd rt sa) s) rd (BitVec.ofInt 64 ((s.gpr rt).toInt / 2 ^ sa.toNat)) ∧
    GprResult s (exec (.dsra32 rd rt sa) s) rd (BitVec.ofInt 64 ((s.gpr rt).toInt / 2 ^ (sa.toNat + 32))) ∧
    GprResult s (exec (.dsrav rd rt rs) s) rd (BitVec.ofInt 64 ((s.gpr rt).toInt / 2 ^ n))

/-- The fifteen shifts. -/
def Claim.Shifts : Prop := Claim.WordShiftResults ∧ Claim.DoubleShiftResults

/-- The logic, comparison and shift instructions. -/
def Obligations.LogicAndShifts : Prop := Claim.LogicAndComparisons ∧ Claim.Shifts

/-! ## Multiply and divide: 42_muldiv.md -/

/-- MULT, MULTU, DMULT, DMULTU leave the exact product in HI and LO (42_muldiv.md R321 to R324); the word forms leave some
values where a source is no sign-extended word (R349). -/
def Claim.MultiplyResults : Prop :=
  ∀ (s : State) (rs rt : RegNum), s.leavesSegment = false →
    (isWord (s.gpr rs) = true → isWord (s.gpr rt) = true →
      (let p := (s.gpr rs).toInt * (s.gpr rt).toInt
       HiLoResult s (exec (.mult rs rt) s) (BitVec.ofInt 64 (p / 2 ^ 32)) (BitVec.ofInt 64 (p.bmod (2 ^ 32)))) ∧
      (let p := (s.gpr rs).toNat % 2 ^ 32 * ((s.gpr rt).toNat % 2 ^ 32)
       HiLoResult s (exec (.multu rs rt) s) ((BitVec.ofNat 32 (p / 2 ^ 32)).signExtend 64) ((BitVec.ofNat 32 p).signExtend 64))) ∧
    (∃ hi lo, HiLoResult s (exec (.mult rs rt) s) hi lo) ∧ (∃ hi lo, HiLoResult s (exec (.multu rs rt) s) hi lo) ∧
    (let p := (s.gpr rs).toInt * (s.gpr rt).toInt
     HiLoResult s (exec (.dmult rs rt) s) (BitVec.ofInt 64 (p / 2 ^ 64)) (BitVec.ofInt 64 p)) ∧
    (let p := (s.gpr rs).toNat * (s.gpr rt).toNat
     HiLoResult s (exec (.dmultu rs rt) s) (BitVec.ofNat 64 (p / 2 ^ 64)) (BitVec.ofNat 64 p))

/-- DIV, DIVU, DDIV, DDIVU: the quotient truncated toward zero in LO and the remainder in HI, and no trap for any operands, a
zero divisor included (42_muldiv.md R325 to R328, R345 to R347). -/
def Claim.DivideResults : Prop :=
  ∀ (s : State) (rs rt : RegNum), s.leavesSegment = false →
    let a := s.gpr rs
    let b := s.gpr rt
    (isWord a = true → isWord b = true → b ≠ 0 → ¬(a.toInt = -2 ^ 31 ∧ b.toInt = -1) →
      HiLoResult s (exec (.div rs rt) s) (BitVec.ofInt 64 (a.toInt.tmod b.toInt)) (BitVec.ofInt 64 (a.toInt.tdiv b.toInt))) ∧
    (isWord a = true → isWord b = true → b ≠ 0 →
      HiLoResult s (exec (.divu rs rt) s)
        ((BitVec.ofNat 32 (a.toNat % 2 ^ 32 % (b.toNat % 2 ^ 32))).signExtend 64)
        ((BitVec.ofNat 32 (a.toNat % 2 ^ 32 / (b.toNat % 2 ^ 32))).signExtend 64)) ∧
    (b ≠ 0 → ¬(a.toInt = -2 ^ 63 ∧ b.toInt = -1) →
      HiLoResult s (exec (.ddiv rs rt) s) (BitVec.ofInt 64 (a.toInt.tmod b.toInt)) (BitVec.ofInt 64 (a.toInt.tdiv b.toInt))) ∧
    (b ≠ 0 → HiLoResult s (exec (.ddivu rs rt) s) (BitVec.ofNat 64 (a.toNat % b.toNat)) (BitVec.ofNat 64 (a.toNat / b.toNat))) ∧
    (∃ hi lo, HiLoResult s (exec (.div rs rt) s) hi lo) ∧ (∃ hi lo, HiLoResult s (exec (.divu rs rt) s) hi lo) ∧
    (∃ hi lo, HiLoResult s (exec (.ddiv rs rt) s) hi lo) ∧ ∃ hi lo, HiLoResult s (exec (.ddivu rs rt) s) hi lo

/-- MFHI, MFLO, MTHI, MTLO (42_muldiv.md R329 to R332). -/
def Claim.HiLoMoves : Prop :=
  ∀ (s : State) (r : RegNum), s.leavesSegment = false →
    GprResult s (exec (.mfhi r) s) r s.hi ∧ GprResult s (exec (.mflo r) s) r s.lo ∧
    HiLoResult s (exec (.mthi r) s) (s.gpr r) s.lo ∧ HiLoResult s (exec (.mtlo r) s) s.hi (s.gpr r)

/-- MULT.G, MULTU.G, DMULT.G, DMULTU.G write the low part of the product to a general register and leave HI and LO alone
(42_muldiv.md R333 to R336, 10_state.md R38). -/
def Claim.Godson2Multiply : Prop :=
  ∀ (s : State) (rd rs rt : RegNum), s.leavesSegment = false →
    let p := (s.gpr rs).toInt * (s.gpr rt).toInt
    GprResult s (exec (.multG rd rs rt) s) rd (BitVec.ofInt 64 (p.bmod (2 ^ 32))) ∧
    GprResult s (exec (.multuG rd rs rt) s) rd (BitVec.ofInt 64 (p.bmod (2 ^ 32))) ∧
    GprResult s (exec (.dmultG rd rs rt) s) rd (BitVec.ofInt 64 p) ∧
    GprResult s (exec (.dmultuG rd rs rt) s) rd (BitVec.ofInt 64 p)

/-- The multiplications, and the moves of HI and LO. -/
def Obligations.Multiplications : Prop := Claim.MultiplyResults ∧ Claim.HiLoMoves ∧ Claim.Godson2Multiply

/-- The eight Godson2 divisions: quotient or remainder in a general register; some value, and no trap, for a zero divisor
(42_muldiv.md R337 to R347). -/
def Claim.Godson2Divide : Prop :=
  ∀ (s : State) (rd rs rt : RegNum), s.leavesSegment = false →
    let a := s.gpr rs
    let b := s.gpr rt
    let aw := (BitVec.ofNat 32 a.toNat).toInt
    let bw := (BitVec.ofNat 32 b.toNat).toInt
    let au := a.toNat % 2 ^ 32
    let bu := b.toNat % 2 ^ 32
    (bu ≠ 0 →
      GprResult s (exec (.divG rd rs rt) s) rd ((BitVec.ofInt 32 (aw.tdiv bw)).signExtend 64) ∧
      GprResult s (exec (.modG rd rs rt) s) rd (BitVec.ofInt 64 (aw.tmod bw)) ∧
      GprResult s (exec (.divuG rd rs rt) s) rd ((BitVec.ofNat 32 (au / bu)).signExtend 64) ∧
      GprResult s (exec (.moduG rd rs rt) s) rd ((BitVec.ofNat 32 (au % bu)).signExtend 64)) ∧
    (b ≠ 0 →
      (¬(a.toInt = -2 ^ 63 ∧ b.toInt = -1) → GprResult s (exec (.ddivG rd rs rt) s) rd (BitVec.ofInt 64 (a.toInt.tdiv b.toInt))) ∧
      GprResult s (exec (.dmodG rd rs rt) s) rd (BitVec.ofInt 64 (a.toInt.tmod b.toInt)) ∧
      GprResult s (exec (.ddivuG rd rs rt) s) rd (BitVec.ofNat 64 (a.toNat / b.toNat)) ∧
      GprResult s (exec (.dmoduG rd rs rt) s) rd (BitVec.ofNat 64 (a.toNat % b.toNat))) ∧
    (∃ v, GprResult s (exec (.divG rd rs rt) s) rd v) ∧ (∃ v, GprResult s (exec (.modG rd rs rt) s) rd v) ∧
    (∃ v, GprResult s (exec (.divuG rd rs rt) s) rd v) ∧ (∃ v, GprResult s (exec (.moduG rd rs rt) s) rd v) ∧
    (∃ v, GprResult s (exec (.ddivG rd rs rt) s) rd v) ∧ (∃ v, GprResult s (exec (.dmodG rd rs rt) s) rd v) ∧
    (∃ v, GprResult s (exec (.ddivuG rd rs rt) s) rd v) ∧ ∃ v, GprResult s (exec (.dmoduG rd rs rt) s) rd v

/-- The divisions. -/
def Obligations.Divisions : Prop := Claim.DivideResults ∧ Claim.Godson2Divide

/-! ## Jumps and branches: 43_branch.md -/

/-- J, JAL, JR, JALR outside a delay slot (43_branch.md R362 to R365, R383, R384). -/
def Claim.JumpResults : Prop :=
  ∀ (s : State) (rd rs : RegNum) (j : BitVec 26), s.delay = .none → s.leavesAfter 4 = false →
    let region := BitVec.ofNat 64 ((s.pc + 4).toNat / 2 ^ 28 * 2 ^ 28 + j.toNat * 4)
    EntersSlot s (exec (.j j) s) (some region) ∧
    LinksAndEntersSlot s (exec (.jal j) s) 31 (some region) ∧
    EntersSlot s (exec (.jr rs) s) (some (s.gpr rs)) ∧
    (rd ≠ rs → LinksAndEntersSlot s (exec (.jalr rd rs) s) rd (some (s.gpr rs)))

/-- The ordinary branches: the slot follows, with the target pending where the condition holds (43_branch.md R366 to R371,
R383). -/
def Claim.BranchResults : Prop :=
  ∀ (s : State) (rs rt : RegNum) (offset : BitVec 16), s.delay = .none → s.leavesAfter 4 = false →
    let target := s.pc + 4 + BitVec.ofInt 64 (offset.toInt * 4)
    let a := (s.gpr rs).toInt
    EntersSlot s (exec (.beq rs rt offset) s) (if s.gpr rs = s.gpr rt then some target else none) ∧
    EntersSlot s (exec (.bne rs rt offset) s) (if s.gpr rs ≠ s.gpr rt then some target else none) ∧
    EntersSlot s (exec (.blez rs offset) s) (if a ≤ 0 then some target else none) ∧
    EntersSlot s (exec (.bgtz rs offset) s) (if 0 < a then some target else none) ∧
    EntersSlot s (exec (.bltz rs offset) s) (if a < 0 then some target else none) ∧
    EntersSlot s (exec (.bgez rs offset) s) (if 0 ≤ a then some target else none)

/-- BLTZAL and BGEZAL write the link register whether taken or not (43_branch.md R372, R373, R384). -/
def Claim.AndLinkBranchResults : Prop :=
  ∀ (s : State) (rs : RegNum) (offset : BitVec 16), s.delay = .none → s.leavesAfter 4 = false → rs ≠ 31 →
    let target := s.pc + 4 + BitVec.ofInt 64 (offset.toInt * 4)
    let a := (s.gpr rs).toInt
    LinksAndEntersSlot s (exec (.bltzal rs offset) s) 31 (if a < 0 then some target else none) ∧
    LinksAndEntersSlot s (exec (.bgezal rs offset) s) 31 (if 0 ≤ a then some target else none)

/-- The jumps and the ordinary branches. -/
def Obligations.JumpsAndBranches : Prop := Claim.JumpResults ∧ Claim.BranchResults ∧ Claim.AndLinkBranchResults

/-- The branch-likely forms: taken, as the ordinary branch; not taken, the delay slot is skipped (43_branch.md R360, R374 to
R381). The next instruction lies in the segment of the branch (10_state.md R36; entry 55). -/
def Claim.LikelyBranchResults : Prop :=
  ∀ (s : State) (rs rt : RegNum) (offset : BitVec 16), s.delay = .none →
    let target := s.pc + 4 + BitVec.ofInt 64 (offset.toInt * 4)
    let a := (s.gpr rs).toInt
    let likely := fun (o : Out) (taken : Prop) =>
      (taken → s.leavesAfter 4 = false → EntersSlot s o (some target)) ∧
      (¬taken → s.leavesAfter 8 = false → SkipsSlot s o)
    let linking := fun (o : Out) (taken : Prop) =>
      (taken → s.leavesAfter 4 = false → LinksAndEntersSlot s o 31 (some target)) ∧
      (¬taken → s.leavesAfter 8 = false → LinksAndSkipsSlot s o)
    likely (exec (.beql rs rt offset) s) (s.gpr rs = s.gpr rt) ∧
    likely (exec (.bnel rs rt offset) s) (s.gpr rs ≠ s.gpr rt) ∧
    likely (exec (.blezl rs offset) s) (a ≤ 0) ∧
    likely (exec (.bgtzl rs offset) s) (0 < a) ∧
    likely (exec (.bltzl rs offset) s) (a < 0) ∧
    likely (exec (.bgezl rs offset) s) (0 ≤ a) ∧
    (rs ≠ 31 → linking (exec (.bltzall rs offset) s) (a < 0) ∧ linking (exec (.bgezall rs offset) s) (0 ≤ a))

/-- BC1F, BC1T, BC1FL, BC1TL test CC0 (47_fpu_move_branch.md R514 to R517). -/
def Claim.FpBranchResults : Prop :=
  ∀ (s : State) (offset : BitVec 16), s.delay = .none → s.cp1Usable = true →
    let target := s.pc + 4 + BitVec.ofInt 64 (offset.toInt * 4)
    (s.leavesAfter 4 = false →
      EntersSlot s (exec (.bc1f offset) s) (if s.fcsr.cc0 = false then some target else none) ∧
      EntersSlot s (exec (.bc1t offset) s) (if s.fcsr.cc0 = true then some target else none) ∧
      (s.fcsr.cc0 = false → EntersSlot s (exec (.bc1fl offset) s) (some target)) ∧
      (s.fcsr.cc0 = true → EntersSlot s (exec (.bc1tl offset) s) (some target))) ∧
    (s.leavesAfter 8 = false →
      (s.fcsr.cc0 = false → SkipsSlot s (exec (.bc1tl offset) s)) ∧
      (s.fcsr.cc0 = true → SkipsSlot s (exec (.bc1fl offset) s)))

/-- The branch-likely forms and the branches on the FPU condition. -/
def Obligations.LikelyAndFpBranches : Prop := Claim.LikelyBranchResults ∧ Claim.FpBranchResults

/-- A taken BEQ and a DADDIU in its delay slot together: the slot's effect happens and the pc is at the target (43_branch.md
R360). -/
def Obligations.DelaySlotThenTarget : Prop :=
  ∀ (s : State) (rs rt rd rb : RegNum) (offset imm : BitVec 16), s.delay = .none → s.leavesAfter 4 = false →
    s.gpr rs = s.gpr rt →
    ∃ u v, exec (.beq rs rt offset) s = .next u ∧ exec (.daddiu rd rb imm) u = .next v ∧
      v.pc = s.pc + 4 + BitVec.ofInt 64 (offset.toInt * 4) ∧ v.delay = .none ∧
      (rd ≠ 0 → v.gpr rd = s.gpr rb + BitVec.ofInt 64 imm.toInt) ∧ (∀ r, r ≠ rd → v.gpr r = s.gpr r) ∧
      ∀ a, v.byteAt a = s.byteAt a

/-- The spec's refusals around branches: any branch, jump or ERET in a delay slot (43_branch.md R382), JALR with rd = rs
(R364), an and-link branch on r31 (R372, R373, R380, R381). -/
def Obligations.BranchRefusals : Prop :=
  ∀ (s : State) (rd rs rt : RegNum) (offset : BitVec 16) (j : BitVec 26),
    (s.inDelaySlot = true →
      (∀ i ∈ [Instr.j j, .jal j, .jalr rd rs, .jr rs, .beq rs rt offset, .bne rs rt offset, .blez rs offset, .bgtz rs offset,
          .bltz rs offset, .bgez rs offset, .bltzal rs offset, .bgezal rs offset, .beql rs rt offset, .bnel rs rt offset,
          .blezl rs offset, .bgtzl rs offset, .bltzl rs offset, .bgezl rs offset, .bltzall rs offset, .bgezall rs offset],
        exec i s = .refused .branchInDelaySlot) ∧
      (s.cp1Usable = true → ∀ i ∈ [Instr.bc1f offset, .bc1t offset, .bc1fl offset, .bc1tl offset],
        exec i s = .refused .branchInDelaySlot) ∧
      (s.cp0Usable = true → exec .eret s = .refused .branchInDelaySlot)) ∧
    (s.delay = .none →
      exec (.jalr rs rs) s = .refused .jalrSameRegister ∧
      ∀ i ∈ [Instr.bltzal 31 offset, .bgezal 31 offset, .bltzall 31 offset, .bgezall 31 offset],
        exec i s = .refused .linkRegisterSource)

/-- The segment of an address is the row of the segment table whose va range holds it, and an xkphys row also needs zero bits 58:40
(20_memory.md R143). -/
def Claim.SegmentRanges : Prop :=
  ∀ va : Word,
    (segmentName va = .xuseg ↔ va.toNat < 2 ^ 40) ∧
    (segmentName va = .xsseg ↔ 2 ^ 62 ≤ va.toNat ∧ va.toNat < 2 ^ 62 + 2 ^ 40) ∧
    (segmentName va = .xkphys ↔ 2 ^ 63 ≤ va.toNat ∧ va.toNat < 0xC000000000000000 ∧ va.toNat / 2 ^ 40 % 2 ^ 19 = 0) ∧
    (segmentName va = .xkseg ↔ 0xC000000000000000 ≤ va.toNat ∧ va.toNat < 0xC00000FF80000000) ∧
    (segmentName va = .ckseg0 ↔ 0xFFFFFFFF80000000 ≤ va.toNat ∧ va.toNat < 0xFFFFFFFFA0000000) ∧
    (segmentName va = .ckseg1 ↔ 0xFFFFFFFFA0000000 ≤ va.toNat ∧ va.toNat < 0xFFFFFFFFC0000000) ∧
    (segmentName va = .csseg ↔ 0xFFFFFFFFC0000000 ≤ va.toNat ∧ va.toNat < 0xFFFFFFFFE0000000) ∧
    (segmentName va = .ckseg3 ↔ 0xFFFFFFFFE0000000 ≤ va.toNat)

/-- Sequential flow into another segment is refused: of an instruction that is no branch, into the delay slot of a jump or a branch,
and past the nullified slot of a branch-likely that is not taken (10_state.md R36; D21, entry 55). The target of a taken branch may lie
in any segment. -/
def Claim.FlowOutOfSegment : Prop :=
  ∀ (s : State) (rd rs rt : RegNum) (imm offset : BitVec 16) (j : BitVec 26),
    (segmentName (s.pc + 4) ≠ segmentName s.pc →
      ((∀ target, s.delay ≠ .slot (some target)) →
        ∀ i ∈ [Instr.daddiu rt rs imm, .ori rt rs imm, .lui rt imm, .daddu rd rs rt, .or rd rs rt, .sltu rd rs rt, .mfhi rd, .mthi rs],
          exec i s = .refused .leavesSegment) ∧
      (s.delay = .none →
        (rd ≠ rs → exec (.jalr rd rs) s = .refused .leavesSegment) ∧
        ∀ i ∈ [Instr.j j, .jal j, .jr rs, .beq rs rt offset, .bne rs rt offset, .blez rs offset, .bgtz rs offset, .bltz rs offset,
            .bgez rs offset],
          exec i s = .refused .leavesSegment)) ∧
    (segmentName (s.pc + 8) ≠ segmentName s.pc → s.delay = .none →
      (s.gpr rs ≠ s.gpr rt → exec (.beql rs rt offset) s = .refused .leavesSegment) ∧
      (s.gpr rs = s.gpr rt → exec (.bnel rs rt offset) s = .refused .leavesSegment)) ∧
    ∀ target, s.delay = .slot (some target) → ∃ t, exec (.daddiu rt rs imm) s = .next t ∧ t.pc = target ∧ t.delay = .none

/-- Sequential flow stays in its segment. -/
def Obligations.FlowStaysInSegment : Prop := Claim.SegmentRanges ∧ Claim.FlowOutOfSegment

/-! ## SYSCALL, BREAK and traps: 45_special_trap.md -/

/-- SYSCALL and BREAK take their exception in every state; what an entry does is stated by ExceptionEntry (45_special_trap.md R426,
R427). -/
def Claim.SyscallAndBreak : Prop :=
  ∀ (s : State) (code : BitVec 20),
    Takes s (exec (.syscall code) s) .systemCall ∧ Takes s (exec (.break_ code) s) .breakpoint

/-- The twelve conditional traps: the Trap exception where the condition holds, else nothing but the advance (45_special_trap.md
R428 to R440). -/
def Claim.ConditionalTraps : Prop :=
  ∀ (s : State) (rs rt : RegNum) (code : BitVec 10) (imm : BitVec 16), s.leavesSegment = false →
    let ends := fun (o : Out) (c : Prop) => (c → Takes s o .trap) ∧ (¬c → NoEffect s o)
    let a := s.gpr rs
    let b := s.gpr rt
    let i := BitVec.ofInt 64 imm.toInt
    ends (exec (.tge rs rt code) s) (b.toInt ≤ a.toInt) ∧
    ends (exec (.tgeu rs rt code) s) (b.toNat ≤ a.toNat) ∧
    ends (exec (.tlt rs rt code) s) (a.toInt < b.toInt) ∧
    ends (exec (.tltu rs rt code) s) (a.toNat < b.toNat) ∧
    ends (exec (.teq rs rt code) s) (a = b) ∧
    ends (exec (.tne rs rt code) s) (a ≠ b) ∧
    ends (exec (.tgei rs imm) s) (imm.toInt ≤ a.toInt) ∧
    ends (exec (.tgeiu rs imm) s) (i.toNat ≤ a.toNat) ∧
    ends (exec (.tlti rs imm) s) (a.toInt < imm.toInt) ∧
    ends (exec (.tltiu rs imm) s) (a.toNat < i.toNat) ∧
    ends (exec (.teqi rs imm) s) (a.toInt = imm.toInt) ∧
    ends (exec (.tnei rs imm) s) (a.toInt ≠ imm.toInt)

/-- SYSCALL, BREAK and the conditional traps. -/
def Obligations.SystemCallsAndTraps : Prop := Claim.SyscallAndBreak ∧ Claim.ConditionalTraps

/-! ## Exceptions: 60_exceptions.md -/

/-- What a TLB exception loads from the failing address: BadVAddr, Context.BadVPN2, XContext.BadVPN2 and R, EntryHi.VPN2 and R; the
ASID and both PTEBase fields stay (60_exceptions.md R623). -/
def Claim.LoadsTlbRegisters (s t : State) (va : Word) : Prop :=
  t.cp0.badVAddr = va ∧ t.cp0.context.badVpn2.toNat = va.toNat / 2 ^ 13 % 2 ^ 19 ∧
  t.cp0.context.pteBase = s.cp0.context.pteBase ∧ t.cp0.xcontext.badVpn2.toNat = va.toNat / 2 ^ 13 % 2 ^ 31 ∧
  t.cp0.xcontext.r.toNat = va.toNat / 2 ^ 62 ∧ t.cp0.xcontext.pteBase = s.cp0.xcontext.pteBase ∧
  t.cp0.entryHi.vpn2.toNat = va.toNat / 2 ^ 13 % 2 ^ 31 ∧ t.cp0.entryHi.r.toNat = va.toNat / 2 ^ 62 ∧
  t.cp0.entryHi.asid = s.cp0.entryHi.asid

/-- Cause.ExcCode after each exception, as the spec's tables give it (10_state.md R65, 60_exceptions.md R600). -/
def Claim.ExceptionCodes : Prop :=
  ∀ (s : State) (va : Word) (unit : BitVec 2),
    let code := fun e : Exc => (s.takeException e).cp0.cause.excCode.toNat
    code .interrupt = 0 ∧ code (.tlbModified va) = 1 ∧
    code (.tlbRefill false va) = 2 ∧ code (.tlbRefill true va) = 3 ∧ code (.tlbInvalid false va) = 2 ∧ code (.tlbInvalid true va) = 3 ∧
    code (.addressError false va) = 4 ∧ code (.addressError true va) = 5 ∧ code .busFetch = 6 ∧ code .busData = 7 ∧
    code .systemCall = 8 ∧ code .breakpoint = 9 ∧ code .reservedInstruction = 10 ∧ code (.coprocessorUnusable unit) = 11 ∧
    code .overflow = 12 ∧ code .trap = 13 ∧ code .floatingPoint = 15 ∧ code .watch = 23

/-- Exception entry (60_exceptions.md R610, R604, R607, R613): EPC and BD from level 0 only, the vector, ExcCode, CE, the registers
of an address error or TLB exception, EXL; kernel mode and no interrupts; no register is pushed, KSU, IE, IM and LLbit stay.
The registers of CP0 that an exception other than a TLB or address error leaves alone are left alone. That BD and EPC count the
slot of a branch that is not taken as a delay slot, and that BD stays at EXL = 1, rests on entry 45 (PRESUMED; R610 marks it
general knowledge); the refill offset on entry 20. -/
def Claim.ExceptionState : Prop :=
  ∀ (s : State) (e : Exc),
    let t := s.takeException e
    let base : Word := if s.cp0.status.bev then 0xFFFFFFFFBFC00200 else 0xFFFFFFFF80000000
    t.cp0.status = { s.cp0.status with exl := true } ∧ t.cp0.cause.excCode = e.code ∧ t.delay = .none ∧
    (s.cp0.status.exl = false → s.delay = .none → t.cp0.epc = s.pc ∧ t.cp0.cause.bd = false) ∧
    (s.cp0.status.exl = false → s.delay ≠ .none → t.cp0.epc = s.pc - 4 ∧ t.cp0.cause.bd = true) ∧
    (s.cp0.status.exl = true → t.cp0.epc = s.cp0.epc ∧ t.cp0.cause.bd = s.cp0.cause.bd) ∧
    (e.isRefill = false ∨ s.cp0.status.exl = true → t.pc = base + 0x180) ∧
    (e.isRefill = true → s.cp0.status.exl = false → t.pc = base + refillOffset) ∧
    (∀ unit, e = .coprocessorUnusable unit → t.cp0.cause.ce = unit) ∧
    (∀ va store, e ∈ [Exc.tlbModified va, .tlbRefill store va, .tlbInvalid store va] → Claim.LoadsTlbRegisters s t va) ∧
    (∀ va store, e = .addressError store va → t.cp0.badVAddr = va) ∧
    t.cp0.cause.softIp = s.cp0.cause.softIp ∧ t.mode = .kernel ∧ t.interruptsEnabled = false ∧ t.llBit = s.llBit ∧
    (∀ r, t.gpr r = s.gpr r) ∧ (∀ a, t.byteAt a = s.byteAt a) ∧
    t = { s with cp0 := t.cp0, itlbStale := t.itlbStale, pc := t.pc, delay := .none } ∧
    ((∀ va, e ≠ .tlbModified va ∧ ∀ store, e ≠ .tlbRefill store va ∧ e ≠ .tlbInvalid store va ∧ e ≠ .addressError store va) →
      t.itlbStale = s.itlbStale ∧ t.cp0 = { s.cp0 with status := t.cp0.status, cause := t.cp0.cause, epc := t.cp0.epc })

/-- Exception entry: the ExcCode of every exception, and all that taking one does to the state. -/
def Obligations.ExceptionEntry : Prop := Claim.ExceptionCodes ∧ Claim.ExceptionState

/-- A TLB exception loads BadVAddr, Context.BadVPN2, XContext, EntryHi.VPN2 and R from the failing address, and keeps the ASID
and PTEBase (60_exceptions.md R623, 10_state.md R54). -/
def Obligations.TlbExceptionRegisters : Prop :=
  ∀ (s : State) (va : Word) (store : Bool) (e : Exc), e ∈ [Exc.tlbModified va, .tlbRefill store va, .tlbInvalid store va] →
    Claim.LoadsTlbRegisters s (s.takeException e) va ∧ (s.takeException e).itlbStale = s.itlbStale

/-- ERET: the pc from ErrorEPC or EPC, ERL or EXL cleared, LLbit cleared, nothing else (60_exceptions.md R612, 46_cp0.md
R462). -/
def Claim.EretReturns : Prop :=
  ∀ s : State, s.cp0Usable = true → s.delay = .none →
    ∃ t, exec .eret s = .next t ∧ t.llBit = false ∧
      (s.cp0.status.erl = true → t.pc = s.cp0.errorEpc ∧ t.cp0 = { s.cp0 with status := { s.cp0.status with erl := false } }) ∧
      (s.cp0.status.erl = false → t.pc = s.cp0.epc ∧ t.cp0 = { s.cp0 with status := { s.cp0.status with exl := false } }) ∧
      (∀ r, t.gpr r = s.gpr r) ∧ (∀ a, t.byteAt a = s.byteAt a) ∧
      t = { s with pc := t.pc, cp0 := t.cp0, llBit := false, delay := .none }

/-- An exception at level 0 followed by ERET comes back to the instruction, or to the branch before it, in the mode and with the
registers it left (60_exceptions.md R610, R612). -/
def Claim.EretUndoesException : Prop :=
  ∀ (s : State) (e : Exc), s.cp0.status.exl = false → s.cp0.status.erl = false →
    ∃ t, exec .eret (s.takeException e) = .next t ∧ t.pc = (if s.delay = .none then s.pc else s.pc - 4) ∧
      t.cp0.status = s.cp0.status ∧ t.mode = s.mode ∧ t.delay = .none ∧ t.llBit = false ∧
      (∀ r, t.gpr r = s.gpr r) ∧ ∀ a, t.byteAt a = s.byteAt a

/-- ERET by itself, and after an exception. -/
def Obligations.EretReturns : Prop := Claim.EretReturns ∧ Claim.EretUndoesException

/-- In user and supervisor mode with CU0 = 0 every privileged instruction raises Coprocessor Unusable for unit 0
(60_exceptions.md R662, 46_cp0.md R455). -/
def Claim.PrivilegedInstructionsTrap : Prop :=
  ∀ (s : State) (i : Instr), isPrivileged i = true → s.mode ≠ .kernel → s.cp0.status.cu.getLsbD 0 = false →
    Takes s (exec i s) (.coprocessorUnusable 0)

/-- With CU1 = 0 every instruction of the floating-point unit raises Coprocessor Unusable for unit 1, in every mode (10_state.md
R61, 47_fpu_move_branch.md R500). -/
def Claim.FpuUnusableTraps : Prop :=
  ∀ (s : State) (i : Instr), usesFpu i = true → s.cp0.status.cu.getLsbD 1 = false →
    Takes s (exec i s) (.coprocessorUnusable 1)

/-- Coprocessors 0 and 1 where they are not usable. -/
def Obligations.UnusableCoprocessorTraps : Prop := Claim.PrivilegedInstructionsTrap ∧ Claim.FpuUnusableTraps

/-- An enabled request that is ready is taken before the next instruction; with IE = 0, EXL = 1, ERL = 1 or no enabled request ready the
instruction is executed (60_exceptions.md R640 to R642, 10_state.md R58; that a software request waits for its delay is entry 12). -/
def Obligations.InterruptsTakenOrHeld : Prop :=
  ∀ s : State, s.pins.coldReset = false → s.pins.softReset = false → s.pins.nmi = false → s.mode ≠ .undefined →
    s.watchDue = false →
    (s.cp0.status.ie = true → s.cp0.status.exl = false → s.cp0.status.erl = false →
      (∃ n, n < 8 ∧ ReadyRequest s n) →
      ∃ t, step s = .next t ∧ t.cp0.cause.excCode = 0 ∧ t.cp0.status = { s.cp0.status with exl := true } ∧
        t.cp0.epc = s.restartPc ∧ t.cp0.cause.bd = s.inDelaySlot ∧ t.pc = s.vectorBase + 0x180 ∧
        (∀ r, t.gpr r = s.gpr r) ∧ ∀ a, t.byteAt a = s.byteAt a) ∧
    ((s.cp0.status.ie = false ∨ s.cp0.status.exl = true ∨ s.cp0.status.erl = true ∨
        ∀ n, n < 8 → ¬ReadyRequest s n) →
      step s = s.instructionStep)

/-- The end of a step, of an instruction or of an event: Count has gone on by the step's amount, which is free, and Count going on to or
past Compare has set the request of IP[7]. That a Count that already equals Compare and does not go on (n = 0) sets it too is the
model's choice (10_state.md R51, R52, 60_exceptions.md R643; entry 13). -/
def Claim.CountGoesOn : Prop :=
  ∀ (s u : State) (c : Bool), ∀ t ∈ [u.tickInstruction s, u.tickEvent s, s.tickTime c],
    t.cp0.count = s.cp0.count + s.countStep ∧ t.cp0.compare = s.cp0.compare ∧
    (t.timerIp = true ↔
      s.timerIp = true ∨ ∃ n : Nat, n ≤ s.countStep.toNat ∧ s.cp0.count + BitVec.ofNat 32 n = s.cp0.compare)

/-- MTC0 and DMTC0 to Compare clear the timer request, those to Count do not (10_state.md R51, R52, 60_exceptions.md R643). -/
def Claim.TimerWrites : Prop :=
  ∀ (s : State) (rt : RegNum), s.cp0Usable = true → s.leavesSegment = false →
    (∀ i ∈ [Instr.mtc0 rt 11, .dmtc0 rt 11], ∃ t, exec i s = .next t ∧ Advanced s t ∧ t.timerIp = false ∧
      t.cp0 = { s.cp0 with compare := low32 (s.gpr rt) } ∧
      t = { s with cp0 := t.cp0, timerIp := false, pc := t.pc, delay := t.delay }) ∧
    (∀ i ∈ [Instr.mtc0 rt 9, .dmtc0 rt 9], ∃ t, exec i s = .next t ∧ Advanced s t ∧
      t.cp0 = { s.cp0 with count := low32 (s.gpr rt) } ∧ OnlyCp0 s t)

/-- The timer request stays over every step but a cold reset and a write of Compare (10_state.md R52, 60_exceptions.md R643). -/
def Claim.TimerRequestStays : Prop :=
  ∀ s t : State, s.timerIp = true → s.pins.coldReset = false →
    (∀ u w rt, s.fetch = .ok w u → decode w ≠ .instr (.mtc0 rt 11) ∧ decode w ≠ .instr (.dmtc0 rt 11)) →
    step s = .next t → t.timerIp = true

/-- The timer request: what sets it, and that only a cold reset or a write of Compare clears it. -/
def Obligations.TimerRequest : Prop := Claim.CountGoesOn ∧ Claim.TimerWrites ∧ Claim.TimerRequestStays

/-- Soft reset and NMI: ErrorEPC, ERL, SR and BEV, the reset vector; the general and floating-point registers, HI, LO, FCR31, LLbit
and the TLB stay. A soft reset clears the external requests and a pending Watch and keeps no line of any cache, so every line is a
free value of its own; an NMI leaves Cause, memory, the gathered stores, the caches and the rest alone (10_state.md R122,
60_exceptions.md R669, R671, R672). That at a soft reset the gathered stores are issued and memory keeps every other byte is the
model's choice (entry 46). -/
def Claim.SoftResetAndNmi : Prop :=
  ∀ s : State, s.pins.coldReset = false →
    let entered := fun t : State =>
      t.pc = 0xFFFFFFFFBFC00000 ∧ t.delay = .none ∧ t.cp0.errorEpc = s.restartPc ∧
      t.cp0.status = { s.cp0.status with erl := true, sr := true, bev := true } ∧ t.cp0.cause = s.cp0.cause ∧
      t.cp0.epc = s.cp0.epc ∧ t.cp0.random = s.cp0.random ∧ t.cp0.wired = s.cp0.wired ∧ t.tlb = s.tlb ∧
      t.hi = s.hi ∧ t.lo = s.lo ∧ t.fcsr = s.fcsr ∧ t.llBit = s.llBit ∧
      (∀ r, t.gpr r = s.gpr r) ∧ (∀ r, t.fprRaw r = s.fprRaw r)
    (s.pins.softReset = true → ∃ t, step s = .next t ∧ entered t ∧ t.pins.interrupts = 0 ∧ t.pendingWatch = false ∧
      t.pins.softReset = false ∧ t.caches = { epoch := s.free + 1, icache := [], dcache := [], l2 := [] } ∧ t.raced = [] ∧
      t.gather = [] ∧ (∀ a, t.byteAt a = s.drainGather.byteAt a) ∧ (s.gather = [] → ∀ a, t.byteAt a = s.byteAt a)) ∧
    (s.pins.softReset = false → s.pins.nmi = true → ∃ t, step s = .next t ∧ entered t ∧ t.pins.interrupts = s.pins.interrupts ∧
      t.pendingWatch = s.pendingWatch ∧ t.pins.nmi = false ∧ t.caches = s.caches ∧ t.raced = s.raced ∧ t.code = s.code ∧
      t.gather = s.gather ∧ ∀ a, t.byteAt a = s.byteAt a)

/-- A cold reset of the running machine (10_state.md R120, R121, 60_exceptions.md R670). That memory keeps every byte, and that the
old pc in ErrorEPC is the restart address, are the model's choice (entry 46). -/
def Claim.ColdResetStep : Prop :=
  ∀ s : State, s.pins.coldReset = true →
    ∃ t, step s = .next t ∧ t.pc = 0xFFFFFFFFBFC00000 ∧ t.delay = .none ∧ t.cp0.random = 63 ∧ t.cp0.wired = 0 ∧
      t.cp0.status.erl = true ∧ t.cp0.status.bev = true ∧ t.cp0.status.sr = false ∧ t.cp0.errorEpc = s.restartPc ∧
      t.cp0.perfControl.event0 = 0 ∧ t.cp0.perfControl.event1 = 0 ∧ t.pins.interrupts = 0 ∧ t.pendingWatch = false ∧
      t.pins.coldReset = false ∧ t.caches = { epoch := s.free + 1, icache := [], dcache := [], l2 := [] } ∧
      t.mode = .kernel ∧ t.interruptsEnabled = false ∧ (∀ j : Fin 64, t.tlbWritten[j] = false) ∧ ∀ a, t.byteAt a = s.byteAt a

/-- The resets and NMI of a running machine. -/
def Claim.ResetsAndNmi : Prop := Claim.SoftResetAndNmi ∧ Claim.ColdResetStep

/-- The values the spec gives the machine at reset (10_state.md R120, R121, R123). -/
def Claim.ResetValues : Prop :=
  State.reset.pc = 0xFFFFFFFFBFC00000 ∧ State.reset.cp0.random = 63 ∧ State.reset.cp0.wired = 0 ∧
  State.reset.cp0.status.erl = true ∧ State.reset.cp0.status.bev = true ∧ State.reset.cp0.status.sr = false ∧
  State.reset.cp0.perfControl.event0 = 0 ∧ State.reset.cp0.perfControl.event1 = 0 ∧
  State.reset.pins.interrupts = 0 ∧ State.reset.pendingWatch = false ∧ State.reset.mode = .kernel ∧
  State.reset.interruptsEnabled = false ∧ State.reset.translate .fetch State.reset.pc = .pass (0x1FC00000, 2)

/-- The resets and NMI of a running machine, and the values of State.reset. -/
def Obligations.ResetsAndNmi : Prop := Claim.ResetsAndNmi ∧ Claim.ResetValues

/-! ## CP0: 46_cp0.md -/

/-- MFC0 and DMFC0 of a named register write its low word sign-extended, or the whole of it, to rt; where CP0 is usable, and for
registers 24 and 25 in every mode (46_cp0.md R450, R452, R454). -/
def Claim.Cp0ReadResults : Prop :=
  ∀ (s : State) (rt rd : RegNum), s.leavesSegment = false → cp0Named rd = true →
    s.cp0Usable = true ∨ rd = 24 ∨ rd = 25 →
    ∃ v, s.cp0Read rd = some v ∧ GprResult s (exec (.dmfc0 rt rd) s) rt v ∧
      GprResult s (exec (.mfc0 rt rd) s) rt ((BitVec.ofNat 32 v.toNat).signExtend 64)

/-- What a read of the registers with plain fields gives: the reserved bits read 0, KX, SX and UX of Status read 1, and Status,
as every 32-bit register, reads sign-extended
(10_state.md R42, R44, R47, R49, R50, R53, R55, R56, R60, R74, 46_cp0.md R452). -/
def Claim.Cp0ReadValues : Prop :=
  ∀ s : State,
    s.cp0Read 1 = some (BitVec.ofNat 64 s.cp0.random.toNat) ∧
    s.cp0Read 4 = some (BitVec.ofNat 64 (s.cp0.context.pteBase.toNat * 2 ^ 23 + s.cp0.context.badVpn2.toNat * 2 ^ 4)) ∧
    s.cp0Read 5 = some (BitVec.ofNat 64 (s.cp0.pageMask.toNat * 2 ^ 13)) ∧
    s.cp0Read 6 = some (BitVec.ofNat 64 s.cp0.wired.toNat) ∧
    s.cp0Read 8 = some s.cp0.badVAddr ∧
    s.cp0Read 10 = some (BitVec.ofNat 64
      (s.cp0.entryHi.r.toNat * 2 ^ 62 + s.cp0.entryHi.vpn2.toNat * 2 ^ 13 + s.cp0.entryHi.asid.toNat)) ∧
    s.cp0Read 14 = some s.cp0.epc ∧
    s.cp0Read 20 = some (BitVec.ofNat 64
      (s.cp0.xcontext.pteBase.toNat * 2 ^ 37 + s.cp0.xcontext.r.toNat * 2 ^ 35 + s.cp0.xcontext.badVpn2.toNat * 2 ^ 4)) ∧
    s.cp0Read 30 = some s.cp0.errorEpc ∧
    ∃ v, s.cp0Read 12 = some v ∧ v.extractLsb' 28 4 = s.cp0.status.cu ∧ v.getLsbD 26 = s.cp0.status.fr ∧
      v.getLsbD 22 = s.cp0.status.bev ∧ v.getLsbD 20 = s.cp0.status.sr ∧ v.extractLsb' 8 8 = s.cp0.status.im ∧
      v.extractLsb' 5 3 = 7 ∧ v.extractLsb' 3 2 = s.cp0.status.ksu ∧ v.getLsbD 2 = s.cp0.status.erl ∧
      v.getLsbD 1 = s.cp0.status.exl ∧ v.getLsbD 0 = s.cp0.status.ie ∧ v &&& 0x0BAF0000 = 0 ∧ isWord v = true

/-- What a read of the other registers gives: Index, EntryLo0 and EntryLo1 (E at its opaque place, entry 17), Count, Compare, Cause
(IP[7] the timer or the counters, IP[6:2] the pins, IP[1:0] the software requests), PRId, Config, WatchLo, WatchHi, TagLo, TagHi,
and the performance registers 24 and 25, whose placement is the model's choice (entry 15); LLAddr and Diagnostic read as some value,
LLAddr as a word. Of Config, bits 31:6 are R69 and R70; that IB and DB read 1 and CU reads 0 in every state, right after reset too, where
R70 and R121 call them undefined, is the model's choice (DESIGN CHOICE, entry 3), and so is that the upper half of PRId reads 0
(DEDUCED, entry 19) (10_state.md R43, R45, R51, R52, R63, R64, R68 to R73, R75 to R77, R81, 60_exceptions.md R641). -/
def Claim.Cp0ReadFields : Prop :=
  ∀ s : State,
    let sext := fun w : Word32 => some (w.signExtend 64)
    let entryLo := fun (o : Option Word) (l : EntryLo) =>
      ∃ v, o = some v ∧ v.extractLsb' 6 28 = l.pfn ∧ v.extractLsb' 3 3 = l.c ∧ v.getLsbD 2 = l.d ∧ v.getLsbD 1 = l.v ∧
        v.getLsbD 0 = l.g ∧ ∀ i, 34 ≤ i → i < 64 → v.getLsbD i = (decide (i = 34 + Config.entryLoEOffset.val) && l.e)
    (∃ v, s.cp0Read 0 = some v ∧ v.getLsbD 31 = s.cp0.indexP ∧ v.extractLsb' 0 6 = s.cp0.index ∧ v.extractLsb' 6 25 = 0 ∧
      isWord v = true) ∧
    entryLo (s.cp0Read 2) s.cp0.entryLo0 ∧ entryLo (s.cp0Read 3) s.cp0.entryLo1 ∧
    s.cp0Read 9 = sext s.cp0.count ∧ s.cp0Read 11 = sext s.cp0.compare ∧
    (∃ v, s.cp0Read 13 = some v ∧ v.getLsbD 31 = s.cp0.cause.bd ∧ v.extractLsb' 28 2 = s.cp0.cause.ce ∧
      v.getLsbD 15 = (s.timerIp || s.perfRequest) ∧ v.extractLsb' 10 5 = s.pins.interrupts ∧
      v.extractLsb' 8 2 = s.cp0.cause.softIp ∧ v.extractLsb' 2 5 = s.cp0.cause.excCode ∧ v &&& 0x4FFF0083 = 0 ∧ isWord v = true) ∧
    s.cp0Read 15 = some (BitVec.ofNat 64 Config.prid.toNat) ∧
    (∃ v, s.cp0Read 16 = some v ∧ v.extractLsb' 0 3 = s.cp0.configK0 ∧ v.getLsbD 13 = Config.configEB ∧
      v &&& 0xFFFFFFFFFFFFDFF8 = 0x00400930) ∧
    (∃ v, s.cp0Read 17 = some v ∧ isWord v = true) ∧
    (∃ v, s.cp0Read 18 = some v ∧ v.extractLsb' 3 29 = s.cp0.watchLo.paddr0 ∧ v.getLsbD 2 = false ∧
      v.getLsbD 1 = s.cp0.watchLo.r ∧ v.getLsbD 0 = s.cp0.watchLo.w ∧ isWord v = true) ∧
    s.cp0Read 19 = some (BitVec.ofNat 64 s.cp0.watchHi.toNat) ∧
    (∃ v, s.cp0Read 22 = some v) ∧
    (∃ v, s.cp0Read 24 = some v ∧ v.extractLsb' 9 4 = s.cp0.perfControl.event1 ∧ v.extractLsb' 5 4 = s.cp0.perfControl.event0 ∧
      v.getLsbD 4 = s.cp0.perfControl.ie7 ∧ v.extractLsb' 0 4 = s.cp0.perfControl.enables ∧ v.extractLsb' 13 51 = 0) ∧
    s.cp0Read 25 = some (s.cp0.counter1 ++ s.cp0.counter0) ∧
    s.cp0Read 28 = sext s.cp0.tagLo ∧ s.cp0Read 29 = sext s.cp0.tagHi

/-- The reads of the CP0 registers, all of them: how a read runs, and what each register reads as. The clauses of Config bits 5:3 and of
PRId's upper half are the model's choices (entries 3 and 19), as are the places in registers 24 and 25 and of E (entries 15, 17). -/
def Obligations.Cp0Reads : Prop := Claim.Cp0ReadResults ∧ Claim.Cp0ReadValues ∧ Claim.Cp0ReadFields

/-- An instruction that writes CP0 register `rd` from general register `rt` completes with the CP0 registers `c` of the value written:
for DMTC0 the whole register, for MTC0 a value with the low word of the register, which is the register itself where that holds a
sign-extended word; otherwise its upper half is undefined, and the instruction completes all the same (46_cp0.md R451, R453). -/
def Claim.WritesCp0 (s : State) (rt rd : RegNum) (c : Word → Cp0) (P : Word → State → Prop) : Prop :=
  let v := s.gpr rt
  (∃ t, exec (.dmtc0 rt rd) s = .next t ∧ Advanced s t ∧ t.cp0 = c v ∧ P v t) ∧
  ∃ u : Word, u.extractLsb' 0 32 = v.extractLsb' 0 32 ∧ (isWord v = true → u = v) ∧
    ∃ t, exec (.mtc0 rt rd) s = .next t ∧ Advanced s t ∧ t.cp0 = c u ∧ P u t

/-- DMTC0 and MTC0 complete and write the named field only: EntryHi, EPC, ErrorEPC, TagLo, TagHi, WatchHi and (reserved bits written
as 0) Context, PageMask, Wired, Status; a write of Random, BadVAddr or PRId changes nothing (46_cp0.md R451, R453, 10_state.md R44,
R47 to R50, R53, R55; that BadVPN2 of Context keeps its value is 93_implementation_defined.md G7). That EntryHi ignores a 1 in bits 12:8,
as in the example of R453, and is not refused by R42 is the model's choice (DESIGN CHOICE, entry 27). -/
def Claim.Cp0WriteResults : Prop :=
  ∀ (s : State) (rt : RegNum), s.cp0Usable = true → s.leavesSegment = false →
    let low := (s.gpr rt).extractLsb' 0 32
    let writes := Claim.WritesCp0 s rt
    let only := fun _ : Word => OnlyCp0 s
    writes 1 (fun _ => s.cp0) (fun _ => OnlyPc s) ∧ writes 8 (fun _ => s.cp0) (fun _ => OnlyPc s) ∧
    writes 15 (fun _ => s.cp0) (fun _ => OnlyPc s) ∧
    writes 10
      (fun v => { s.cp0 with entryHi := { r := v.extractLsb' 62 2, vpn2 := v.extractLsb' 13 31, asid := v.extractLsb' 0 8 } })
      (fun _ t => t = { s with cp0 := t.cp0, itlbStale := t.itlbStale, pc := t.pc, delay := t.delay }) ∧
    writes 14 (fun v => { s.cp0 with epc := v }) only ∧ writes 30 (fun v => { s.cp0 with errorEpc := v }) only ∧
    writes 28 (fun _ => { s.cp0 with tagLo := low }) only ∧ writes 29 (fun _ => { s.cp0 with tagHi := low }) only ∧
    writes 19 (fun v => { s.cp0 with watchHi := v.extractLsb' 0 8 }) only ∧
    (low &&& 0xF = 0 →
      writes 4 (fun v => { s.cp0 with context := { s.cp0.context with pteBase := v.extractLsb' 23 41 } }) only) ∧
    (low &&& 0xFE001FFF = 0 → writes 5 (fun v => { s.cp0 with pageMask := v.extractLsb' 13 12 }) only) ∧
    (low &&& 0xFFFFFFC0 = 0 → writes 6 (fun v => { s.cp0 with wired := v.extractLsb' 0 6, random := 63 })
      (fun _ t => t = { s with cp0 := t.cp0, randomHold := true, pc := t.pc, delay := t.delay })) ∧
    (low &&& 0x0BAF0000 = 0 →
      writes 12 (fun v => { s.cp0 with status :=
        { cu := v.extractLsb' 28 4, fr := v.getLsbD 26, bev := v.getLsbD 22, sr := v.getLsbD 20, im := v.extractLsb' 8 8,
          ksu := v.extractLsb' 3 2, erl := v.getLsbD 2, exl := v.getLsbD 1, ie := v.getLsbD 0 } }) only)

/-- The other writes of CP0 registers: Index (P is free where the value differs from it), Cause (IP[1:0] only), Config (K0 only),
LLAddr, WatchLo (a pending Watch is cleared), XContext (that BadVPN2 and R keep their value is the model's choice, entry 26),
Diagnostic (a 1 in I flushes the ITLB), and the performance registers 24 and 25. What lies where in registers 24 and 25 (bits above
12 of 24 are dropped, counter 1 is the upper half of 25), which 10_state.md R77 leaves open, is the model's choice (entry 15). That Cause
ignores a 1 in a reserved bit, as in vector V-C0-7, and is not refused by R42 is the model's choice too (entry 27), and so is that a
write of Config with CU = 0 alone completes (entry 3)
(10_state.md R43, R64, R69 to R72, R74 to R78, 46_cp0.md R451, R453). -/
def Claim.Cp0OtherWrites : Prop :=
  ∀ (s : State) (rt : RegNum), s.cp0Usable = true → s.leavesSegment = false →
    let low := (s.gpr rt).extractLsb' 0 32
    let writes := Claim.WritesCp0 s rt
    let only := fun _ : Word => OnlyCp0 s
    (low &&& 0x7FFFFFC0 = 0 → ∃ p, (low.getLsbD 31 = s.cp0.indexP → p = s.cp0.indexP) ∧
      writes 0 (fun v => { s.cp0 with index := v.extractLsb' 0 6, indexP := p }) only) ∧
    writes 13 (fun v => { s.cp0 with cause := { s.cp0.cause with softIp := v.extractLsb' 8 2 } })
      (fun _ t => t = { s with cp0 := t.cp0, softDelay0 := t.softDelay0, softDelay1 := t.softDelay1, pc := t.pc, delay := t.delay }) ∧
    (low &&& 0x38 = 0x30 → writes 16 (fun v => { s.cp0 with configK0 := v.extractLsb' 0 3 }) only) ∧
    writes 17 (fun _ => { s.cp0 with llAddr := low }) only ∧
    writes 18 (fun v => { s.cp0 with watchLo := { paddr0 := v.extractLsb' 3 29, r := v.getLsbD 1, w := v.getLsbD 0 } })
      (fun _ t => t = { s with cp0 := t.cp0, pendingWatch := false, pc := t.pc, delay := t.delay }) ∧
    (low &&& 0xF = 0 →
      writes 20 (fun v => { s.cp0 with xcontext := { s.cp0.xcontext with pteBase := v.extractLsb' 37 27 } }) only) ∧
    writes 22 (fun v => { s.cp0 with diagnostic := v })
      (fun v t => (v.getLsbD (Config.diagBits 2).val = true → t.itlbStale = []) ∧
        t = { s with cp0 := t.cp0, itlbStale := t.itlbStale, pc := t.pc, delay := t.delay }) ∧
    writes 24 (fun v => { s.cp0 with perfControl :=
      { event1 := v.extractLsb' 9 4, event0 := v.extractLsb' 5 4, ie7 := v.getLsbD 4, enables := v.extractLsb' 0 4 } }) only ∧
    writes 25 (fun v => { s.cp0 with counter1 := v.extractLsb' 32 32, counter0 := low }) only

/-- The writes of EntryLo0 and EntryLo1 (10_state.md R42, R45, 46_cp0.md R451, R453): DMTC0 of a value whose bits above 33 are 0, or
the E bit alone, writes the fields, and any other 1 there is refused; MTC0 writes the fields of the value that it makes, and the
other bits above 33 of that value are ignored (the model's choice, entry 17). -/
def Claim.EntryLoWrites : Prop :=
  ∀ (s : State) (rt : RegNum), s.cp0Usable = true → s.leavesSegment = false →
    let v := s.gpr rt
    let eBit := 34 + Config.entryLoEOffset.val
    let image := fun v : Word =>
      ({ e := v.getLsbD eBit, pfn := v.extractLsb' 6 28, c := v.extractLsb' 3 3, d := v.getLsbD 2, v := v.getLsbD 1,
         g := v.getLsbD 0 } : EntryLo)
    let high := v.toNat / 2 ^ 34
    let writes := fun (i : Instr) (c : Cp0) => ∃ t, exec i s = .next t ∧ Advanced s t ∧ t.cp0 = c ∧ OnlyCp0 s t
    (high = 0 ∨ high = 2 ^ Config.entryLoEOffset.val →
      writes (.dmtc0 rt 2) { s.cp0 with entryLo0 := image v } ∧ writes (.dmtc0 rt 3) { s.cp0 with entryLo1 := image v }) ∧
    (high ≠ 0 → high ≠ 2 ^ Config.entryLoEOffset.val → exec (.dmtc0 rt 2) s = .refused .reservedRegisterBit ∧
      exec (.dmtc0 rt 3) s = .refused .reservedRegisterBit) ∧
    ∃ u : Word, u.extractLsb' 0 32 = v.extractLsb' 0 32 ∧ (isWord v = true → u = v) ∧
      writes (.mtc0 rt 2) { s.cp0 with entryLo0 := image u } ∧ writes (.mtc0 rt 3) { s.cp0 with entryLo1 := image u }

/-- The writes of the CP0 registers; Count and Compare are in TimerRequest. -/
def Obligations.Cp0Writes : Prop := Claim.Cp0WriteResults ∧ Claim.Cp0OtherWrites ∧ Claim.EntryLoWrites

/-- TLBWI writes the entry that Index names and TLBWR the one that Random names: EntryHi without the bits under the mask, PageMask
and the two pages, global where both pages are; TLBR reads it back (46_cp0.md R458 to R460). The page sizes of the entries that have been
written and of PageMask agree with the new entry in its place (20_memory.md R155; entry 32); where they do not, the write is refused. -/
def Claim.TlbWriteThenRead : Prop :=
  ∀ s : State, s.cp0Usable = true → s.leavesSegment = false → pageMaskLegal s.cp0.pageMask = true →
    let hi := s.cp0.entryHi
    let both := s.cp0.entryLo0.g && s.cp0.entryLo1.g
    let written := fun (i : BitVec 6) (t : State) =>
      (∀ j : Fin 64, j.val ≠ i.toNat → t.tlb[j] = s.tlb[j]) ∧ t.cp0 = s.cp0 ∧ (∀ r, t.gpr r = s.gpr r) ∧
      (∀ a, t.byteAt a = s.byteAt a) ∧ (∀ j : Fin 64, t.tlbWritten[j] = (decide (j.val = i.toNat) || s.tlbWritten[j])) ∧
      t = { s with tlb := t.tlb, tlbWritten := t.tlbWritten, itlbStale := t.itlbStale, pc := t.pc, delay := t.delay }
    (¬s.sizesFit s.cp0.random → exec .tlbwr s = .refused .mixedPageSizes) ∧
    (¬s.sizesFit s.cp0.index → exec .tlbwi s = .refused .mixedPageSizes) ∧
    (s.sizesFit s.cp0.random → ∃ t, exec .tlbwr s = .next t ∧ Advanced s t ∧ written s.cp0.random t ∧
      t.tlb[s.cp0.random.toFin] = s.cp0.tlbEntry) ∧
    (s.sizesFit s.cp0.index → ∃ t, exec .tlbwi s = .next t ∧ Advanced s t ∧ written s.cp0.index t ∧
      (t.leavesSegment = false → ∃ u, exec .tlbr t = .next u ∧ Advanced t u ∧ u.cp0.pageMask = s.cp0.pageMask ∧
        u.cp0.entryHi = { hi with vpn2 := hi.vpn2 &&& ~~~(s.cp0.pageMask.setWidth 31) } ∧
        u.cp0.entryLo0 = { s.cp0.entryLo0 with g := both } ∧ u.cp0.entryLo1 = { s.cp0.entryLo1 with g := both } ∧
        u.tlb = t.tlb ∧ (∀ r, u.gpr r = s.gpr r) ∧ ∀ a, u.byteAt a = s.byteAt a))

/-- TLBR loads PageMask, EntryHi (the bits under the mask 0), EntryLo1 and EntryLo0 from the entry that Index names, with its G in
both (46_cp0.md R458). -/
def Claim.TlbReadResults : Prop :=
  ∀ s : State, s.cp0Usable = true → s.leavesSegment = false →
    let e := s.tlb[s.cp0.index.toFin]
    let lo := fun p : TlbPage => ({ e := p.e, pfn := p.pfn, c := p.c, d := p.d, v := p.v, g := e.g } : EntryLo)
    ∃ t, exec .tlbr s = .next t ∧ Advanced s t ∧
      t.cp0 = { s.cp0 with pageMask := e.mask, entryLo0 := lo e.page0, entryLo1 := lo e.page1,
                           entryHi := { r := e.r, vpn2 := e.vpn2 &&& ~~~(e.mask.setWidth 31), asid := e.asid } } ∧
      (∀ r, t.gpr r = s.gpr r) ∧ (∀ a, t.byteAt a = s.byteAt a) ∧
      t = { s with cp0 := t.cp0, itlbStale := t.itlbStale, pc := t.pc, delay := t.delay }

/-- TLBP: the number of the one entry that matches EntryHi, or P = 1 where none does (46_cp0.md R456). -/
def Claim.TlbProbeResults : Prop :=
  ∀ s : State, s.cp0Usable = true → s.leavesSegment = false →
    (∀ i : Fin 64, (∀ j : Fin 64, (s.tlb[j]).matchesHi s.cp0.entryHi = decide (j = i)) →
      ∃ t, exec .tlbp s = .next t ∧ Advanced s t ∧ t.cp0 = { s.cp0 with indexP := false, index := BitVec.ofFin i } ∧ OnlyCp0 s t) ∧
    ((∀ j : Fin 64, (s.tlb[j]).matchesHi s.cp0.entryHi = false) →
      ∃ t, exec .tlbp s = .next t ∧ Advanced s t ∧ t.cp0 = { s.cp0 with indexP := true, index := t.cp0.index } ∧ OnlyCp0 s t)

/-- An entry matches EntryHi for TLBP where VPN2 agrees on every bit that the entry's Mask does not cover, and the entry is global or its
ASID is that of EntryHi; where the parameter TLBP_COMPARES_R holds R must agree too (46_cp0.md R456; entry 21). -/
def Claim.TlbProbeMatches : Prop :=
  ∀ (e : TlbEntry) (h : EntryHi), e.matchesHi h = true ↔
    (∀ i, i < 31 → e.mask.getLsbD i = false → e.vpn2.getLsbD i = h.vpn2.getLsbD i) ∧ (e.g = true ∨ e.asid = h.asid) ∧
    (Config.tlbpComparesR = true → e.r = h.r)

/-- TLBWI, TLBWR, TLBR and TLBP. -/
def Obligations.TlbInstructions : Prop :=
  Claim.TlbWriteThenRead ∧ Claim.TlbReadResults ∧ Claim.TlbProbeResults ∧ Claim.TlbProbeMatches

/-- Every CACHE operation of Table 8-3 completes on a cached address, moves no register data, and touches only TagHi, TagLo, the
caches, memory with the registers of the DDR controller, and the records of races and of stored code; all but the two that write
back L2 lines leave memory alone (46_cp0.md R464 to R483). -/
def Obligations.CacheOperationsComplete : Prop :=
  ∀ (s : State) (op : BitVec 5) (offset : BitVec 16) (base : RegNum) (pa : PAddr), s.cp0Usable = true → s.leavesSegment = false →
    cacheOpListed op = true → s.translate .load (s.gpr base + BitVec.ofInt 64 offset.toInt) = .pass (pa, 3) →
    ∃ t, exec (.cache op offset base) s = .next t ∧ Advanced s t ∧ (∀ r, t.gpr r = s.gpr r) ∧
      t.cp0 = { s.cp0 with tagHi := t.cp0.tagHi, tagLo := t.cp0.tagLo } ∧
      t = { s with cp0 := t.cp0, caches := t.caches, memory := t.memory, raced := t.raced, code := t.code,
                   ddrConfig := t.ddrConfig, ddrSample := t.ddrSample, ddrReady := t.ddrReady, sampleReady := t.sampleReady,
                   pc := t.pc, delay := t.delay } ∧
      (op.toNat ∉ [3, 23] → (∀ a, t.byteAt a = s.byteAt a) ∧ t.ddrConfig = s.ddrConfig ∧ t.ddrSample = s.ddrSample)

/-- Index Store Tag and then Index Load Tag of a D-cache line give the tag registers back, but for the bits that hold no tag;
the same for Index Store Data and Index Load Data, whole (46_cp0.md R471, R473, R479, R480, R482). -/
def Claim.CacheTagAndDataRoundTrip : Prop :=
  ∀ (s : State) (va : Word) (hi lo : Word32),
    (let t := (s.cacheIndexStoreTagD va).setTags hi lo
     let u := t.cacheIndexLoadTagD va
     u.cp0.tagLo = s.cp0.tagLo &&& 0xFFFFFFF0 ∧ u.cp0.tagHi &&& 0xF = s.cp0.tagHi &&& 0xF ∧
     u.cp0.tagHi.extractLsb' 29 3 = (s.dline (dIndexKey va)).stateMod ∧ u.cp0.tagHi.extractLsb' 4 25 = 0) ∧
    (let t := (s.cacheIndexStoreDataD va).setTags hi lo
     let u := t.cacheIndexLoadDataD va
     u.cp0.tagLo = s.cp0.tagLo ∧ u.cp0.tagHi = s.cp0.tagHi)

/-- A CACHE operation on a cached address where CP0 is usable completes, and the states before and after are as `P` says. -/
def Claim.CacheRuns (op : BitVec 5) (P : State → Word → PAddr → State → Prop) : Prop :=
  ∀ (s : State) (offset : BitVec 16) (base : RegNum) (pa : PAddr), s.cp0Usable = true → s.leavesSegment = false →
    s.translate .load (s.gpr base + BitVec.ofInt 64 offset.toInt) = .pass (pa, 3) →
    ∃ t, exec (.cache op offset base) s = .next t ∧ Advanced s t ∧ P s (s.gpr base + BitVec.ofInt 64 offset.toInt) pa t

/-- `t` differs from `s` in the D-cache, the L2, and the records of races and of stored code. -/
def Claim.OnlyDataCaches (s t : State) : Prop :=
  t = { s with caches := { s.caches with dcache := t.caches.dcache, l2 := t.caches.l2 }, raced := t.raced, code := t.code,
               pc := t.pc, delay := t.delay }

/-- `t` differs from `s` in the record of stored code. -/
def Claim.OnlyCode (s t : State) : Prop := t = { s with code := t.code, pc := t.pc, delay := t.delay }

/-- D-cache line `k` is invalid and has kept its tag, SCWay, StateMod and data (its dirty bit is the model's choice, entry 7); every
other D-cache line is as before. -/
def Claim.InvalidatesD (s t : State) (k : Nat) : Prop :=
  (t.dline k).state = .invalid ∧ (t.dline k).tag = (s.dline k).tag ∧ (t.dline k).scWay = (s.dline k).scWay ∧
  (t.dline k).stateMod = (s.dline k).stateMod ∧ (t.dline k).data = (s.dline k).data ∧ ∀ j, j ≠ k → t.dline j = s.dline j

/-- The data of D-cache line `k` has gone to the L2 where the line was valid and dirty: to the one L2 line of its address, or where
the L2 has none to the way that SCWay names; else no L2 line has changed. The rules ask only whether the line is dirty: that an invalid
line whose dirty bit is 1 is not written, the target way by SCWay, and that the line that stood in that way is overwritten, its data
lost and its L1 copies left, are the model's choice (DESIGN CHOICE, entry 7). -/
def Claim.WritesBackD (s t : State) (k : Nat) : Prop :=
  let l := s.dline k
  let b := s.dlineBase k
  let takes := fun j : Nat => t.l2line j = { tag := l2Tag b, state := .dirty, data := l.data } ∧ ∀ i, i ≠ j → t.l2line i = s.l2line i
  (l.state.isValid = true → l.dirty = true →
    (s.l2Hits b = [] → takes (lineKey (l2Set b) l.scWay.toNat)) ∧ ∀ j, s.l2Hits b = [j] → takes j) ∧
  (l.state.isValid = false ∨ l.dirty = false → ∀ i, t.l2line i = s.l2line i)

/-- Index Invalidate (I): the four ways of the set of the address, and nothing else (46_cp0.md R468). -/
def Claim.InvalidatesISet : Prop := Claim.CacheRuns 0 fun s va _ t =>
  (∀ k, t.iline k = if k / 4 = l1Set va then { s.iline k with valid := false } else s.iline k) ∧
  t = { s with caches := { s.caches with icache := t.caches.icache }, code := t.code, pc := t.pc, delay := t.delay }

/-- Index WriteBack Invalidate (D), Hit WriteBack Invalidate (D) and Hit Invalidate (D): the line named, or the line that hits, is
written to the L2 where it is dirty (the first two), and invalid; where nothing hits nothing happens (46_cp0.md R469, R475, R476). That
an invalid line with its dirty bit 1 is not written, the L2 way that takes the data where none holds the address, and what becomes of
the line that stood there are the model's choice (WritesBackD; entry 7). -/
def Claim.InvalidatesDLines : Prop :=
  (Claim.CacheRuns 1 fun s va _ t =>
    let k := l1Set va * 4 + va.toNat % 4
    Claim.InvalidatesD s t k ∧ Claim.WritesBackD s t k ∧ Claim.OnlyDataCaches s t) ∧
  (Claim.CacheRuns 21 fun s va pa t =>
    (s.dHits (l1Set va) pa = [] → Claim.OnlyCode s t) ∧
    ∀ k, s.dHits (l1Set va) pa = [k] → Claim.InvalidatesD s t k ∧ Claim.WritesBackD s t k ∧ Claim.OnlyDataCaches s t) ∧
  (Claim.CacheRuns 17 fun s va pa t =>
    (s.dHits (l1Set va) pa = [] → Claim.OnlyCode s t) ∧
    ∀ k, s.dHits (l1Set va) pa = [k] → Claim.InvalidatesD s t k ∧ (∀ i, t.l2line i = s.l2line i) ∧ Claim.OnlyDataCaches s t)

/-- Index Load Tag, Index Store Tag, Index Load Data and Index Store Data (D): way va[1:0] of set va[13:5], and for the data the
doubleword that va[4:3] names (46_cp0.md R471, R473, R479, R480, R482). -/
def Claim.MovesDTagsAndData : Prop :=
  (Claim.CacheRuns 5 fun s va _ t =>
    let l := s.dline (l1Set va * 4 + va.toNat % 4)
    t.cp0.tagLo.extractLsb' 4 2 = l.scWay ∧ t.cp0.tagLo.extractLsb' 6 2 = l.state.code ∧
    t.cp0.tagLo.extractLsb' 8 24 = l.tag.extractLsb' 0 24 ∧ t.cp0.tagHi.extractLsb' 0 4 = l.tag.extractLsb' 24 4 ∧
    t.cp0.tagHi.extractLsb' 29 3 = l.stateMod ∧ t.cp0.tagLo.extractLsb' 0 4 = 0 ∧ t.cp0.tagHi.extractLsb' 4 25 = 0 ∧
    t.cp0 = { s.cp0 with tagHi := t.cp0.tagHi, tagLo := t.cp0.tagLo } ∧ OnlyCp0 s t) ∧
  (Claim.CacheRuns 9 fun s va _ t =>
    let k := l1Set va * 4 + va.toNat % 4
    (t.dline k).scWay = s.cp0.tagLo.extractLsb' 4 2 ∧ (t.dline k).state.code = s.cp0.tagLo.extractLsb' 6 2 ∧
    (t.dline k).tag = s.cp0.tagHi.extractLsb' 0 4 ++ s.cp0.tagLo.extractLsb' 8 24 ∧
    (t.dline k).stateMod = (s.dline k).stateMod ∧ (t.dline k).data = (s.dline k).data ∧ (t.dline k).dirty = (s.dline k).dirty ∧
    (∀ j, j ≠ k → t.dline j = s.dline j) ∧ (∀ i, t.l2line i = s.l2line i) ∧ Claim.OnlyDataCaches s t) ∧
  (Claim.CacheRuns 25 fun s va _ t =>
    t.cp0.tagHi ++ t.cp0.tagLo = (s.dline (l1Set va * 4 + va.toNat % 4)).data.extractLsb' (64 * (va.toNat / 8 % 4)) 64 ∧
    t.cp0 = { s.cp0 with tagHi := t.cp0.tagHi, tagLo := t.cp0.tagLo } ∧ OnlyCp0 s t) ∧
  (Claim.CacheRuns 29 fun s va _ t =>
    let k := l1Set va * 4 + va.toNat % 4
    t.dline k = { s.dline k with data := (t.dline k).data } ∧
    (∀ j, j < 4 → (t.dline k).data.extractLsb' (64 * j) 64 =
      if j = va.toNat / 8 % 4 then s.cp0.tagHi ++ s.cp0.tagLo else (s.dline k).data.extractLsb' (64 * j) 64) ∧
    (∀ j, j ≠ k → t.dline j = s.dline j) ∧ (∀ i, t.l2line i = s.l2line i) ∧ Claim.OnlyDataCaches s t)

/-- The CACHE operations on the L1 caches; which D-cache lines are written to the L2, beyond that they are dirty, to which way, and what
becomes of the line that stood there rests on entry 7 (DESIGN CHOICE). -/
def Obligations.CacheOnL1 : Prop :=
  Claim.InvalidatesISet ∧ Claim.InvalidatesDLines ∧ Claim.MovesDTagsAndData ∧ Claim.CacheTagAndDataRoundTrip

/-- L2 line `k`, which was valid, is invalid, its copies in the L1 caches too, and every other line is as before. -/
def Claim.InvalidatesL2 (s t : State) (k : Nat) : Prop :=
  let b := s.l2lineBase k
  (t.l2line k).state = .invalid ∧ (t.l2line k).tag = (s.l2line k).tag ∧ (∀ j, j ≠ k → t.l2line j = s.l2line j) ∧
  (∀ i ∈ s.iCopies b, (t.iline i).valid = false) ∧ (∀ i, i ∉ s.iCopies b → t.iline i = s.iline i) ∧
  (∀ i ∈ s.dCopies b, (t.dline i).state = .invalid) ∧ (∀ i, i ∉ s.dCopies b → t.dline i = s.dline i)

/-- `t` differs from `s` in the caches, memory with the registers of the DDR controller, and the records of races and of stored
code. -/
def Claim.OnlyCachesAndMemory (s t : State) : Prop :=
  t = { s with caches := t.caches, memory := t.memory, raced := t.raced, code := t.code, ddrConfig := t.ddrConfig,
               ddrSample := t.ddrSample, ddrReady := t.ddrReady, sampleReady := t.sampleReady, pc := t.pc, delay := t.delay }

/-- Index WriteBack Invalidate (S), Hit WriteBack Invalidate (S) and Hit Invalidate (S) (46_cp0.md R470, R477, R478). -/
def Claim.InvalidatesL2Lines : Prop :=
  (Claim.CacheRuns 3 fun s _ pa t =>
    let k := l2Set pa * 4 + pa.toNat % 4
    ((s.l2line k).state = .invalid → Claim.OnlyCode s t) ∧
    ((s.l2line k).state ≠ .invalid → Claim.InvalidatesL2 s t k ∧ WritesBackL2 s t k ∧ Claim.OnlyCachesAndMemory s t)) ∧
  (Claim.CacheRuns 23 fun s _ pa t =>
    (s.l2Hits pa = [] → Claim.OnlyCode s t) ∧
    ∀ k, s.l2Hits pa = [k] → Claim.InvalidatesL2 s t k ∧ WritesBackL2 s t k ∧ Claim.OnlyCachesAndMemory s t) ∧
  (Claim.CacheRuns 19 fun s _ pa t =>
    (s.l2Hits pa = [] → Claim.OnlyCode s t) ∧
    ∀ k, s.l2Hits pa = [k] → Claim.InvalidatesL2 s t k ∧ (∀ a, t.byteAt a = s.byteAt a) ∧ Claim.OnlyCachesAndMemory s t)

/-- Index Load Tag, Index Store Tag, Index Load Data and Index Store Data (S): way pa[1:0] of set pa[16:5], and for the data the
doubleword that pa[4:3] names (46_cp0.md R472, R474, R481, R483). -/
def Claim.MovesL2TagsAndData : Prop :=
  (Claim.CacheRuns 7 fun s _ pa t =>
    let l := s.l2line (l2Set pa * 4 + pa.toNat % 4)
    t.cp0.tagLo.extractLsb' 10 2 = l.state.code ∧ t.cp0.tagLo.extractLsb' 13 19 = l.tag.extractLsb' 0 19 ∧
    t.cp0.tagHi.extractLsb' 0 4 = l.tag.extractLsb' 19 4 ∧ t.cp0.tagLo.extractLsb' 0 10 = 0 ∧ t.cp0.tagLo.getLsbD 12 = false ∧
    t.cp0.tagHi.extractLsb' 4 28 = 0 ∧ t.cp0 = { s.cp0 with tagHi := t.cp0.tagHi, tagLo := t.cp0.tagLo } ∧ OnlyCp0 s t) ∧
  (Claim.CacheRuns 11 fun s _ pa t =>
    let k := l2Set pa * 4 + pa.toNat % 4
    (t.l2line k).state.code = s.cp0.tagLo.extractLsb' 10 2 ∧
    (t.l2line k).tag = s.cp0.tagHi.extractLsb' 0 4 ++ s.cp0.tagLo.extractLsb' 13 19 ∧ (t.l2line k).data = (s.l2line k).data ∧
    (∀ j, j ≠ k → t.l2line j = s.l2line j) ∧ (∀ i, t.dline i = s.dline i) ∧ Claim.OnlyDataCaches s t) ∧
  (Claim.CacheRuns 27 fun s _ pa t =>
    t.cp0.tagHi ++ t.cp0.tagLo = (s.l2line (l2Set pa * 4 + pa.toNat % 4)).data.extractLsb' (64 * (pa.toNat / 8 % 4)) 64 ∧
    t.cp0 = { s.cp0 with tagHi := t.cp0.tagHi, tagLo := t.cp0.tagLo } ∧ OnlyCp0 s t) ∧
  (Claim.CacheRuns 31 fun s _ pa t =>
    let k := l2Set pa * 4 + pa.toNat % 4
    t.l2line k = { s.l2line k with data := (t.l2line k).data } ∧
    (∀ j, j < 4 → (t.l2line k).data.extractLsb' (64 * j) 64 =
      if j = pa.toNat / 8 % 4 then s.cp0.tagHi ++ s.cp0.tagLo else (s.l2line k).data.extractLsb' (64 * j) 64) ∧
    (∀ j, j ≠ k → t.l2line j = s.l2line j) ∧ (∀ i, t.dline i = s.dline i) ∧ Claim.OnlyDataCaches s t)

/-- The CACHE operations on the L2 cache. -/
def Obligations.CacheOnL2 : Prop := Claim.InvalidatesL2Lines ∧ Claim.MovesL2TagsAndData

/-! ## Address spaces and translation: 20_memory.md -/

/-- The segments by mode: user mode has only xuseg, supervisor mode its three segments; every other address is an address error
(20_memory.md R143 to R146). -/
def Claim.SegmentsByMode : Prop :=
  ∀ (s : State) (kind : Access) (va : Word),
    (s.mode = .user → 2 ^ 40 ≤ va.toNat → s.translate kind va = .raise (.addressError (kind == .store) va)) ∧
    (s.mode = .supervisor → 2 ^ 40 ≤ va.toNat → ¬(2 ^ 62 ≤ va.toNat ∧ va.toNat < 2 ^ 62 + 2 ^ 40) →
      ¬(0xFFFFFFFFC0000000 ≤ va.toNat ∧ va.toNat < 0xFFFFFFFFE0000000) →
      s.translate kind va = .raise (.addressError (kind == .store) va)) ∧
    (s.mode = .kernel →
      (2 ^ 40 ≤ va.toNat ∧ va.toNat < 2 ^ 62 ∧ s.cp0.status.erl = false) ∨
        (2 ^ 62 + 2 ^ 40 ≤ va.toNat ∧ va.toNat < 2 ^ 63) ∨
        (0x8000000000000000 ≤ va.toNat ∧ va.toNat < 0xC000000000000000 ∧ va.toNat / 2 ^ 40 % 2 ^ 19 ≠ 0) ∨
        (0xC00000FF80000000 ≤ va.toNat ∧ va.toNat < 0xFFFFFFFF80000000) →
      s.translate kind va = .raise (.addressError (kind == .store) va))

/-- The unmapped segments of kernel mode: ckseg0 with the attribute of Config.K0, ckseg1 uncached, xkphys with the attribute in
the address; a reserved attribute is refused, at every kind of access, which is read into the spec (entry 34) (20_memory.md R143,
R146 to R148). -/
def Claim.UnmappedSegments : Prop :=
  ∀ (s : State) (kind : Access) (va : Word), s.mode = .kernel →
    let known := fun c : BitVec 3 => c = 2 ∨ c = 3 ∨ c = 7
    (0xFFFFFFFF80000000 ≤ va.toNat → va.toNat < 0xFFFFFFFFA0000000 →
      (known s.cp0.configK0 → s.translate kind va = .pass (BitVec.ofNat 40 (va.toNat - 0xFFFFFFFF80000000), s.cp0.configK0)) ∧
      (¬known s.cp0.configK0 → s.translate kind va = .refuse .reservedAttribute)) ∧
    (0xFFFFFFFFA0000000 ≤ va.toNat → va.toNat < 0xFFFFFFFFC0000000 →
      s.translate kind va = .pass (BitVec.ofNat 40 (va.toNat - 0xFFFFFFFFA0000000), 2)) ∧
    (0x8000000000000000 ≤ va.toNat → va.toNat < 0xC000000000000000 → va.toNat / 2 ^ 40 % 2 ^ 19 = 0 →
      let c := va.extractLsb' 59 3
      (known c → s.translate kind va = .pass (BitVec.ofNat 40 (va.toNat % 2 ^ 40), c)) ∧
      (¬known c → s.translate kind va = .refuse .reservedAttribute))

/-- The segment table (20_memory.md R143 to R148; entry 34). -/
def Obligations.AddressSpaces : Prop := Claim.SegmentsByMode ∧ Claim.UnmappedSegments

/-- The mapped segments of a mode: xuseg, xsseg, xkseg, and csseg (cksseg) and ckseg3 of the compatibility space (20_memory.md R143 to
R146). -/
def Claim.inMappedSegment (m : Mode) (va : Word) : Prop :=
  va.toNat < 2 ^ 40 ∨
  (m ≠ .user ∧ 2 ^ 62 ≤ va.toNat ∧ va.toNat < 2 ^ 62 + 2 ^ 40) ∨
  (m = .kernel ∧ 0xC000000000000000 ≤ va.toNat ∧ va.toNat < 0xC00000FF80000000) ∨
  (m ≠ .user ∧ 0xFFFFFFFFC0000000 ≤ va.toNat ∧ va.toNat < 0xFFFFFFFFE0000000) ∨
  (m = .kernel ∧ 0xFFFFFFFFE0000000 ≤ va.toNat)

/-- An entry matches an address under an ASID where VPN2 is bits 43:13 of the address on every bit that the entry's Mask does not cover, R
is bits 63:62, and the entry is global or has that ASID; V plays no part. A Mask of `k` ones from bit 0 gives pages of 2 ^ (12 + k) bytes
(20_memory.md R150, R151). The page sizes agree where every entry with a valid page has PageMask (R155; entry 32). -/
def Claim.TlbMatches : Prop :=
  (∀ (e : TlbEntry) (asid : BitVec 8) (va : Word), e.matchesVa asid va = true ↔
    (∀ i, i < 31 → e.mask.getLsbD i = false → e.vpn2.getLsbD i = va.getLsbD (13 + i)) ∧ e.r.toNat = va.toNat / 2 ^ 62 ∧
      (e.g = true ∨ e.asid = asid)) ∧
  (∀ (mask : BitVec 12) (k : Nat), mask.toNat = 2 ^ k - 1 → maskBits mask = k) ∧
  ∀ s : State, s.pageSizesAgree = true ↔
    ∀ i : Fin 64, (s.tlb[i]).page0.v = true ∨ (s.tlb[i]).page1.v = true → (s.tlb[i]).mask = s.cp0.pageMask

/-- What the entry that matches an address gives, by its even or odd page: invalid, modified, execute-inhibited, or the frame number over
the page offset with the attribute of the page, which must not be a reserved one (20_memory.md R148, R150, R152 to R154). That a
reserved attribute is refused at every kind of access is read into the spec (entry 34). -/
def Claim.EntryTranslates (e : TlbEntry) (kind : Access) (va : Word) (r : Chk (PAddr × BitVec 3)) : Prop :=
  let k := maskBits e.mask
  let p := if va.getLsbD (12 + k) then e.page1 else e.page0
  let pa := p.pfn.toNat / 2 ^ k * 2 ^ (12 + k) + va.toNat % 2 ^ (12 + k)
  let known := p.c = 2 ∨ p.c = 3 ∨ p.c = 7
  (p.v = false → r = .raise (.tlbInvalid (kind == .store) va)) ∧
  (p.v = true → kind = .store → p.d = false → r = .raise (.tlbModified va)) ∧
  (p.v = true → kind = .fetch → p.e = true → r = .raise (.addressError false va)) ∧
  (p.v = true → (kind = .store → p.d = true) → (kind = .fetch → p.e = false) →
    (known → r = .pass (BitVec.ofNat 40 pa, p.c) ∧ pa < 2 ^ 40) ∧ (¬known → r = .refuse .reservedAttribute))

/-- Translation of an address of a mapped segment by the TLB, for a fetch with an ITLB that is not stale: page sizes that differ are
refused; no match, a refill; more than one, the model's fault; one match, what it gives (20_memory.md R150 to R156). The page size in
use is read into R155 (entry 32). -/
def Claim.TlbTranslates : Prop :=
  ∀ (s : State) (kind : Access) (va : Word), s.mode ≠ .undefined → s.cp0.status.erl = false ∨ 2 ^ 62 ≤ va.toNat →
    Claim.inMappedSegment s.mode va → (kind = .fetch → s.itlbStale = []) →
    let found := s.tlb.toList.filter fun e => e.matchesVa s.cp0.entryHi.asid va
    (s.pageSizesAgree = false → s.translate kind va = .refuse .mixedPageSizes) ∧
    (s.pageSizesAgree = true →
      (found = [] → s.translate kind va = .raise (.tlbRefill (kind == .store) va)) ∧
      (2 ≤ found.length → s.translate kind va = .fault .multipleTlbMatch) ∧
      ∀ e, found = [e] → Claim.EntryTranslates e kind va (s.translate kind va))

/-- A fetch translates as the TLB gives it now, or by one of the stale entries, of which a valid page matches under the ASID it was
current with, and by nothing else; it is refused where that entry has not the Mask of PageMask (20_memory.md R155, R158; entry 10). That
such an entry may match with the size of its own Mask or with that of PageMask is read into R155 (entry 10). -/
def Claim.StaleFetchTranslates : Prop :=
  ∀ (s : State) (va : Word), s.mode ≠ .undefined → s.cp0.status.erl = false ∨ 2 ^ 62 ≤ va.toNat →
    Claim.inMappedSegment s.mode va →
    let r := s.translate .fetch va
    let now : State := { s with itlbStale := [] }
    (s.pageSizesAgree = false → r = .refuse .mixedPageSizes) ∧
    (s.pageSizesAgree = true → r = now.translate .fetch va ∨
      ∃ p ∈ s.itlbStale, ∃ e ∈ [p.1, { p.1 with mask := s.cp0.pageMask }], e.matchesVa p.2 va = true ∧
        (if va.getLsbD (12 + maskBits e.mask) then e.page1 else e.page0).v = true ∧
        (p.1.mask = s.cp0.pageMask → Claim.EntryTranslates p.1 .fetch va r) ∧
        (p.1.mask ≠ s.cp0.pageMask → r = .refuse .mixedPageSizes))

/-- The stale entries: a write of the TLB adds the entry that it replaces with the ASID of EntryHi, and a write of EntryHi with another
ASID every entry that is not global, with the ASID before; of these only entries with a valid page, which alone an ITLB copies, and
none that was there is lost (20_memory.md R158; entry 10). Diagnostic, which empties them, is in Cp0Writes. -/
def Claim.StaleEntriesJoin : Prop :=
  ∀ (s : State) (rt : RegNum), s.cp0Usable = true → s.leavesSegment = false →
    let asid := s.cp0.entryHi.asid
    let copied := fun e : TlbEntry => e.page0.v = true ∨ e.page1.v = true
    (pageMaskLegal s.cp0.pageMask = true → ∀ w ∈ [(Instr.tlbwi, s.cp0.index), (.tlbwr, s.cp0.random)], s.sizesFit w.2 →
      ∃ t, exec w.1 s = .next t ∧ ∀ p, p ∈ t.itlbStale ↔
        p ∈ s.itlbStale ∨ (p = (s.tlb[w.2.toFin], asid) ∧ copied s.tlb[w.2.toFin])) ∧
    ∃ t, exec (.dmtc0 rt 10) s = .next t ∧ ∀ p, p ∈ t.itlbStale ↔
      p ∈ s.itlbStale ∨
        ((s.gpr rt).extractLsb' 0 8 ≠ asid ∧ ∃ i : Fin 64, p = (s.tlb[i], asid) ∧ copied s.tlb[i] ∧ (s.tlb[i]).g = false)

/-- When an entry matches, what the match gives, and the stale entries that a fetch may use. -/
def Obligations.TlbTranslation : Prop :=
  Claim.TlbMatches ∧ Claim.TlbTranslates ∧ Claim.StaleFetchTranslates ∧ Claim.StaleEntriesJoin

/-- Alignment: a misaligned halfword, word or doubleword access raises an address error, AdEL for a load and AdES for a store,
before any translation (20_memory.md R135, R137). -/
def Claim.MisalignedAccessesRaise : Prop :=
  ∀ (s : State) (rt base : RegNum) (offset : BitVec 16),
    let va := s.gpr base + BitVec.ofInt 64 offset.toInt
    (va.toNat % 2 ≠ 0 →
      (∀ i ∈ [Instr.lh rt offset base, .lhu rt offset base], Takes s (exec i s) (.addressError false va)) ∧
      Takes s (exec (.sh rt offset base) s) (.addressError true va)) ∧
    (va.toNat % 4 ≠ 0 →
      (∀ i ∈ [Instr.lw rt offset base, .lwu rt offset base, .ll rt offset base], Takes s (exec i s) (.addressError false va)) ∧
      (∀ i ∈ [Instr.sw rt offset base, .sc rt offset base], Takes s (exec i s) (.addressError true va)) ∧
      (s.cp1Usable = true → Takes s (exec (.lwc1 rt offset base) s) (.addressError false va) ∧
        Takes s (exec (.swc1 rt offset base) s) (.addressError true va))) ∧
    (va.toNat % 8 ≠ 0 →
      (∀ i ∈ [Instr.ld rt offset base, .lld rt offset base], Takes s (exec i s) (.addressError false va)) ∧
      (∀ i ∈ [Instr.sd rt offset base, .scd rt offset base], Takes s (exec i s) (.addressError true va)) ∧
      (s.cp1Usable = true → s.evenFprs [rt] = true → Takes s (exec (.ldc1 rt offset base) s) (.addressError false va) ∧
        Takes s (exec (.sdc1 rt offset base) s) (.addressError true va)))

/-- Misaligned fetches, loads and stores. -/
def Obligations.MisalignmentRaises : Prop := Claim.MisalignedFetchRaises ∧ Claim.MisalignedAccessesRaise

/-! ## Loads and stores: 40_loadstore.md -/

/-- The seven aligned loads past the caches: the little-endian datum in RAM, extended, in rt (40_loadstore.md R241 to R247,
20_memory.md R131, R161). -/
def Claim.UncachedLoadResults : Prop :=
  ∀ (s : State) (rt base : RegNum) (offset : BitVec 16) (pa : PAddr), s.leavesSegment = false →
    let va := s.gpr base + BitVec.ofInt 64 offset.toInt
    (UncachedLoad s va 1 pa →
      GprResult s (exec (.lb rt offset base) s) rt ((s.storedByte pa.toNat).signExtend 64) ∧
      GprResult s (exec (.lbu rt offset base) s) rt ((s.storedByte pa.toNat).setWidth 64)) ∧
    (UncachedLoad s va 2 pa →
      let h := s.storedByte (pa + 1).toNat ++ s.storedByte pa.toNat
      GprResult s (exec (.lh rt offset base) s) rt (h.signExtend 64) ∧
      GprResult s (exec (.lhu rt offset base) s) rt (h.setWidth 64)) ∧
    (UncachedLoad s va 4 pa →
      let w := s.storedByte (pa + 3).toNat ++ s.storedByte (pa + 2).toNat ++ s.storedByte (pa + 1).toNat ++ s.storedByte pa.toNat
      GprResult s (exec (.lw rt offset base) s) rt (w.signExtend 64) ∧
      GprResult s (exec (.lwu rt offset base) s) rt (w.setWidth 64)) ∧
    (UncachedLoad s va 8 pa →
      GprResult s (exec (.ld rt offset base) s) rt
        (s.storedByte (pa + 7).toNat ++ s.storedByte (pa + 6).toNat ++ s.storedByte (pa + 5).toNat ++ s.storedByte (pa + 4).toNat ++
          s.storedByte (pa + 3).toNat ++ s.storedByte (pa + 2).toNat ++ s.storedByte (pa + 1).toNat ++ s.storedByte pa.toNat))

/-- The loads that hit the D-cache take the line's datum and change no cache; LL and LLD also set LLbit and record the address
(40_loadstore.md R241 to R247, R252, R253, 20_memory.md R162, R179). -/
def Claim.CachedLoadResults : Prop :=
  ∀ (s : State) (rt base : RegNum) (offset : BitVec 16) (pa : PAddr) (k : Nat), s.leavesSegment = false →
    let va := s.gpr base + BitVec.ofInt 64 offset.toInt
    let datum := fun n : Nat => s.lineDatum k pa n
    let linked := fun (o : Out) (v : Word) =>
      ∃ t, o = .next t ∧ Advanced s t ∧ t.gpr rt = (if rt = 0 then 0 else v) ∧ (∀ r, r ≠ rt → t.gpr r = s.gpr r) ∧
        t.llBit = true ∧ t.llPa = some pa ∧ t.cp0 = { s.cp0 with llAddr := t.cp0.llAddr } ∧ (∀ a, t.byteAt a = s.byteAt a) ∧
        t = { s with gprs := t.gprs, pc := t.pc, delay := t.delay, llBit := true, llPa := some pa, cp0 := t.cp0 }
    (CachedLoad s va 1 pa k →
      GprResult s (exec (.lb rt offset base) s) rt (((datum 1).setWidth 8).signExtend 64) ∧
      GprResult s (exec (.lbu rt offset base) s) rt (datum 1)) ∧
    (CachedLoad s va 2 pa k →
      GprResult s (exec (.lh rt offset base) s) rt (((datum 2).setWidth 16).signExtend 64) ∧
      GprResult s (exec (.lhu rt offset base) s) rt (datum 2)) ∧
    (CachedLoad s va 4 pa k →
      GprResult s (exec (.lw rt offset base) s) rt (((datum 4).setWidth 32).signExtend 64) ∧
      GprResult s (exec (.lwu rt offset base) s) rt (datum 4) ∧
      linked (exec (.ll rt offset base) s) (((datum 4).setWidth 32).signExtend 64)) ∧
    (CachedLoad s va 8 pa k →
      GprResult s (exec (.ld rt offset base) s) rt (datum 8) ∧ linked (exec (.lld rt offset base) s) (datum 8))

/-- LWL, LWR, LDL and LDR past the caches: only the bytes that the access touches need be readable. LWR of the whole word sign-extends
it, whatever rt held; LWR of a part keeps a sign-extended word one, and otherwise either extends the sign or keeps the upper half of rt
(40_loadstore.md R248 to R251). -/
def Claim.PartialLoadResults : Prop :=
  ∀ (s : State) (rt base : RegNum) (offset : BitVec 16) (pa pd : PAddr), s.leavesSegment = false →
    let va := s.gpr base + BitVec.ofInt 64 offset.toInt
    let byte := fun (v : Word) (j : Nat) => v.extractLsb' (8 * j) 8
    let old := s.gpr rt
    let b4 := va.toNat % 4
    let b8 := va.toNat % 8
    let part := fun (p : PAddr) (skip n : Nat) => s.ramDatum (p + BitVec.ofNat 40 skip) n
    (UncachedPart s (va &&& ~~~3) 4 0 (b4 + 1) pa →
      ∃ v, GprResult s (exec (.lwl rt offset base) s) rt v ∧ isWord v = true ∧
        ∀ j, j < 4 → byte v j = if 3 - b4 ≤ j then byte (part pa 0 (b4 + 1)) (j - (3 - b4)) else byte old j) ∧
    (UncachedPart s (va &&& ~~~3) 4 b4 (4 - b4) pa →
      ∃ v, GprResult s (exec (.lwr rt offset base) s) rt v ∧ (isWord old = true ∨ b4 = 0 → isWord v = true) ∧
        (isWord v = true ∨ v.extractLsb' 32 32 = old.extractLsb' 32 32) ∧
        ∀ j, j < 4 → byte v j = if j + b4 ≤ 3 then byte (part pa b4 (4 - b4)) j else byte old j) ∧
    (UncachedPart s (va &&& ~~~7) 8 0 (b8 + 1) pd →
      ∃ v, GprResult s (exec (.ldl rt offset base) s) rt v ∧
        ∀ j, j < 8 → byte v j = if 7 - b8 ≤ j then byte (part pd 0 (b8 + 1)) (j - (7 - b8)) else byte old j) ∧
    (UncachedPart s (va &&& ~~~7) 8 b8 (8 - b8) pd →
      ∃ v, GprResult s (exec (.ldr rt offset base) s) rt v ∧
        ∀ j, j < 8 → byte v j = if j + b8 ≤ 7 then byte (part pd b8 (8 - b8)) j else byte old j)

/-- LWL, LWR, LDL and LDR that hit the D-cache, with the upper half after LWR as past the caches (40_loadstore.md R248 to R251,
20_memory.md R162). -/
def Claim.CachedPartialLoads : Prop :=
  ∀ (s : State) (rt base : RegNum) (offset : BitVec 16) (pa pd : PAddr) (k : Nat), s.leavesSegment = false →
    let va := s.gpr base + BitVec.ofInt 64 offset.toInt
    let byte := fun (v : Word) (j : Nat) => v.extractLsb' (8 * j) 8
    let old := s.gpr rt
    let b4 := va.toNat % 4
    let b8 := va.toNat % 8
    let part := fun (p : PAddr) (skip n : Nat) => s.lineDatum k (p + BitVec.ofNat 40 skip) n
    (CachedPart s (va &&& ~~~3) 4 0 (b4 + 1) pa k →
      ∃ v, GprResult s (exec (.lwl rt offset base) s) rt v ∧ isWord v = true ∧
        ∀ j, j < 4 → byte v j = if 3 - b4 ≤ j then byte (part pa 0 (b4 + 1)) (j - (3 - b4)) else byte old j) ∧
    (CachedPart s (va &&& ~~~3) 4 b4 (4 - b4) pa k →
      ∃ v, GprResult s (exec (.lwr rt offset base) s) rt v ∧ (isWord old = true ∨ b4 = 0 → isWord v = true) ∧
        (isWord v = true ∨ v.extractLsb' 32 32 = old.extractLsb' 32 32) ∧
        ∀ j, j < 4 → byte v j = if j + b4 ≤ 3 then byte (part pa b4 (4 - b4)) j else byte old j) ∧
    (CachedPart s (va &&& ~~~7) 8 0 (b8 + 1) pd k →
      ∃ v, GprResult s (exec (.ldl rt offset base) s) rt v ∧
        ∀ j, j < 8 → byte v j = if 7 - b8 ≤ j then byte (part pd 0 (b8 + 1)) (j - (7 - b8)) else byte old j) ∧
    (CachedPart s (va &&& ~~~7) 8 b8 (8 - b8) pd k →
      ∃ v, GprResult s (exec (.ldr rt offset base) s) rt v ∧
        ∀ j, j < 8 → byte v j = if j + b8 ≤ 7 then byte (part pd b8 (8 - b8)) j else byte old j)

/-- Loads past the caches. -/
def Obligations.UncachedLoads : Prop := Claim.UncachedLoadResults ∧ Claim.PartialLoadResults

/-- The stores past the caches to RAM: the low bytes of rt, or the part that SWL, SWR, SDL, SDR name, least significant first, and
no other byte (40_loadstore.md R254 to R261, 20_memory.md R131, R161). -/
def Obligations.UncachedStoreResults : Prop :=
  ∀ (s : State) (rt base : RegNum) (offset : BitVec 16) (pa : PAddr), s.leavesSegment = false →
    let va := s.gpr base + BitVec.ofInt 64 offset.toInt
    let v := s.gpr rt
    let b4 := va.toNat % 4
    let b8 := va.toNat % 8
    (UncachedStore s va 1 1 pa → StoreResult s (exec (.sb rt offset base) s) pa 1 v) ∧
    (UncachedStore s va 2 2 pa → StoreResult s (exec (.sh rt offset base) s) pa 2 v) ∧
    (UncachedStore s va 4 4 pa → StoreResult s (exec (.sw rt offset base) s) pa 4 v) ∧
    (UncachedStore s va 8 8 pa → StoreResult s (exec (.sd rt offset base) s) pa 8 v) ∧
    (UncachedStore s (va - BitVec.ofNat 64 b4) 1 (b4 + 1) pa →
      StoreResult s (exec (.swl rt offset base) s) pa (b4 + 1)
        (((BitVec.ofNat 32 v.toNat) >>> (8 * (3 - b4))).setWidth 64)) ∧
    (UncachedStore s va 1 (4 - b4) pa → StoreResult s (exec (.swr rt offset base) s) pa (4 - b4) v) ∧
    (UncachedStore s (va - BitVec.ofNat 64 b8) 1 (b8 + 1) pa →
      StoreResult s (exec (.sdl rt offset base) s) pa (b8 + 1) (v >>> (8 * (7 - b8)))) ∧
    (UncachedStore s va 1 (8 - b8) pa → StoreResult s (exec (.sdr rt offset base) s) pa (8 - b8) v)

/-- The stores that hit the D-cache, SWL, SWR, SDL and SDR among them, modify that line only; main memory keeps its bytes
(40_loadstore.md R254 to R261, 20_memory.md R162). -/
def Claim.CachedStoreResults : Prop :=
  ∀ (s : State) (rt base : RegNum) (offset : BitVec 16) (pa : PAddr) (k : Nat), s.leavesSegment = false →
    let va := s.gpr base + BitVec.ofInt 64 offset.toInt
    let v := s.gpr rt
    let b4 := va.toNat % 4
    let b8 := va.toNat % 8
    (CachedStore s va 1 1 pa k → LineStoreResult s (exec (.sb rt offset base) s) pa k 1 v) ∧
    (CachedStore s va 1 (4 - b4) pa k → LineStoreResult s (exec (.swr rt offset base) s) pa k (4 - b4) v) ∧
    (CachedStore s va 1 (8 - b8) pa k → LineStoreResult s (exec (.sdr rt offset base) s) pa k (8 - b8) v) ∧
    (CachedStore s va 2 2 pa k → LineStoreResult s (exec (.sh rt offset base) s) pa k 2 v) ∧
    (CachedStore s va 4 4 pa k → LineStoreResult s (exec (.sw rt offset base) s) pa k 4 v) ∧
    (CachedStore s va 8 8 pa k → LineStoreResult s (exec (.sd rt offset base) s) pa k 8 v) ∧
    (CachedStore s (va - BitVec.ofNat 64 b4) 1 (b4 + 1) pa k →
      LineStoreResult s (exec (.swl rt offset base) s) pa k (b4 + 1)
        (((BitVec.ofNat 32 v.toNat) >>> (8 * (3 - b4))).setWidth 64)) ∧
    (CachedStore s (va - BitVec.ofNat 64 b8) 1 (b8 + 1) pa k →
      LineStoreResult s (exec (.sdl rt offset base) s) pa k (b8 + 1) (v >>> (8 * (7 - b8))))

/-- Loads and stores that hit the D-cache. -/
def Obligations.DataCacheHits : Prop := Claim.CachedLoadResults ∧ Claim.CachedPartialLoads ∧ Claim.CachedStoreResults

/-- The aligned loads that miss the D-cache under every alias fill it through the L2 and take the datum of the new line: from the L2
where it holds the line, else from memory, which fills the L2 too. A modified D-cache line that is replaced goes to the L2 line of its
address, and a line that the L2 replaces takes its L1 copies with it and goes to memory where it or its D-cache copy is modified
(40_loadstore.md R241 to R247, 20_memory.md R162, 10_state.md R109; which way is replaced is free, R110). -/
def Claim.LoadsFill : Prop :=
  ∀ (s : State) (rt base : RegNum) (offset : BitVec 16) (pa : PAddr), s.leavesSegment = false →
    let va := s.gpr base + BitVec.ofInt 64 offset.toInt
    let reaches := fun n : Nat => s.translateAligned .load va n = .pass (pa, 3) ∧ s.gathered pa n = false ∧ s.described pa n = .pass ()
    let datum := fun n : Nat => BitVec.ofNat 64 (lineGet (s.fillData pa) (lineOffset pa) n)
    let fills := fun (i : Instr) (v : Word) => FillingLoad s (exec i s) va pa rt v
    MissesD s va pa → s.watched .load pa = false →
    (reaches 1 → fills (.lb rt offset base) (((datum 1).setWidth 8).signExtend 64) ∧ fills (.lbu rt offset base) (datum 1)) ∧
    (pa.toNat % 2 = 0 → reaches 2 →
      fills (.lh rt offset base) (((datum 2).setWidth 16).signExtend 64) ∧ fills (.lhu rt offset base) (datum 2)) ∧
    (pa.toNat % 4 = 0 → reaches 4 →
      fills (.lw rt offset base) (((datum 4).setWidth 32).signExtend 64) ∧ fills (.lwu rt offset base) (datum 4)) ∧
    (pa.toNat % 8 = 0 → reaches 8 → fills (.ld rt offset base) (datum 8))

/-- The aligned stores that miss the D-cache under every alias fill it in the same way and modify the D-cache line only
(40_loadstore.md R254 to R257, 20_memory.md R162; that a store allocates is entry 7). -/
def Claim.StoresFill : Prop :=
  ∀ (s : State) (rt base : RegNum) (offset : BitVec 16) (pa : PAddr), s.leavesSegment = false →
    let va := s.gpr base + BitVec.ofInt 64 offset.toInt
    let fills := fun (i : Instr) (n : Nat) =>
      s.translateAligned .store va n = .pass (pa, 3) → s.described pa n = .pass () → FillingStore s (exec i s) va pa n (s.gpr rt)
    MissesD s va pa → s.watched .store pa = false →
    fills (.sb rt offset base) 1 ∧ fills (.sh rt offset base) 2 ∧ fills (.sw rt offset base) 4 ∧ fills (.sd rt offset base) 8

/-- Loads and stores that miss the D-cache. -/
def Obligations.CacheMissesFill : Prop := Claim.LoadsFill ∧ Claim.StoresFill

/-- SC and SCD on a D-cache hit at the address of the latest LL or LLD: with LLbit = 1 the store happens and rt is 1; with LLbit = 0
nothing is stored and rt is 0, and so before any LL or LLD too (40_loadstore.md R262, R263, 20_memory.md R180; entry 23). LLbit
afterwards is open (R181). -/
def Obligations.StoreConditionalResults : Prop :=
  ∀ (s : State) (rt base : RegNum) (offset : BitVec 16) (pa : PAddr) (k n : Nat) (i : Instr), s.leavesSegment = false →
    (n = 4 ∧ i = .sc rt offset base) ∨ (n = 8 ∧ i = .scd rt offset base) →
    CachedStore s (s.gpr base + BitVec.ofInt 64 offset.toInt) n n pa k → s.llPa = some pa ∨ s.llPa = none →
    (s.llBit = true →
      ∃ t, exec i s = .next t ∧ Advanced s t ∧ t.gpr rt = (if rt = 0 then 0 else 1) ∧ (∀ r, r ≠ rt → t.gpr r = s.gpr r) ∧
        (t.dline k).data = lineSet (s.dline k).data (lineOffset pa) n (s.gpr rt).toNat ∧ (t.dline k).dirty = true ∧
        (∀ j, j ≠ k → t.dline j = s.dline j) ∧ (∀ a, t.byteAt a = s.byteAt a) ∧
        t = { s with gprs := t.gprs, caches := { s.caches with dcache := t.caches.dcache }, raced := t.raced, code := t.code,
                     llBit := t.llBit, pc := t.pc, delay := t.delay }) ∧
    (s.llBit = false →
      ∃ t, exec i s = .next t ∧ Advanced s t ∧ t.gpr rt = 0 ∧ (∀ r, r ≠ rt → t.gpr r = s.gpr r) ∧
        (∀ a, t.byteAt a = s.byteAt a) ∧ t = { s with gprs := t.gprs, llBit := t.llBit, pc := t.pc, delay := t.delay })

/-- An uncached-accelerated doubleword store to RAM waits in the empty gather buffer, memory unchanged; SYNC then writes it, and
leaves no store pending (20_memory.md R163, R175, 40_loadstore.md R264). -/
def Claim.GatheredStoreReachesRamAtSync : Prop :=
  ∀ (s : State) (rt base : RegNum) (offset : BitVec 16) (pa : PAddr), s.leavesSegment = false →
    s.gather = [] → s.translateAligned .store (s.gpr base + BitVec.ofInt 64 offset.toInt) 8 = .pass (pa, 7) →
    s.watched .store pa = false → s.inRam pa 8 →
    ∃ t, exec (.sd rt offset base) s = .next t ∧ Advanced s t ∧ (∀ a, t.byteAt a = s.byteAt a) ∧ (∀ r, t.gpr r = s.gpr r) ∧
      t.gather.length = 1 ∧ t = { s with gather := t.gather, raced := t.raced, code := t.code, pc := t.pc, delay := t.delay } ∧
      (t.leavesSegment = false → ∃ u, exec .sync t = .next u ∧ u.gather = [] ∧ Advanced t u ∧ StoresBytes s u pa 8 (s.gpr rt) ∧
        (∀ r, u.gpr r = s.gpr r) ∧
        u = { s with memory := u.memory, raced := u.raced, code := u.code, gather := [], pc := u.pc, delay := u.delay })

/-- When a store with attribute 7 goes on from the waiting ones: where none waits, or it is of the same type as the last of them, next
after it, and in the same block of 32 bytes (20_memory.md R163). That the type is the number of bytes stored, that next means the
address right after the last store, and that a block is an aligned line are the model's choice (entry 9). -/
def Claim.StoresGather : Prop :=
  ∀ (s : State) (pa : PAddr) (n : Nat),
    (s.gather = [] → s.gatherContinues pa n = true) ∧
    ∀ (earlier : List GatheredStore) (g : GatheredStore), s.gather = earlier ++ [g] →
      (s.gatherContinues pa n = true ↔ g.size = n ∧ pa.toNat = g.pa.toNat + g.size ∧ pa.toNat / 32 = g.pa.toNat / 32)

/-- The stores with attribute 7, the FPU's and the partial ones among them: they wait behind the stores that they go on from, or
after those are issued, and 32 bytes are issued as one block (20_memory.md R163, 40_loadstore.md R254 to R261,
47_fpu_move_branch.md R512, R513; entry 9). -/
def Claim.AcceleratedStores : Prop :=
  ∀ (s : State) (rt base : RegNum) (offset : BitVec 16) (pa : PAddr), s.leavesSegment = false →
    let va := s.gpr base + BitVec.ofInt 64 offset.toInt
    let v := s.gpr rt
    let b4 := va.toNat % 4
    let b8 := va.toNat % 8
    let waits := fun (i : Instr) (n : Nat) (v : Word) => GatherResult s (exec i s) pa n v
    (AcceleratedStore s va 1 1 pa → waits (.sb rt offset base) 1 v) ∧
    (AcceleratedStore s va 2 2 pa → waits (.sh rt offset base) 2 v) ∧
    (AcceleratedStore s va 4 4 pa → waits (.sw rt offset base) 4 v ∧
      (s.cp1Usable = true → waits (.swc1 rt offset base) 4 ((s.fprW rt).setWidth 64))) ∧
    (AcceleratedStore s va 8 8 pa → waits (.sd rt offset base) 8 v ∧
      (s.cp1Usable = true → s.evenFprs [rt] = true → waits (.sdc1 rt offset base) 8 (s.fprD rt))) ∧
    (AcceleratedStore s (va - BitVec.ofNat 64 b4) 1 (b4 + 1) pa →
      waits (.swl rt offset base) (b4 + 1) (((BitVec.ofNat 32 v.toNat) >>> (8 * (3 - b4))).setWidth 64)) ∧
    (AcceleratedStore s va 1 (4 - b4) pa → waits (.swr rt offset base) (4 - b4) v) ∧
    (AcceleratedStore s (va - BitVec.ofNat 64 b8) 1 (b8 + 1) pa → waits (.sdl rt offset base) (b8 + 1) (v >>> (8 * (7 - b8)))) ∧
    (AcceleratedStore s va 1 (8 - b8) pa → waits (.sdr rt offset base) (8 - b8) v)

/-- SYNC with no store pending and no stored code on its way changes nothing but the pc; otherwise it issues the pending stores, and
ends the sequence for stored code: of words stored past the caches for fetches past them, and of words stored through the D-cache for
fetches through each I-cache set that has been invalidated since their line was written back (40_loadstore.md R264, 20_memory.md
R175, R185; entry 8). -/
def Claim.SyncCompletes : Prop :=
  ∀ s : State, s.leavesSegment = false → (s.gather = [] → s.code = [] → NoEffect s (exec .sync s)) ∧
    ∃ t, exec .sync s = .next t ∧ Advanced s t ∧ t.gather = [] ∧ (∀ r, t.gpr r = s.gpr r) ∧ t.cp0 = s.cp0 ∧
      t.caches = s.caches ∧
      (∀ v ∈ t.code, (v.past = true → .uncached ∈ v.settled) ∧
        (v.past = false → ∀ c ∈ v.invalidated, .cached c ∈ v.settled)) ∧
      t = { s.drainGather with code := t.code, pc := t.pc, delay := t.delay }

/-- The gather buffer and SYNC. -/
def Obligations.PendingStoresAndSync : Prop :=
  Claim.GatheredStoreReachesRamAtSync ∧ Claim.StoresGather ∧ Claim.AcceleratedStores ∧ Claim.SyncCompletes

/-- A datum that SD or SW stores through the D-cache or past the caches is what LD or LW at the same address loads next, whatever
other copies of the line there are (20_memory.md R170). -/
def Claim.StoreThenLoad : Prop :=
  ∀ (s : State) (rt rd base : RegNum) (offset : BitVec 16) (pa : PAddr) (c : BitVec 3) (n : Nat), s.leavesSegment = false →
    rd ≠ 0 → c = 2 ∨ c = 3 → n = 4 ∨ n = 8 → pa.toNat % n = 0 →
    let va := s.gpr base + BitVec.ofInt 64 offset.toInt
    let store := if n = 8 then Instr.sd rt offset base else .sw rt offset base
    let load := if n = 8 then Instr.ld rd offset base else .lw rd offset base
    s.translateAligned .store va n = .pass (pa, c) → s.translateAligned .load va n = .pass (pa, c) →
    s.watched .store pa = false → s.watched .load pa = false → s.gather = [] → s.inRam pa n →
    (c = 3 → ∃ k, s.dHits (l1Set va) pa = [k]) →
    ∃ t, exec store s = .next t ∧ (t.leavesSegment = false → ∃ u, exec load t = .next u ∧
      u.gpr rd = if n = 8 then s.gpr rt else (BitVec.ofNat 32 (s.gpr rt).toNat).signExtend 64)

/-- What a read of copies that disagree may return: past the caches, memory or a modified copy; through the D-cache, the line's own
bytes, those of a copy under another alias, or memory's where the byte was last stored past the caches (20_memory.md R165, R196;
entry 8). A byte that was last stored through the reader's own attribute and alias is the line's own, whatever other copies there
are (R170), and so is every byte where no byte was stored past the caches and there is no copy under another alias. -/
def Claim.RacesAreBounded : Prop :=
  ∀ (s : State) (va : Word) (pa : PAddr) (n own : Nat),
    let past := s.uncachedValue 1 pa n []
    let cached := s.cachedValue va pa n own
    (past = s.readBytes pa n ∨ ∃ places, ∃ other ∈ s.inModified pa n, past = takeBytes places (s.readBytes pa n) other) ∧
    (cached = own ∨ cached = takeBytes (s.ownPlaces .uncached pa n) own (s.readBytes pa n) ∨
      ∃ k ∈ s.touchedD pa, keyColour k ≠ va.extractLsb' 12 2 ∧
        cached = takeBytes (s.otherPlaces (cachedView va) pa n) own (lineGet (s.dline k).data (lineOffset pa) n)) ∧
    ((∀ i, i < n → ({ address := pa.toNat + i, view := cachedView va } : RacedByte) ∈ s.raced) → cached = own) ∧
    ((∀ i, i < n → ({ address := pa.toNat + i, view := .uncached } : RacedByte) ∉ s.raced) →
      (∀ k ∈ s.touchedD pa, keyColour k = va.extractLsb' 12 2) → cached = own) ∧
    (s.unmodified pa → past = s.readBytes pa n)

/-- Loads after stores to the same place, and loads of copies that disagree. -/
def Obligations.LoadsAfterStores : Prop := Claim.StoreThenLoad ∧ Claim.RacesAreBounded

/-- After SW hits the D-cache, a fetch of the word may return the old content or the new one. The new content is a version of the word
for every view, and the sequence begins again for all of them. Where no version was known, the old content is the one that the store
found. Where versions were known, each stays a version for the views that it was not settled for, and for no other; for those, the old
content is what lies below: the L2's word or memory's for cached fetches, memory's for fetches past the caches (20_memory.md
R185; entry 8). -/
def Claim.StoredCodeRaces : Prop :=
  ∀ (s : State) (rt base : RegNum) (offset : BitVec 16) (pa : PAddr) (k : Nat), s.leavesSegment = false → pa.toNat % 4 = 0 →
    CachedStore s (s.gpr base + BitVec.ofInt 64 offset.toInt) 4 4 pa k →
    let w := pa.toNat / 4
    let is := fun (v : CodeVersion) (n : Nat) => v.word = w ∧ v.value = BitVec.ofNat 32 n
    let known := ∃ u ∈ s.code, u.word = w
    let new := (s.gpr rt).toNat
    let found := lineGet (s.dline k).data (lineOffset pa) 4
    ∃ t, exec (.sw rt offset base) s = .next t ∧
      (∃ v ∈ t.code, is v new ∧ v.settled = []) ∧
      (¬known → ∃ v ∈ t.code, is v found ∧ v.settled = []) ∧
      (known → (∃ v ∈ t.code, is v (s.belowWord w) ∧ ∀ c, .cached c ∉ v.settled) ∧
        ∃ v ∈ t.code, is v (s.memoryWord w) ∧ .uncached ∉ v.settled) ∧
      (∀ u ∈ s.code, ∃ v ∈ t.code, v.word = u.word ∧ v.value = u.value ∧ v.settled = u.settled) ∧
      ∀ v ∈ t.code, v.word = w → v.past = false ∧ v.pushed = false ∧ v.invalidated = [] ∧
        (is v new ∨ (∃ u ∈ s.code, u.word = w ∧ v.value = u.value ∧ v.settled = u.settled) ∨ (¬known ∧ is v found) ∨
          (known ∧ is v (s.belowWord w) ∧ .uncached ∈ v.settled) ∨
          (known ∧ is v (s.memoryWord w) ∧ ∀ c, .cached c ∈ v.settled))

/-- The word below the first-level caches is that of the L2's copy of the line, and memory's where the L2 holds none. -/
def Claim.WordBelow : Prop :=
  ∀ (s : State) (pa : PAddr), pa.toNat % 4 = 0 →
    (∀ k, s.touchedL2 pa = [k] → s.belowWord (pa.toNat / 4) = lineGet (s.l2line k).data (lineOffset pa) 4) ∧
    (s.touchedL2 pa = [] → s.belowWord (pa.toNat / 4) = s.readBytes pa 4) ∧ s.memoryWord (pa.toNat / 4) = s.readBytes pa 4

/-- A cached fetch that hits answers the word of its line or a version of it, and nothing else (20_memory.md R185). -/
def Claim.FetchOfStoredCode : Prop :=
  ∀ (s : State) (pa : PAddr) (k : Nat), s.translateAligned .fetch s.pc 4 = .pass (pa, 3) → s.iHits (l1Set s.pc) pa = [k] →
    s.described pa 4 = .pass () → ∃ w, s.fetch = .ok w s ∧ (w = BitVec.ofNat 32 (lineGet (s.iline k).data (lineOffset pa) 4) ∨
      ∃ v ∈ s.code, v.word = pa.toNat / 4 ∧ cachedView s.pc ∉ v.settled ∧ w = v.value)

/-- The sequence for stored code: Hit WriteBack Invalidate (D), Index Invalidate (I) and SYNC settle every version of every word of the
line for fetches at the address, so such a fetch is no race any more and finds no old copy (20_memory.md R185,
70_reset_and_hazards.md R715). -/
def Claim.SequenceSettlesCode : Prop :=
  ∀ (s : State) (va : Word) (pa : PAddr) (k : Nat), s.dHits (l1Set va) pa = [k] → s.dCopies pa = [k] →
    l1Set va % 128 = lineNumber pa % 128 → (∀ v ∈ s.code, v.word / 8 = lineNumber pa → v.past = false) →
    let pushed := s.cacheHitWriteBackInvalidateD va pa
    let t := (pushed.cacheIndexInvalidateI va).drainGather.syncCode
    (∀ v ∈ t.code, v.word / 8 = lineNumber pa → cachedView va ∈ v.settled) ∧ t.iHits (l1Set va) pa = [] ∧ t.dCopies pa = []

/-- The sequence is needed whole, and at the address: SYNC settles no version for a cached view whose I-cache set has not been
invalidated before it, Index Invalidate (I) counts for its own VA[13:12] only, and for a word stored through the D-cache only after
the line is written back; a word stored past the caches is not settled for cached fetches either while a copy shows old bytes
(20_memory.md R185, 70_reset_and_hazards.md R715; entry 8). -/
def Claim.SequenceIsNeeded : Prop :=
  ∀ (s : State) (va : Word),
    (∀ v ∈ s.syncCode.code, ∃ u ∈ s.code, v.word = u.word ∧ v.value = u.value ∧
      ∀ c, .cached c ∈ v.settled → .cached c ∈ u.settled ∨ (c ∈ u.invalidated ∧ (u.past = true → s.staleCopy u.word = false))) ∧
    (∀ v ∈ (s.cacheIndexInvalidateI va).code, ∃ u ∈ s.code, v.word = u.word ∧ v.value = u.value ∧ v.settled = u.settled ∧
      ∀ c ∈ v.invalidated, c ∈ u.invalidated ∨
        (c = va.extractLsb' 12 2 ∧ v.word / 8 % 128 = va.toNat / 32 % 128 ∧ (u.past = false → u.pushed = true)))

/-- Stored code: the race, what a fetch may return in it, and the sequence that ends it. -/
def Obligations.StoredCode : Prop :=
  Claim.StoredCodeRaces ∧ Claim.WordBelow ∧ Claim.FetchOfStoredCode ∧ Claim.SequenceSettlesCode ∧ Claim.SequenceIsNeeded

/-- A load or fetch that reaches an absent address in any of its bytes, or whose fill does, takes the bus error exception, precisely;
a store there raises nothing and leaves memory alone (20_memory.md R192, 60_exceptions.md R627). R192, R627 and D26 give no order
between the bus error and the refusal of an address that RAM_MAP does not describe: that the bus error comes first where a load, a
fetch or a fill reaches addresses of both kinds is the model's choice (DESIGN CHOICE, entry 38). -/
def Claim.BusErrors : Prop :=
  ∀ (s : State) (rt base : RegNum) (offset : BitVec 16) (pa : PAddr),
    let va := s.gpr base + BitVec.ofInt 64 offset.toInt
    (s.watched .load pa = false → s.gather = [] →
      ∀ p ∈ ([(1, Instr.lb rt offset base), (1, .lbu rt offset base), (2, .lh rt offset base), (2, .lhu rt offset base),
          (4, .lw rt offset base), (4, .lwu rt offset base), (8, .ld rt offset base)] : List (Nat × Instr)),
        (s.passesUncached .load va p.1 pa → some .absent ∈ s.kindsOf pa p.1 → Takes s (exec p.2 s) .busData) ∧
        (s.translateAligned .load va p.1 = .pass (pa, 3) → s.dHits (l1Set va) pa = [] → s.l2Hits pa = [] →
          some .absent ∈ s.kindsOf (lineBase pa) 32 → Takes s (exec p.2 s) .busData)) ∧
    (s.passesUncached .fetch s.pc 4 pa → some .absent ∈ s.kindsOf pa 4 → s.fetch = .raise .busFetch s) ∧
    (s.leavesSegment = false → s.gather = [] → s.translateAligned .store va 8 = .pass (pa, 2) → s.watched .store pa = false →
      (∀ x ∈ s.kindsOf pa 8, x = some .absent) →
      ∃ t, exec (.sd rt offset base) s = .next t ∧ Advanced s t ∧
        t = { s with raced := t.raced, code := t.code, pc := t.pc, delay := t.delay })

/-- A load past the caches from a device completes with some value, and a store to it completes (00_scope.md R18; entry 38); the DDR
configuration register reads as written, but for bits 31:30 (60_exceptions.md R656), and the sample-point register in bits 1:0, unless they
are 11 (R657); what they keep of the other bits, and that a sample point of 11 reads as any value, is the model's choice (entry 37). -/
def Claim.DeviceAccesses : Prop :=
  ∀ (s : State) (rt base : RegNum) (offset : BitVec 16) (pa : PAddr), s.leavesSegment = false → s.gather = [] →
    let va := s.gpr base + BitVec.ofInt 64 offset.toInt
    (s.watched .load pa = false →
      ∀ p ∈ ([(1, Instr.lb rt offset base), (1, .lbu rt offset base), (2, .lh rt offset base), (2, .lhu rt offset base),
          (4, .lw rt offset base), (4, .lwu rt offset base), (8, .ld rt offset base)] : List (Nat × Instr)),
        s.passesUncached .load va p.1 pa → (∀ x ∈ s.kindsOf pa p.1, x = some .device) → ∃ v, GprResult s (exec p.2 s) rt v) ∧
    (s.watched .store pa = false → s.translateAligned .store va 4 = .pass (pa, 2) → (∀ x ∈ s.kindsOf pa 4, x = some .device) →
      ∃ t, exec (.sw rt offset base) s = .next t ∧ Advanced s t ∧ (∀ a, t.byteAt a = s.byteAt a) ∧ (∀ r, t.gpr r = s.gpr r) ∧
        t = { s with ddrConfig := t.ddrConfig, ddrSample := t.ddrSample, ddrReady := t.ddrReady, sampleReady := t.sampleReady,
                     raced := t.raced, code := t.code, pc := t.pc, delay := t.delay }) ∧
    (s.watched .store pa = false → s.translateAligned .store va 4 = .pass (pa, 2) → pa = 0x1FF00008 →
      ∃ t, exec (.sw rt offset base) s = .next t ∧ Advanced s t ∧ t.ddrConfig = BitVec.ofNat 32 (s.gpr rt).toNat ∧
        t.ddrReady = true ∧ t.ddrConfigRead.extractLsb' 0 30 = t.ddrConfig.extractLsb' 0 30 ∧
        t = { s with ddrConfig := t.ddrConfig, ddrReady := true, raced := t.raced, code := t.code, pc := t.pc, delay := t.delay }) ∧
    (s.watched .load pa = false → s.translateAligned .load va 4 = .pass (pa, 2) → pa = 0x1FF00008 → s.unmodified pa →
      GprResult s (exec (.lw rt offset base) s) rt (s.ddrConfigRead.signExtend 64)) ∧
    (s.watched .store pa = false → s.translateAligned .store va 4 = .pass (pa, 2) → pa = 0x1FF00030 →
      ∃ t, exec (.sw rt offset base) s = .next t ∧ Advanced s t ∧ t.ddrSample = BitVec.ofNat 32 (s.gpr rt).toNat ∧
        t.sampleReady = true ∧
        (t.ddrSample.extractLsb' 0 2 ≠ 3 → t.ddrSampleRead.extractLsb' 0 2 = t.ddrSample.extractLsb' 0 2) ∧
        t = { s with ddrSample := t.ddrSample, sampleReady := true, raced := t.raced, code := t.code, pc := t.pc, delay := t.delay }) ∧
    (s.watched .load pa = false → s.translateAligned .load va 4 = .pass (pa, 2) → pa = 0x1FF00030 → s.unmodified pa →
      GprResult s (exec (.lw rt offset base) s) rt (s.ddrSampleRead.signExtend 64) ∧
      (s.sampleReady = true → s.ddrSample.extractLsb' 0 2 ≠ 3 → s.ddrSampleRead.extractLsb' 0 2 = s.ddrSample.extractLsb' 0 2))

/-- An access that reaches an address that RAM_MAP does not describe is refused, past the caches and through them, where it hits a line
too (20_memory.md R192, D26). That a load or fetch which reaches an absent address as well, itself or by its fill, takes the bus error and
is not refused is the model's choice, of which R192, R627 and D26 say nothing (DESIGN CHOICE, entry 38). -/
def Claim.UndescribedRefused : Prop :=
  ∀ (s : State) (rt base : RegNum) (offset : BitVec 16) (pa : PAddr) (c : BitVec 3),
    let va := s.gpr base + BitVec.ofInt 64 offset.toInt
    let stops := fun (i : Instr) => exec i s = .refused .undescribedAddress
    (s.watched .load pa = false → s.gather = [] →
      ∀ p ∈ ([(1, Instr.lb rt offset base), (1, .lbu rt offset base), (2, .lh rt offset base), (2, .lhu rt offset base),
          (4, .lw rt offset base), (4, .lwu rt offset base), (8, .ld rt offset base)] : List (Nat × Instr)),
        none ∈ s.kindsOf pa p.1 →
        (s.passesUncached .load va p.1 pa → some .absent ∉ s.kindsOf pa p.1 → stops p.2) ∧
        (s.translateAligned .load va p.1 = .pass (pa, 3) → s.dHits (l1Set va) pa ≠ [] ∨ s.l2Hits pa ≠ [] → stops p.2)) ∧
    (s.watched .store pa = false → c = 2 ∨ c = 7 ∨ (c = 3 ∧ (s.dHits (l1Set va) pa ≠ [] ∨ s.l2Hits pa ≠ [])) →
      ∀ p ∈ ([(1, Instr.sb rt offset base), (2, .sh rt offset base), (4, .sw rt offset base), (8, .sd rt offset base)] :
          List (Nat × Instr)),
        none ∈ s.kindsOf pa p.1 → s.translateAligned .store va p.1 = .pass (pa, c) → stops p.2) ∧
    (none ∈ s.kindsOf pa 4 →
      (s.passesUncached .fetch s.pc 4 pa → some .absent ∉ s.kindsOf pa 4 → s.fetch = .refuse .undescribedAddress) ∧
      (s.translateAligned .fetch s.pc 4 = .pass (pa, 3) → s.iHits (l1Set s.pc) pa ≠ [] ∨ s.l2Hits pa ≠ [] →
        s.fetch = .refuse .undescribedAddress)) ∧
    (none ∈ s.kindsOf (lineBase pa) 32 → some .absent ∉ s.kindsOf (lineBase pa) 32 → s.l2Hits pa = [] →
      (s.iHits (l1Set s.pc) pa = [] → s.translateAligned .fetch s.pc 4 = .pass (pa, 3) → s.fetch = .refuse .undescribedAddress) ∧
      (s.dHits (l1Set va) pa = [] → s.watched .load pa = false → s.gather = [] → s.translateAligned .load va 8 = .pass (pa, 3) →
        stops (.ld rt offset base)) ∧
      (s.dHits (l1Set va) pa = [] → s.watched .store pa = false → s.translateAligned .store va 8 = .pass (pa, 3) →
        stops (.sd rt offset base)))

/-- What lies behind physical addresses: absent ranges, devices, the two registers of the DDR controller, and addresses that RAM_MAP
does not describe; the bus error before the refusal where an access or a fill reaches both kinds is the model's choice (entry 38). -/
def Obligations.MemoryMapAnswers : Prop := Claim.BusErrors ∧ Claim.DeviceAccesses ∧ Claim.UndescribedRefused

/-- An access is watched where bits 39:3 of its physical address are WatchHi[7:0] over WatchLo[31:3], for a load with WatchLo.R and for
a store with WatchLo.W; a fetch never is (20_memory.md R197, 10_state.md R72, R73). -/
def Claim.WatchMatches : Prop :=
  ∀ (s : State) (kind : Access) (pa : PAddr), s.watched kind pa = true ↔
    pa.toNat / 8 = s.cp0.watchHi.toNat * 2 ^ 29 + s.cp0.watchLo.paddr0.toNat ∧
    ((kind = .load ∧ s.cp0.watchLo.r = true) ∨ (kind = .store ∧ s.cp0.watchLo.w = true))

/-- Watch at level 0: every load and store of the watched doubleword, cached or not, takes the Watch exception and transfers nothing:
from the state it began in, or for a cached one that misses from that after the fill of its line alone, where the fill succeeds
(20_memory.md R197, 60_exceptions.md R667). That a fill that fails does not show is the model's choice (entry 35). -/
def Claim.WatchTraps : Prop :=
  ∀ (s : State) (rt base : RegNum) (offset : BitVec 16) (pa : PAddr) (c : BitVec 3),
    s.cp0.status.exl = false → s.cp0.status.erl = false →
    let va := s.gpr base + BitVec.ofInt 64 offset.toInt
    let b4 := BitVec.ofNat 64 (va.toNat % 4)
    let b8 := BitVec.ofNat 64 (va.toNat % 8)
    let traps := fun (a : Word) (i : Instr) =>
      (c ≠ 3 ∨ s.dHits (l1Set a) pa ≠ [] ∨ (∀ k t, s.ensureD a pa ≠ .ok k t) → Takes s (exec i s) .watch) ∧
      (∀ k t, c = 3 → s.ensureD a pa = .ok k t → Takes t (exec i s) .watch) ∧
      ∃ t : State, exec i s = .next (t.takeException .watch) ∧ (∀ r, t.gpr r = s.gpr r) ∧
        t = { s with caches := t.caches, memory := t.memory, raced := t.raced, ddrConfig := t.ddrConfig, ddrSample := t.ddrSample,
                     ddrReady := t.ddrReady, sampleReady := t.sampleReady }
    (s.watched .load pa = true →
      (∀ p ∈ ([(1, va, .lb rt offset base), (1, va, .lbu rt offset base), (2, va, .lh rt offset base), (2, va, .lhu rt offset base),
          (4, va, .lw rt offset base), (4, va, .lwu rt offset base), (8, va, .ld rt offset base), (4, va, .ll rt offset base),
          (8, va, .lld rt offset base), (4, va &&& ~~~3, .lwl rt offset base), (4, va &&& ~~~3, .lwr rt offset base),
          (8, va &&& ~~~7, .ldl rt offset base), (8, va &&& ~~~7, .ldr rt offset base)] : List (Nat × Word × Instr)),
        s.translateAligned .load p.2.1 p.1 = .pass (pa, c) → traps p.2.1 p.2.2) ∧
      (s.cp1Usable = true → s.translateAligned .load va 4 = .pass (pa, c) → traps va (.lwc1 rt offset base)) ∧
      (s.cp1Usable = true → s.evenFprs [rt] = true → s.translateAligned .load va 8 = .pass (pa, c) →
        traps va (.ldc1 rt offset base))) ∧
    (s.watched .store pa = true →
      (∀ p ∈ ([(1, va, .sb rt offset base), (2, va, .sh rt offset base), (4, va, .sw rt offset base), (8, va, .sd rt offset base),
          (4, va, .sc rt offset base), (8, va, .scd rt offset base), (1, va - b4, .swl rt offset base), (1, va, .swr rt offset base),
          (1, va - b8, .sdl rt offset base), (1, va, .sdr rt offset base)] : List (Nat × Word × Instr)),
        s.translateAligned .store p.2.1 p.1 = .pass (pa, c) → traps p.2.1 p.2.2) ∧
      (s.cp1Usable = true → s.translateAligned .store va 4 = .pass (pa, c) → traps va (.swc1 rt offset base)) ∧
      (s.cp1Usable = true → s.evenFprs [rt] = true → s.translateAligned .store va 8 = .pass (pa, c) →
        traps va (.sdc1 rt offset base)))

/-- Watch at EXL = 1 or ERL = 1: the aligned loads and stores, past the caches and on a D-cache hit, complete as in the state that has
the Watch pending (60_exceptions.md R668). -/
def Claim.WatchDefers : Prop :=
  ∀ (s : State) (rt base : RegNum) (offset : BitVec 16) (pa : PAddr) (k : Nat), s.leavesSegment = false →
    s.cp0.status.exl = true ∨ s.cp0.status.erl = true →
    let va := s.gpr base + BitVec.ofInt 64 offset.toInt
    let p := { s with pendingWatch := true }
    (s.watched .load pa = true →
      ∀ q ∈ ([(1, .lb rt offset base, fun d => (d.setWidth 8).signExtend 64), (1, .lbu rt offset base, fun d => d),
          (2, .lh rt offset base, fun d => (d.setWidth 16).signExtend 64), (2, .lhu rt offset base, fun d => d),
          (4, .lw rt offset base, fun d => (d.setWidth 32).signExtend 64), (4, .lwu rt offset base, fun d => d),
          (8, .ld rt offset base, fun d => d)] : List (Nat × Instr × (Word → Word))),
        s.gathered pa q.1 = false →
        (s.passesUncached .load va q.1 pa → s.inMemory pa q.1 → s.unmodified pa →
          GprResult p (exec q.2.1 s) rt (q.2.2 (s.ramDatum pa q.1))) ∧
        (s.translateAligned .load va q.1 = .pass (pa, 3) → s.described pa q.1 = .pass () → s.dHits (l1Set va) pa = [k] →
          s.notRaced va pa q.1 →
          GprResult p (exec q.2.1 s) rt (q.2.2 (s.lineDatum k pa q.1)))) ∧
    (s.watched .store pa = true →
      ∀ q ∈ ([(1, .sb rt offset base), (2, .sh rt offset base), (4, .sw rt offset base), (8, .sd rt offset base)] :
          List (Nat × Instr)),
        (s.translateAligned .store va q.1 = .pass (pa, 2) → s.inRam pa q.1 → StoreResult p (exec q.2 s) pa q.1 (s.gpr rt)) ∧
        (s.translateAligned .store va q.1 = .pass (pa, 3) → s.described pa q.1 = .pass () → s.dHits (l1Set va) pa = [k] →
          LineStoreResult p (exec q.2 s) pa k q.1 (s.gpr rt)))

/-- A pending Watch is taken by the next step at level 0 (60_exceptions.md R668). That it is taken before an interrupt that is due, and
that taking it clears the pending bit, are the model's choice (entries 35 and 42). -/
def Claim.PendingWatchIsTaken : Prop :=
  ∀ s : State, s.pins.coldReset = false → s.pins.softReset = false → s.pins.nmi = false → s.mode ≠ .undefined →
    s.pendingWatch = true → s.cp0.status.exl = false → s.cp0.status.erl = false →
    ∃ t, step s = .next t ∧ t.cp0.cause.excCode = 23 ∧ t.cp0.epc = s.restartPc ∧ t.cp0.status.exl = true ∧
      t.pendingWatch = false ∧ t.pc = s.vectorBase + 0x180 ∧ (∀ r, t.gpr r = s.gpr r) ∧ ∀ a, t.byteAt a = s.byteAt a

/-- The Watch registers: what they watch, traps, deferral, and the deferred exception. -/
def Obligations.WatchTrapsOrDefers : Prop := Claim.WatchMatches ∧ Claim.WatchTraps ∧ Claim.WatchDefers ∧ Claim.PendingWatchIsTaken

/-- The forms that the spec leaves without behaviour stop by name: a CP0 or FPU control register without a name, a PageMask outside
Table 5-6, a CACHE operation outside Table 8-3 or on uncached space where its address translates (that it first takes the exception of
an address that does not is the model's choice, entry 54), LL, LLD, SC and SCD on an uncached location or on another address than
the link's, a load of bytes that a gathered store has still to write (where it also reaches an absent address, that the refusal comes
before the bus error is the model's choice, entries 9 and 38), a 1 in a reserved bit of Status, a write that
clears Config.IB or DB, a coprocessor 2 word with CU2 = 1 (93_implementation_defined.md U2, U6, U7, U13, U16, U19, U29, U34,
U35). -/
def Obligations.FormsRefused : Prop :=
  ∀ (s : State) (rt rd base : RegNum) (op : BitVec 5) (offset : BitVec 16) (pa p : PAddr) (c : BitVec 3) (w : Word32),
    let va := s.gpr base + BitVec.ofInt 64 offset.toInt
    (s.cp0Usable = true →
      (cp0Named rd = false → ∀ i ∈ [Instr.mfc0 rt rd, .mtc0 rt rd, .dmfc0 rt rd, .dmtc0 rt rd],
        exec i s = .refused .unnamedCp0Register) ∧
      (pageMaskLegal s.cp0.pageMask = false → exec .tlbwi s = .refused .undefinedPageMask ∧
        exec .tlbwr s = .refused .undefinedPageMask) ∧
      (s.translate .load va = .pass (pa, c) → cacheOpListed op = false →
        exec (.cache op offset base) s = .refused .undefinedCacheOp) ∧
      (s.translate .load va = .pass (pa, c) → cacheOpListed op = true → c ≠ 3 →
        exec (.cache op offset base) s = .refused .uncachedCacheOp) ∧
      ((s.gpr rt).extractLsb' 0 32 &&& 0x0BAF0000 ≠ 0 → exec (.dmtc0 rt 12) s = .refused .reservedRegisterBit ∧
        exec (.mtc0 rt 12) s = .refused .reservedRegisterBit) ∧
      ((s.gpr rt).extractLsb' 4 2 ≠ 3 → exec (.dmtc0 rt 16) s = .refused .configLineSize ∧
        exec (.mtc0 rt 16) s = .refused .configLineSize)) ∧
    (s.cp1Usable = true → rd ≠ 0 → rd ≠ 31 → exec (.cfc1 rt rd) s = .refused .unnamedFcr ∧
      exec (.ctc1 rt rd) s = .refused .unnamedFcr) ∧
    (s.watched .load pa = false → c ≠ 3 →
      (s.translateAligned .load va 4 = .pass (pa, c) → exec (.ll rt offset base) s = .refused .linkedUncached) ∧
      (s.translateAligned .load va 8 = .pass (pa, c) → exec (.lld rt offset base) s = .refused .linkedUncached)) ∧
    (s.watched .store pa = false →
      (c ≠ 3 → s.translateAligned .store va 4 = .pass (pa, c) → exec (.sc rt offset base) s = .refused .linkedUncached) ∧
      (c ≠ 3 → s.translateAligned .store va 8 = .pass (pa, c) → exec (.scd rt offset base) s = .refused .linkedUncached) ∧
      (s.llPa = some p → p ≠ pa →
        (s.translateAligned .store va 4 = .pass (pa, 3) → exec (.sc rt offset base) s = .refused .linkedAddress) ∧
        (s.translateAligned .store va 8 = .pass (pa, 3) → exec (.scd rt offset base) s = .refused .linkedAddress))) ∧
    (s.watched .load pa = false → c = 2 ∨ c = 3 ∨ c = 7 →
      ∀ q ∈ ([(1, Instr.lb rt offset base), (1, .lbu rt offset base), (2, .lh rt offset base), (2, .lhu rt offset base),
          (4, .lw rt offset base), (4, .lwu rt offset base), (8, .ld rt offset base)] : List (Nat × Instr)),
        s.translateAligned .load va q.1 = .pass (pa, c) → s.gathered pa q.1 = true → exec q.2 s = .refused .gatheredLoad) ∧
    (decode w = .cop2 →
      (s.cp0.status.cu.getLsbD 2 = true → execDecoded (decode w) s = .refused .coprocessor2) ∧
      (s.cp0.status.cu.getLsbD 2 = false → Takes s (execDecoded (decode w) s) (.coprocessorUnusable 2)))

/-! ## FPU moves, loads, branches and compares: 47_fpu_move_branch.md -/

/-- MFC1, MTC1, DMFC1, DMTC1, MOV.S, MOV.D, MOV.PS copy bits and leave FCR31 alone (47_fpu_move_branch.md R502 to R507, R520). -/
def Claim.FpMoveResults : Prop :=
  ∀ (s : State) (rt fs fd : RegNum), s.leavesSegment = false → s.cp1Usable = true →
    GprResult s (exec (.mfc1 rt fs) s) rt ((s.fprW fs).signExtend 64) ∧
    (∃ t, exec (.mtc1 rt fs) s = .next t ∧ Advanced s t ∧ t.fprW fs = BitVec.ofNat 32 (s.gpr rt).toNat ∧ t.fcsr = s.fcsr ∧
      OnlyFprW s t fs) ∧
    (∃ t, exec (.movS fd fs) s = .next t ∧ Advanced s t ∧ t.fprW fd = s.fprW fs ∧ t.fcsr = s.fcsr ∧ OnlyFprW s t fd) ∧
    (s.evenFprs [fs] = true →
      GprResult s (exec (.dmfc1 rt fs) s) rt (s.fprD fs) ∧
      ∃ t, exec (.dmtc1 rt fs) s = .next t ∧ Advanced s t ∧ t.fprD fs = s.gpr rt ∧ t.fcsr = s.fcsr ∧ OnlyFprD s t fs) ∧
    (s.evenFprs [fd, fs] = true → ∀ i ∈ [Instr.movD fd fs, .movPs fd fs],
      ∃ t, exec i s = .next t ∧ Advanced s t ∧ t.fprD fd = s.fprD fs ∧ t.fcsr = s.fcsr ∧ OnlyFprD s t fd)

/-- With FR = 0 an odd 32-bit register is the upper half of the even one below it, and every instruction with an odd register in any
of its 64-bit operands is refused (47_fpu_move_branch.md R501, R502, 10_state.md R92). -/
def Obligations.FpRegisterPairs : Prop :=
  ∀ (s : State) (n : RegNum) (v : Word32), s.cp0.status.fr = false → s.cp1Usable = true →
    (n.getLsbD 0 = false →
      s.fprD n = s.fprW (n + 1) ++ s.fprW n ∧ (s.setFprW (n + 1) v).fprD n = v ++ s.fprW n ∧
      (s.setFprW n v).fprD n = s.fprW (n + 1) ++ v) ∧
    ∀ i : Instr, n ∈ fpPairOperands i → n.getLsbD 0 = true → exec i s = .refused .oddFpRegister

/-- CFC1 reads 0x501 from FCR0 and the whole of FCR31; CTC1 writes FCR31, bits 22:18 forced to 0, and a Cause bit that it leaves
enabled, or Cause E, raises the exception with the written value kept (47_fpu_move_branch.md R508, R509, 10_state.md R95,
R100). -/
def Obligations.FpControlMoves : Prop :=
  ∀ (s : State) (rt : RegNum), s.leavesSegment = false → s.cp1Usable = true →
    let w : Word32 := BitVec.ofNat 32 (s.gpr rt).toNat
    let cause := w.extractLsb' 12 6
    let trapping := cause.getLsbD 5 = true ∨ cause.extractLsb' 0 5 &&& w.extractLsb' 7 5 ≠ 0
    GprResult s (exec (.cfc1 rt 0) s) rt 0x501 ∧
    GprResult s (exec (.cfc1 rt 31) s) rt (s.fcsr.word.signExtend 64) ∧
    NoEffect s (exec (.ctc1 rt 0) s) ∧
    (¬trapping → ∃ t, exec (.ctc1 rt 31) s = .next t ∧ Advanced s t ∧ t.fcsr.word = w &&& 0xFF83FFFF ∧ OnlyFcsr s t) ∧
    (trapping → ∃ f, Fcsr.word f = w &&& 0xFF83FFFF ∧
      exec (.ctc1 rt 31) s = .next ({ s with fcsr := f }.takeException .floatingPoint))

/-- LWC1, LDC1, SWC1, SDC1 past the caches (47_fpu_move_branch.md R510 to R513). -/
def Claim.FpLoadStoreResults : Prop :=
  ∀ (s : State) (ft base : RegNum) (offset : BitVec 16) (pa : PAddr), s.leavesSegment = false → s.cp1Usable = true →
    let va := s.gpr base + BitVec.ofInt 64 offset.toInt
    (UncachedLoad s va 4 pa →
      ∃ t, exec (.lwc1 ft offset base) s = .next t ∧ Advanced s t ∧
        t.fprW ft = s.storedByte (pa + 3).toNat ++ s.storedByte (pa + 2).toNat ++ s.storedByte (pa + 1).toNat ++ s.storedByte pa.toNat ∧
        t.fcsr = s.fcsr ∧ OnlyFprW s t ft) ∧
    (s.evenFprs [ft] = true → UncachedLoad s va 8 pa →
      ∃ t, exec (.ldc1 ft offset base) s = .next t ∧ Advanced s t ∧ t.fprD ft = s.ramDatum pa 8 ∧ t.fcsr = s.fcsr ∧
        OnlyFprD s t ft) ∧
    (UncachedStore s va 4 4 pa →
      StoreResult s (exec (.swc1 ft offset base) s) pa 4 ((s.fprW ft).setWidth 64)) ∧
    (s.evenFprs [ft] = true → UncachedStore s va 8 8 pa →
      StoreResult s (exec (.sdc1 ft offset base) s) pa 8 (s.fprD ft))

/-- LWC1, LDC1, SWC1 and SDC1 that hit the D-cache (47_fpu_move_branch.md R510 to R513, 20_memory.md R162). -/
def Claim.FpCachedLoadStoreResults : Prop :=
  ∀ (s : State) (ft base : RegNum) (offset : BitVec 16) (pa : PAddr) (k : Nat), s.leavesSegment = false → s.cp1Usable = true →
    let va := s.gpr base + BitVec.ofInt 64 offset.toInt
    (CachedLoad s va 4 pa k →
      ∃ t, exec (.lwc1 ft offset base) s = .next t ∧ Advanced s t ∧ t.fprW ft = (s.lineDatum k pa 4).setWidth 32 ∧
        t.fcsr = s.fcsr ∧ OnlyFprW s t ft) ∧
    (s.evenFprs [ft] = true → CachedLoad s va 8 pa k →
      ∃ t, exec (.ldc1 ft offset base) s = .next t ∧ Advanced s t ∧ t.fprD ft = s.lineDatum k pa 8 ∧ t.fcsr = s.fcsr ∧
        OnlyFprD s t ft) ∧
    (CachedStore s va 4 4 pa k → LineStoreResult s (exec (.swc1 ft offset base) s) pa k 4 ((s.fprW ft).setWidth 64)) ∧
    (s.evenFprs [ft] = true → CachedStore s va 8 8 pa k → LineStoreResult s (exec (.sdc1 ft offset base) s) pa k 8 (s.fprD ft))

/-- The FPU moves, loads and stores. -/
def Obligations.FpMovesLoadsAndStores : Prop := Claim.FpMoveResults ∧ Claim.FpLoadStoreResults ∧ Claim.FpCachedLoadStoreResults

/-- The sixteen compares of singles: CC0 takes the predicate of the comparison, Cause V and Flag V record an invalid comparison,
which with Enable V = 1 traps and leaves CC0 (47_fpu_move_branch.md R529 to R545). -/
def Claim.CompareSingleResults : Prop :=
  ∀ (s : State) (fs ft : RegNum), s.leavesSegment = false → s.cp1Usable = true →
    ∀ p ∈ ([(0, Instr.cFS fs ft), (1, .cUnS fs ft), (2, .cEqS fs ft), (3, .cUeqS fs ft), (4, .cOltS fs ft),
        (5, .cUltS fs ft), (6, .cOleS fs ft), (7, .cUleS fs ft), (8, .cSfS fs ft), (9, .cNgleS fs ft),
        (10, .cSeqS fs ft), (11, .cNglS fs ft), (12, .cLtS fs ft), (13, .cNgeS fs ft), (14, .cLeS fs ft),
        (15, .cNgtS fs ft)] : List (BitVec 4 × Instr)),
      let r := FpFormat.single.compare p.1 (s.fprW fs).toNat (s.fprW ft).toNat
      (r.invalid = false → ∃ t, exec p.2 s = .next t ∧ Advanced s t ∧ OnlyFcsr s t ∧
        t.fcsr = { s.fcsr with cause := 0, cc0 := r.result }) ∧
      (r.invalid = true → s.fcsr.enables.getLsbD 4 = false → ∃ t, exec p.2 s = .next t ∧ Advanced s t ∧ OnlyFcsr s t ∧
        t.fcsr = { s.fcsr with cause := 0b010000, flags := s.fcsr.flags ||| 0b10000, cc0 := r.result }) ∧
      (r.invalid = true → s.fcsr.enables.getLsbD 4 = true → FpTraps s (exec p.2 s) 0b010000)

/-- The sixteen compares of doubles: CC0 takes the predicate of the comparison, Cause V and Flag V record an invalid comparison,
which with Enable V = 1 traps and leaves CC0 (47_fpu_move_branch.md R529 to R545). -/
def Claim.CompareDoubleResults : Prop :=
  ∀ (s : State) (fs ft : RegNum), s.leavesSegment = false → s.cp1Usable = true → s.evenFprs [fs, ft] = true →
    ∀ p ∈ ([(0, Instr.cFD fs ft), (1, .cUnD fs ft), (2, .cEqD fs ft), (3, .cUeqD fs ft), (4, .cOltD fs ft),
        (5, .cUltD fs ft), (6, .cOleD fs ft), (7, .cUleD fs ft), (8, .cSfD fs ft), (9, .cNgleD fs ft),
        (10, .cSeqD fs ft), (11, .cNglD fs ft), (12, .cLtD fs ft), (13, .cNgeD fs ft), (14, .cLeD fs ft),
        (15, .cNgtD fs ft)] : List (BitVec 4 × Instr)),
      let r := FpFormat.double.compare p.1 (s.fprD fs).toNat (s.fprD ft).toNat
      (r.invalid = false → ∃ t, exec p.2 s = .next t ∧ Advanced s t ∧ OnlyFcsr s t ∧
        t.fcsr = { s.fcsr with cause := 0, cc0 := r.result }) ∧
      (r.invalid = true → s.fcsr.enables.getLsbD 4 = false → ∃ t, exec p.2 s = .next t ∧ Advanced s t ∧ OnlyFcsr s t ∧
        t.fcsr = { s.fcsr with cause := 0b010000, flags := s.fcsr.flags ||| 0b10000, cc0 := r.result }) ∧
      (r.invalid = true → s.fcsr.enables.getLsbD 4 = true → FpTraps s (exec p.2 s) 0b010000)

/-- The compares of singles and doubles. -/
def Claim.CompareResults : Prop := Claim.CompareSingleResults ∧ Claim.CompareDoubleResults

/-- The sixteen paired-single compares: the lower singles give CC0 and the upper ones CC1, Cause V is that of either, and a trap
leaves both condition bits (47_fpu_move_branch.md R546). -/
def Claim.ComparePairedResults : Prop :=
  ∀ (s : State) (fs ft : RegNum), s.leavesSegment = false → s.cp1Usable = true → s.evenFprs [fs, ft] = true →
    ∀ p ∈ ([(0, Instr.cFPs fs ft), (1, .cUnPs fs ft), (2, .cEqPs fs ft), (3, .cUeqPs fs ft), (4, .cOltPs fs ft),
        (5, .cUltPs fs ft), (6, .cOlePs fs ft), (7, .cUlePs fs ft), (8, .cSfPs fs ft), (9, .cNglePs fs ft),
        (10, .cSeqPs fs ft), (11, .cNglPs fs ft), (12, .cLtPs fs ft), (13, .cNgePs fs ft), (14, .cLePs fs ft),
        (15, .cNgtPs fs ft)] : List (BitVec 4 × Instr)),
      let low := FpFormat.single.compare p.1 (lowerHalf (s.fprD fs)).toNat (lowerHalf (s.fprD ft)).toNat
      let high := FpFormat.single.compare p.1 (upperHalf (s.fprD fs)).toNat (upperHalf (s.fprD ft)).toNat
      let records := fun t : State => t.fcsr.cc0 = low.result ∧ t.fcsr.cc.getLsbD 0 = high.result ∧
        (∀ i, 0 < i → t.fcsr.cc.getLsbD i = s.fcsr.cc.getLsbD i)
      (low.invalid = false → high.invalid = false → ∃ t, exec p.2 s = .next t ∧ Advanced s t ∧ OnlyFcsr s t ∧ records t ∧
        t.fcsr = { s.fcsr with cause := 0, cc0 := t.fcsr.cc0, cc := t.fcsr.cc }) ∧
      (low.invalid = true ∨ high.invalid = true → s.fcsr.enables.getLsbD 4 = false →
        ∃ t, exec p.2 s = .next t ∧ Advanced s t ∧ OnlyFcsr s t ∧ records t ∧
          t.fcsr = { s.fcsr with cause := 0b010000, flags := s.fcsr.flags ||| 0b10000, cc0 := t.fcsr.cc0, cc := t.fcsr.cc }) ∧
      (low.invalid = true ∨ high.invalid = true → s.fcsr.enables.getLsbD 4 = true → FpTraps s (exec p.2 s) 0b010000)

/-- The 48 compares. -/
def Obligations.CompareResults : Prop := Claim.CompareResults ∧ Claim.ComparePairedResults

/-- What a compare computes: less and equal by the numbers that the bit patterns stand for (+0 = -0, infinities below and above every
number), unordered where one is a NaN; invalid for a signaling NaN, and with cond bit 3 for any NaN (47_fpu_move_branch.md
R529). -/
def Obligations.CompareIsNumeric : Prop :=
  ∀ (f : FpFormat) (cond : BitVec 4) (a b : Nat), a < 2 ^ f.width → b < 2 ^ f.width →
    let r := f.compare cond a b
    let less : FpCompare := { result := cond.getLsbD 2, invalid := false }
    let equal : FpCompare := { result := cond.getLsbD 1, invalid := false }
    let greater : FpCompare := { result := false, invalid := false }
    ((f.value a).isFinite = true → (f.value b).isFinite = true →
      r.invalid = false ∧
      (r.result = true ↔ (cond.getLsbD 2 = true ∧ (f.value a).rational < (f.value b).rational) ∨
        (cond.getLsbD 1 = true ∧ (f.value a).rational = (f.value b).rational))) ∧
    (f.isNan a = true ∨ f.isNan b = true → r.result = cond.getLsbD 0 ∧
      (r.invalid = true ↔ f.value a = .nan true ∨ f.value b = .nan true ∨ cond.getLsbD 3 = true)) ∧
    (∀ neg, f.value a = .infinity neg → (f.value b).isFinite = true → r = if neg then less else greater) ∧
    (∀ neg, (f.value a).isFinite = true → f.value b = .infinity neg → r = if neg then greater else less) ∧
    (∀ neg, f.value a = .infinity neg → f.value b = .infinity neg → r = equal) ∧
    (∀ neg, f.value a = .infinity neg → f.value b = .infinity (!neg) → r = if neg then less else greater)

/-! ## FPU arithmetic: 48_fpu_arith.md -/

/-- ADD, SUB, MUL, DIV, SQRT, ABS, NEG of singles: the result of the operation in fd, Cause and Flags; or, where a Cause bit traps,
the exception with only Cause changed (48_fpu_arith.md R553, R562 to R568). -/
def Claim.FpSingleArithmetic : Prop :=
  ∀ (s : State) (fd fs ft : RegNum), s.leavesSegment = false → s.cp1Usable = true →
    let a := (s.fprW fs).toNat
    let b := (s.fprW ft).toNat
    FpEndsW s (exec (.addS fd fs ft) s) fd (FpFormat.single.add s.fpMode a b) ∧
    FpEndsW s (exec (.subS fd fs ft) s) fd (FpFormat.single.sub s.fpMode a b) ∧
    FpEndsW s (exec (.mulS fd fs ft) s) fd (FpFormat.single.mul s.fpMode a b) ∧
    FpEndsW s (exec (.divS fd fs ft) s) fd (FpFormat.single.div s.fpMode a b) ∧
    FpEndsW s (exec (.sqrtS fd fs) s) fd (FpFormat.single.sqrt s.fpMode a) ∧
    FpEndsW s (exec (.absS fd fs) s) fd (FpFormat.single.abs s.fpMode a) ∧
    FpEndsW s (exec (.negS fd fs) s) fd (FpFormat.single.neg s.fpMode a)

/-- MADD, MSUB, NMADD, NMSUB of singles, fd being the addend (48_fpu_arith.md R582 to R586). -/
def Claim.FpSingleMultiplyAdd : Prop :=
  ∀ (s : State) (fd fs ft : RegNum), s.leavesSegment = false → s.cp1Usable = true →
    let a := (s.fprW fs).toNat
    let b := (s.fprW ft).toNat
    let d := (s.fprW fd).toNat
    FpEndsW s (exec (.maddS fd fs ft) s) fd (FpFormat.single.madd false false s.fpMode d a b) ∧
    FpEndsW s (exec (.msubS fd fs ft) s) fd (FpFormat.single.madd true false s.fpMode d a b) ∧
    FpEndsW s (exec (.nmaddS fd fs ft) s) fd (FpFormat.single.madd false true s.fpMode d a b) ∧
    FpEndsW s (exec (.nmsubS fd fs ft) s) fd (FpFormat.single.madd true true s.fpMode d a b)

/-- The arithmetic of singles. -/
def Claim.FpSingleOperations : Prop := Claim.FpSingleArithmetic ∧ Claim.FpSingleMultiplyAdd

/-- ADD, SUB, MUL, DIV, SQRT, ABS, NEG of doubles: the result of the operation in fd, Cause and Flags; or, where a Cause bit traps,
the exception with only Cause changed (48_fpu_arith.md R553, R562 to R568). -/
def Claim.FpDoubleArithmetic : Prop :=
  ∀ (s : State) (fd fs ft : RegNum), s.leavesSegment = false → s.cp1Usable = true →
    let a := (s.fprD fs).toNat
    let b := (s.fprD ft).toNat
    (s.evenFprs [fd, fs, ft] = true → FpEndsD s (exec (.addD fd fs ft) s) fd (FpFormat.double.add s.fpMode a b)) ∧
    (s.evenFprs [fd, fs, ft] = true → FpEndsD s (exec (.subD fd fs ft) s) fd (FpFormat.double.sub s.fpMode a b)) ∧
    (s.evenFprs [fd, fs, ft] = true → FpEndsD s (exec (.mulD fd fs ft) s) fd (FpFormat.double.mul s.fpMode a b)) ∧
    (s.evenFprs [fd, fs, ft] = true → FpEndsD s (exec (.divD fd fs ft) s) fd (FpFormat.double.div s.fpMode a b)) ∧
    (s.evenFprs [fd, fs] = true → FpEndsD s (exec (.sqrtD fd fs) s) fd (FpFormat.double.sqrt s.fpMode a)) ∧
    (s.evenFprs [fd, fs] = true → FpEndsD s (exec (.absD fd fs) s) fd (FpFormat.double.abs s.fpMode a)) ∧
    (s.evenFprs [fd, fs] = true → FpEndsD s (exec (.negD fd fs) s) fd (FpFormat.double.neg s.fpMode a))

/-- MADD, MSUB, NMADD, NMSUB of doubles, fd being the addend (48_fpu_arith.md R582 to R586). -/
def Claim.FpDoubleMultiplyAdd : Prop :=
  ∀ (s : State) (fd fs ft : RegNum), s.leavesSegment = false → s.cp1Usable = true → s.evenFprs [fd, fs, ft] = true →
    let a := (s.fprD fs).toNat
    let b := (s.fprD ft).toNat
    let d := (s.fprD fd).toNat
    FpEndsD s (exec (.maddD fd fs ft) s) fd (FpFormat.double.madd false false s.fpMode d a b) ∧
    FpEndsD s (exec (.msubD fd fs ft) s) fd (FpFormat.double.madd true false s.fpMode d a b) ∧
    FpEndsD s (exec (.nmaddD fd fs ft) s) fd (FpFormat.double.madd false true s.fpMode d a b) ∧
    FpEndsD s (exec (.nmsubD fd fs ft) s) fd (FpFormat.double.madd true true s.fpMode d a b)

/-- The arithmetic of doubles. -/
def Claim.FpDoubleOperations : Prop := Claim.FpDoubleArithmetic ∧ Claim.FpDoubleMultiplyAdd

/-- What the operations, the paired ones and the conversions among them, take from FCR31: they round by RM, flush tiny results exactly
where FS = 1 and Enable U = Enable I = 0, and trap exactly where Cause E is set or a Cause bit and its Enable bit share a 1; with the
places of the fields in the FCR31 that CFC1 reads (10_state.md R96, R99, R102, 48_fpu_arith.md R553 steps 4 and 5, R557). -/
def Claim.FpControl : Prop :=
  ∀ (s : State) (cause : BitVec 6),
    let w := s.fcsr.word
    s.fpMode.rm = w.extractLsb' 0 2 ∧
    (s.fpMode.flush = true ↔ w.getLsbD 24 = true ∧ w.getLsbD 8 = false ∧ w.getLsbD 7 = false) ∧
    (s.fcsr.traps cause = true ↔ cause.getLsbD 5 = true ∨ ∃ i, i < 5 ∧ cause.getLsbD i = true ∧ w.getLsbD (7 + i) = true) ∧
    w.extractLsb' 12 6 = s.fcsr.cause ∧ w.extractLsb' 7 5 = s.fcsr.enables ∧ w.extractLsb' 2 5 = s.fcsr.flags ∧
    w.extractLsb' 0 2 = s.fcsr.rm ∧ w.getLsbD 24 = s.fcsr.fs ∧ w.getLsbD 23 = s.fcsr.cc0 ∧ w.extractLsb' 25 7 = s.fcsr.cc

/-- The arithmetic of singles and doubles, and what it takes from FCR31. -/
def Obligations.FpOperations : Prop := Claim.FpControl ∧ Claim.FpSingleOperations ∧ Claim.FpDoubleOperations

/-- The paired-single arithmetic: the single operation on the upper and on the lower halves, one set of Cause bits, and neither
half written on a trap (48_fpu_arith.md R587). -/
def Obligations.FpPairedArithmetic : Prop :=
  ∀ (s : State) (fd fs ft : RegNum), s.leavesSegment = false → s.cp1Usable = true →
    let ah := (upperHalf (s.fprD fs)).toNat
    let al := (lowerHalf (s.fprD fs)).toNat
    let bh := (upperHalf (s.fprD ft)).toNat
    let bl := (lowerHalf (s.fprD ft)).toNat
    let dh := (upperHalf (s.fprD fd)).toNat
    let dl := (lowerHalf (s.fprD fd)).toNat
    (s.evenFprs [fd, fs, ft] = true → FpEndsPs s (exec (.addPs fd fs ft) s) fd (FpFormat.single.add s.fpMode ah bh) (FpFormat.single.add s.fpMode al bl)) ∧
    (s.evenFprs [fd, fs, ft] = true → FpEndsPs s (exec (.subPs fd fs ft) s) fd (FpFormat.single.sub s.fpMode ah bh) (FpFormat.single.sub s.fpMode al bl)) ∧
    (s.evenFprs [fd, fs, ft] = true → FpEndsPs s (exec (.mulPs fd fs ft) s) fd (FpFormat.single.mul s.fpMode ah bh) (FpFormat.single.mul s.fpMode al bl)) ∧
    (s.evenFprs [fd, fs] = true → FpEndsPs s (exec (.absPs fd fs) s) fd (FpFormat.single.abs s.fpMode ah) (FpFormat.single.abs s.fpMode al)) ∧
    (s.evenFprs [fd, fs] = true → FpEndsPs s (exec (.negPs fd fs) s) fd (FpFormat.single.neg s.fpMode ah) (FpFormat.single.neg s.fpMode al)) ∧
    (s.evenFprs [fd, fs, ft] = true → FpEndsPs s (exec (.maddPs fd fs ft) s) fd (FpFormat.single.madd false false s.fpMode dh ah bh)
      (FpFormat.single.madd false false s.fpMode dl al bl)) ∧
    (s.evenFprs [fd, fs, ft] = true → FpEndsPs s (exec (.msubPs fd fs ft) s) fd (FpFormat.single.madd true false s.fpMode dh ah bh)
      (FpFormat.single.madd true false s.fpMode dl al bl)) ∧
    (s.evenFprs [fd, fs, ft] = true → FpEndsPs s (exec (.nmaddPs fd fs ft) s) fd (FpFormat.single.madd false true s.fpMode dh ah bh)
      (FpFormat.single.madd false true s.fpMode dl al bl)) ∧
    (s.evenFprs [fd, fs, ft] = true → FpEndsPs s (exec (.nmsubPs fd fs ft) s) fd (FpFormat.single.madd true true s.fpMode dh ah bh)
      (FpFormat.single.madd true true s.fpMode dl al bl))

/-- The conversions to fixed point: ROUND, TRUNC, CEIL and FLOOR by their own rounding, CVT by RM (48_fpu_arith.md R569 to R576,
R579 to R581). -/
def Claim.FpToFixedResults : Prop :=
  ∀ (s : State) (fd fs : RegNum), s.leavesSegment = false → s.cp1Usable = true →
    FpEndsW s (exec (.roundWS fd fs) s) fd (FpFormat.single.toInteger 32 Config.cvtInvalidW 0 (s.fprW fs).toNat) ∧
    (s.evenFprs [fs] = true → FpEndsW s (exec (.roundWD fd fs) s) fd (FpFormat.double.toInteger 32 Config.cvtInvalidW 0 (s.fprD fs).toNat)) ∧
    FpEndsW s (exec (.truncWS fd fs) s) fd (FpFormat.single.toInteger 32 Config.cvtInvalidW 1 (s.fprW fs).toNat) ∧
    (s.evenFprs [fs] = true → FpEndsW s (exec (.truncWD fd fs) s) fd (FpFormat.double.toInteger 32 Config.cvtInvalidW 1 (s.fprD fs).toNat)) ∧
    FpEndsW s (exec (.ceilWS fd fs) s) fd (FpFormat.single.toInteger 32 Config.cvtInvalidW 2 (s.fprW fs).toNat) ∧
    (s.evenFprs [fs] = true → FpEndsW s (exec (.ceilWD fd fs) s) fd (FpFormat.double.toInteger 32 Config.cvtInvalidW 2 (s.fprD fs).toNat)) ∧
    FpEndsW s (exec (.floorWS fd fs) s) fd (FpFormat.single.toInteger 32 Config.cvtInvalidW 3 (s.fprW fs).toNat) ∧
    (s.evenFprs [fs] = true → FpEndsW s (exec (.floorWD fd fs) s) fd (FpFormat.double.toInteger 32 Config.cvtInvalidW 3 (s.fprD fs).toNat)) ∧
    FpEndsW s (exec (.cvtWS fd fs) s) fd (FpFormat.single.toInteger 32 Config.cvtInvalidW s.fcsr.rm (s.fprW fs).toNat) ∧
    (s.evenFprs [fs] = true → FpEndsW s (exec (.cvtWD fd fs) s) fd (FpFormat.double.toInteger 32 Config.cvtInvalidW s.fcsr.rm (s.fprD fs).toNat)) ∧
    (s.evenFprs [fd] = true → FpEndsD s (exec (.roundLS fd fs) s) fd (FpFormat.single.toInteger 64 Config.cvtInvalidL 0 (s.fprW fs).toNat)) ∧
    (s.evenFprs [fd, fs] = true → FpEndsD s (exec (.roundLD fd fs) s) fd (FpFormat.double.toInteger 64 Config.cvtInvalidL 0 (s.fprD fs).toNat)) ∧
    (s.evenFprs [fd] = true → FpEndsD s (exec (.truncLS fd fs) s) fd (FpFormat.single.toInteger 64 Config.cvtInvalidL 1 (s.fprW fs).toNat)) ∧
    (s.evenFprs [fd, fs] = true → FpEndsD s (exec (.truncLD fd fs) s) fd (FpFormat.double.toInteger 64 Config.cvtInvalidL 1 (s.fprD fs).toNat)) ∧
    (s.evenFprs [fd] = true → FpEndsD s (exec (.ceilLS fd fs) s) fd (FpFormat.single.toInteger 64 Config.cvtInvalidL 2 (s.fprW fs).toNat)) ∧
    (s.evenFprs [fd, fs] = true → FpEndsD s (exec (.ceilLD fd fs) s) fd (FpFormat.double.toInteger 64 Config.cvtInvalidL 2 (s.fprD fs).toNat)) ∧
    (s.evenFprs [fd] = true → FpEndsD s (exec (.floorLS fd fs) s) fd (FpFormat.single.toInteger 64 Config.cvtInvalidL 3 (s.fprW fs).toNat)) ∧
    (s.evenFprs [fd, fs] = true → FpEndsD s (exec (.floorLD fd fs) s) fd (FpFormat.double.toInteger 64 Config.cvtInvalidL 3 (s.fprD fs).toNat)) ∧
    (s.evenFprs [fd] = true → FpEndsD s (exec (.cvtLS fd fs) s) fd (FpFormat.single.toInteger 64 Config.cvtInvalidL s.fcsr.rm (s.fprW fs).toNat)) ∧
    (s.evenFprs [fd, fs] = true → FpEndsD s (exec (.cvtLD fd fs) s) fd (FpFormat.double.toInteger 64 Config.cvtInvalidL s.fcsr.rm (s.fprD fs).toNat))

/-- The conversions to single and double (48_fpu_arith.md R577, R578). -/
def Claim.FpConvertResults : Prop :=
  ∀ (s : State) (fd fs : RegNum), s.leavesSegment = false → s.cp1Usable = true →
    (s.evenFprs [fs] = true → FpEndsW s (exec (.cvtSD fd fs) s) fd (FpFormat.double.convert .single s.fpMode (s.fprD fs).toNat)) ∧
    FpEndsW s (exec (.cvtSW fd fs) s) fd (FpFormat.single.ofInteger s.fpMode (s.fprW fs).toInt) ∧
    (s.evenFprs [fs] = true → FpEndsW s (exec (.cvtSL fd fs) s) fd (FpFormat.single.ofInteger s.fpMode (s.fprD fs).toInt)) ∧
    (s.evenFprs [fd] = true → FpEndsD s (exec (.cvtDS fd fs) s) fd (FpFormat.single.convert .double s.fpMode (s.fprW fs).toNat)) ∧
    (s.evenFprs [fd] = true → FpEndsD s (exec (.cvtDW fd fs) s) fd (FpFormat.double.ofInteger s.fpMode (s.fprW fs).toInt)) ∧
    (s.evenFprs [fd, fs] = true → FpEndsD s (exec (.cvtDL fd fs) s) fd (FpFormat.double.ofInteger s.fpMode (s.fprD fs).toInt))

/-- The conversions. -/
def Obligations.FpConversions : Prop := Claim.FpToFixedResults ∧ Claim.FpConvertResults

/-- The number `y` is the magnitude `x` of a number of the sign `neg`, rounded by RM to a multiple of `unit`; `even` says that the
multiple is even, which decides a tie (10_state.md R102). -/
def Claim.Rounded (rm : BitVec 2) (neg : Bool) (x y unit : ℝ) (even : Prop) : Prop :=
  (rm = 0 → 2 * |y - x| ≤ unit ∧ (2 * |y - x| = unit → even)) ∧
  (rm = 1 → y ≤ x ∧ x < y + unit) ∧
  (rm = 2 → if neg then y ≤ x ∧ x < y + unit else x ≤ y ∧ y < x + unit) ∧
  (rm = 3 → if neg then x ≤ y ∧ y < x + unit else y ≤ x ∧ x < y + unit)

/-- The result `r` is the number of sign `neg` and magnitude `x`, rounded to the precision of the format with an unbounded exponent: with
`2 ^ u` the distance of two numbers of that precision at `x`, it is `q * 2 ^ u`, whose significand is `m` with the exponent `v` (a `q`
of `2 ^ precision` is the next power of two). Where its top bit is too high the result is an overflow, infinity or the largest number by
RM and the sign, with Cause O and I; where it is too low the result is flushed, zero or the smallest normal number, with Cause U and I,
or where FS does not flush it an unimplemented operation; everywhere else it is that number, Cause I is set exactly where it differs
from `x`, and no other Cause bit is set (48_fpu_arith.md R553 step 4, R556 to R558, R561). -/
def Claim.IsRounding (f : FpFormat) (md : FpMode) (neg : Bool) (x : ℝ) (r : FpResult) : Prop :=
  ∃ (q : Nat) (u : Int), 2 ^ (f.precision - 1) * (2 : ℝ) ^ u ≤ x ∧ x < 2 ^ f.precision * (2 : ℝ) ^ u ∧
    let y : ℝ := q * 2 ^ u
    let m : Nat := if q = 2 ^ f.precision then 2 ^ (f.precision - 1) else q
    let v : Int := if q = 2 ^ f.precision then u + 1 else u
    let top : Int := v + (f.precision - 1 : Nat)
    let outward : Prop := (md.rm = 2 ∧ neg = false) ∨ (md.rm = 3 ∧ neg = true)
    Claim.Rounded md.rm neg x y (2 ^ u) (q % 2 = 0) ∧
    (f.emax < top → r.cause = causeO ||| causeI ∧
      (md.rm = 0 ∨ outward → r.bits = f.infinity neg) ∧ (md.rm ≠ 0 → ¬outward → r.bits = f.largest neg)) ∧
    (top < f.emin → md.flush = true → r.cause = causeU ||| causeI ∧
      (outward → r.bits = f.smallestNormal neg) ∧ (¬outward → r.bits = f.zero neg)) ∧
    (top < f.emin → md.flush = false → r.cause = causeE) ∧
    (f.emin ≤ top → top ≤ f.emax → f.value r.bits = .finite neg m v ∧ (r.cause = 0 ↔ y = x) ∧ (r.cause = causeI ↔ y ≠ x))

/-- Rounding is correct: the result of FpFormat.round is the rounding of the exact magnitude, which is given whole (sticky = false), or
as the `m` below it that a quotient or a root was cut to, of more bits than the precision (sticky = true) (10_state.md R102,
48_fpu_arith.md R556 to R558, R561). -/
def Obligations.RoundingIsCorrect : Prop :=
  ∀ (f : FpFormat) (md : FpMode) (neg : Bool) (m : Nat) (e : Int) (sticky : Bool) (x : ℝ), 0 < m →
    (sticky = false → x = m * 2 ^ e) → (sticky = true → 2 ^ f.precision ≤ m ∧ m * 2 ^ e < x ∧ x < (m + 1) * 2 ^ e) →
    Claim.IsRounding f md neg x (f.round md neg m e sticky)

/-- Arithmetic is exact where no Cause bit is set: on finite numbers that are not denormalised the result of ADD, SUB, MUL and DIV
then stands for the exact sum, difference, product and quotient, the square of that of SQRT is the operand, and MADD, MSUB, NMADD and
NMSUB stand for the exact a * b + d, a * b - d and their negatives, whether the hardware rounds once or twice; ABS and NEG never set a
Cause bit and only change the sign (48_fpu_arith.md R553, R558, R562 to R568, R582 to R586). -/
def Claim.ExactWithoutCause : Prop :=
  ∀ (f : FpFormat) (md : FpMode) (a b d : Nat), a < 2 ^ f.width → b < 2 ^ f.width → d < 2 ^ f.width →
    f.plainNumber a = true → f.plainNumber b = true → f.plainNumber d = true →
    let x := (f.value a).rational
    let y := (f.value b).rational
    let z := (f.value d).rational
    let exact := fun (r : FpResult) (v : ℚ) => r.cause = 0 → (f.value r.bits).rational = v
    exact (f.add md a b) (x + y) ∧ exact (f.sub md a b) (x - y) ∧ exact (f.mul md a b) (x * y) ∧
    ((f.div md a b).cause = 0 → y ≠ 0 ∧ (f.value (f.div md a b).bits).rational = x / y) ∧
    ((f.sqrt md a).cause = 0 → (f.value (f.sqrt md a).bits).rational ^ 2 = x) ∧
    exact (f.madd false false md d a b) (x * y + z) ∧ exact (f.madd true false md d a b) (x * y - z) ∧
    exact (f.madd false true md d a b) (-(x * y + z)) ∧ exact (f.madd true true md d a b) (-(x * y - z)) ∧
    ((f.abs md a).cause = 0 ∧ (f.value (f.abs md a).bits).rational = |x| ∧ f.negative (f.abs md a).bits = false) ∧
    ((f.neg md a).cause = 0 ∧ (f.value (f.neg md a).bits).rational = -x ∧ f.negative (f.neg md a).bits = !f.negative a)

/-- The result `r` is the number `v` rounded, or where `v` is 0 the zero of the sign `zero` without a Cause bit. -/
def Claim.RoundsNumber (f : FpFormat) (md : FpMode) (v : ℝ) (zero : Bool) (r : FpResult) : Prop :=
  (v = 0 → r = { cause := 0, bits := f.zero zero }) ∧ (0 < v → Claim.IsRounding f md false v r) ∧
  (v < 0 → Claim.IsRounding f md true (-v) r)

/-- Arithmetic on finite numbers that are not denormalised is the exact result, rounded: the sum, the difference, the product, the
quotient (by a number that is not 0) and the root (of one that is not negative). An exact zero sum of opposite signs is -0 with
RM = 3 and +0 otherwise (48_fpu_arith.md R553 step 4, R562 to R566). -/
def Claim.ArithmeticRounds : Prop :=
  ∀ (f : FpFormat) (md : FpMode) (a b : Nat), a < 2 ^ f.width → b < 2 ^ f.width → f.plainNumber a = true → f.plainNumber b = true →
    let x : ℝ := (f.value a).rational
    let y : ℝ := (f.value b).rational
    let na := f.negative a
    let nb := f.negative b
    let rounds := Claim.RoundsNumber f md
    rounds (x + y) (if na = nb then na else md.rm == 3) (f.add md a b) ∧
    rounds (x - y) (if na = !nb then na else md.rm == 3) (f.sub md a b) ∧
    rounds (x * y) (na != nb) (f.mul md a b) ∧ (y ≠ 0 → rounds (x / y) (na != nb) (f.div md a b)) ∧
    (0 ≤ x → rounds (Real.sqrt x) na (f.sqrt md a))

/-- The multiply-adds on finite numbers that are not denormalised: with FP_MADD_FUSED the exact a * b + d (or a * b - d), rounded once;
without it the rounded product and the addend, added as ADD and SUB do. NMADD and NMSUB are the same with the sign of the result
inverted (48_fpu_arith.md R582 to R586). R586 says nothing of the exceptions of the intermediate product: that without FP_MADD_FUSED
the Cause bits of product and sum are set together, and that a product that is unimplemented is the result alone, are the model's
choice (entry 43). -/
def Claim.MultiplyAddRounds : Prop :=
  ∀ (f : FpFormat) (md : FpMode) (subtract : Bool) (a b d : Nat), a < 2 ^ f.width → b < 2 ^ f.width → d < 2 ^ f.width →
    f.plainNumber a = true → f.plainNumber b = true → f.plainNumber d = true →
    let xy : ℝ := (f.value a).rational * (f.value b).rational
    let z : ℝ := (f.value d).rational
    let np := f.negative a != f.negative b
    let nd := f.negative d != subtract
    let r := f.madd subtract false md d a b
    let n := f.madd subtract true md d a b
    let p := f.mul md a b
    let sum := if subtract then f.sub md p.bits d else f.add md p.bits d
    (Config.maddFused = true →
      Claim.RoundsNumber f md (if subtract then xy - z else xy + z) (if np = nd then np else md.rm == 3) r) ∧
    (Config.maddFused = false → p.cause &&& causeE ≠ 0 → r = p) ∧
    (Config.maddFused = false → p.cause &&& causeE = 0 → r = { cause := sum.cause ||| p.cause, bits := sum.bits }) ∧
    n.cause = r.cause ∧ f.negative n.bits = !f.negative r.bits ∧ f.exponent n.bits = f.exponent r.bits ∧
    f.fraction n.bits = f.fraction r.bits

/-- What the arithmetic on finite numbers computes: exact numbers where no Cause bit is set, and the rounding of the exact result in
every case; the clauses of MultiplyAddRounds with FP_MADD_FUSED false are, as said there, the model's choice (entry 43). -/
def Obligations.ExactUnlessCause : Prop := Claim.ExactWithoutCause ∧ Claim.ArithmeticRounds ∧ Claim.MultiplyAddRounds

/-- An operand that arithmetic computes with: an infinity, or a number that is not denormalised. -/
def Claim.Computed (f : FpFormat) (a : Nat) : Prop := f.plainNumber a = true ∨ ∃ n, f.value a = .infinity n

/-- The operand `a` sets the Cause bits `c` in every arithmetic operation, every multiply-add and every conversion to another
floating-point format. Where the other operands are computed with, it sets no other, and where that makes the operation invalid the
result is the default quiet NaN (48_fpu_arith.md R553 step 3, R561). That NMADD and NMSUB (`neg`) write that NaN with its sign not
inverted is the model's choice (entry 43, PRESUMED): R586 speaks of inverting the sign only. -/
def Claim.OperandGives (f g : FpFormat) (a : Nat) (c : BitVec 6) : Prop :=
  ∀ (md : FpMode) (b d : Nat) (sub neg : Bool),
    let sets := fun r : FpResult => r.cause &&& c = c
    let gives := fun (r : FpResult) (nan : Nat) => r.cause = c ∧ (c = causeV → r.bits = nan)
    (∀ op ∈ [f.add, f.sub, f.mul, f.div], sets (op md a b) ∧ sets (op md b a) ∧
      (Claim.Computed f b → gives (op md a b) f.defaultNan ∧ gives (op md b a) f.defaultNan)) ∧
    (∀ op ∈ [f.sqrt, f.abs, f.neg], gives (op md a) f.defaultNan) ∧
    (∀ r ∈ [f.madd sub neg md a b d, f.madd sub neg md b a d, f.madd sub neg md b d a], sets r ∧
      (Claim.Computed f b → Claim.Computed f d → gives r f.defaultNan)) ∧
    gives (f.convert g md a) g.defaultNan

/-- The operands that are never computed with: a signaling NaN is invalid, a denormalised number unimplemented, and a quiet NaN is
unimplemented or invalid as the parameter FP_QNAN_OPERAND says (48_fpu_arith.md R554, R559, R560; entry 22). In a conversion to W or L
either NaN is invalid (R554, R581, 92_eei_decisions.md D32): that D32 decides there, and not FP_QNAN_OPERAND, is the model's choice
(entry 56). The default quiet NaN is a quiet one (R552, R561). -/
def Claim.OperandsNotComputed : Prop :=
  ∀ (f g : FpFormat) (a w : Nat) (bad : BitVec w) (rm : BitVec 2),
    (f.value a = .nan true → Claim.OperandGives f g a causeV) ∧
    (f.value a = .nan false → Claim.OperandGives f g a (if Config.qnanUnimplemented then causeE else causeV)) ∧
    (f.isDenormal a = true → Claim.OperandGives f g a causeE ∧ (f.toInteger w bad rm a).cause = causeE) ∧
    (∀ signaling, f.value a = .nan signaling → f.toInteger w bad rm a = { cause := causeV, bits := bad.toNat }) ∧
    f.value f.defaultNan = .nan false

/-- The invalid operations on operands that are computed with, and division by zero (48_fpu_arith.md R554, R555, R562 to R566, R581
to R586). That an invalid NMADD or NMSUB (`neg`) writes the default quiet NaN with its sign not inverted is the model's choice (entry
43, PRESUMED), as in OperandGives. -/
def Claim.InvalidOperations : Prop :=
  ∀ (f : FpFormat) (md : FpMode) (rm : BitVec 2) (w : Nat) (bad : BitVec w) (a b d : Nat) (sub neg : Bool),
    let invalid : FpResult := { cause := causeV, bits := f.defaultNan }
    (∀ n, f.value a = .infinity n → f.value b = .infinity (!n) → f.add md a b = invalid) ∧
    (∀ n, f.value a = .infinity n → f.value b = .infinity n → f.sub md a b = invalid) ∧
    (∀ n n', f.value a = .infinity n → f.value b = .infinity n' → f.div md a b = invalid) ∧
    (∀ n, f.value a = .infinity n → f.toInteger w bad rm a = { cause := causeV, bits := bad.toNat }) ∧
    (∀ n n' e, f.value a = .infinity n → f.value b = .finite n' 0 e →
      f.mul md a b = invalid ∧ f.mul md b a = invalid ∧
      (Claim.Computed f d → f.madd sub neg md d a b = invalid ∧ f.madd sub neg md d b a = invalid)) ∧
    (∀ n, f.value a = .infinity n → (f.plainNumber b = true ∧ (f.value b).rational ≠ 0) ∨ (∃ n', f.value b = .infinity n') →
      f.value d = .infinity ((n != f.negative b) != !sub) →
      f.madd sub neg md d a b = invalid ∧ f.madd sub neg md d b a = invalid) ∧
    (∀ n n' e e', f.value a = .finite n 0 e → f.value b = .finite n' 0 e' → f.div md a b = invalid) ∧
    (f.plainNumber a = true → (f.value a).rational ≠ 0 → ∀ n e, f.value b = .finite n 0 e →
      f.div md a b = { cause := causeZ, bits := f.infinity (f.negative a != n) }) ∧
    (f.plainNumber a = true → (f.value a).rational < 0 → f.sqrt md a = invalid) ∧ (f.value a = .infinity true → f.sqrt md a = invalid)

/-- The results for an infinite operand where the operation is valid: infinities and, for a number over an infinity, zeros of the right
sign, without a Cause bit. An infinite product or addend makes a multiply-add infinite; with FP_MADD_FUSED false, a product of
numbers that is not unimplemented by itself adds its own Cause bits, and must not have overflowed to the opposite infinity, which is the
model's choice (48_fpu_arith.md R553 step 4, R555, R562 to R568, R577, R578, R582 to R586; entry 43). -/
def Claim.InfiniteOperands : Prop :=
  ∀ (f g : FpFormat) (md : FpMode) (a b d : Nat) (n sub neg : Bool), f.value a = .infinity n →
    let exact := fun bits : Nat => ({ cause := 0, bits := bits } : FpResult)
    let infinite := fun s : Bool => exact (f.infinity s)
    let nb := f.negative b
    (f.plainNumber b = true →
      f.add md a b = infinite n ∧ f.add md b a = infinite n ∧ f.sub md a b = infinite n ∧ f.sub md b a = infinite (!n) ∧
      f.div md a b = infinite (n != nb) ∧ f.div md b a = exact (f.zero (nb != n))) ∧
    (f.value b = .infinity n → f.add md a b = infinite n) ∧ (f.value b = .infinity (!n) → f.sub md a b = infinite n) ∧
    ((f.plainNumber b = true ∧ (f.value b).rational ≠ 0) ∨ (∃ n', f.value b = .infinity n') →
      f.mul md a b = infinite (n != nb) ∧ f.mul md b a = infinite (n != nb) ∧
      (f.plainNumber d = true ∨ f.value d = .infinity ((n != nb) != sub) →
        f.madd sub neg md d a b = infinite ((n != nb) != neg) ∧ f.madd sub neg md d b a = infinite ((n != nb) != neg))) ∧
    (f.plainNumber b = true → f.plainNumber d = true →
      let p := f.mul md b d
      let r := f.madd sub neg md a b d
      (Config.maddFused = true → r = infinite ((n != sub) != neg)) ∧
      (Config.maddFused = false → p.cause &&& causeE = 0 → f.value p.bits ≠ .infinity (!(n != sub)) →
        r = { cause := p.cause, bits := f.infinity ((n != sub) != neg) })) ∧
    f.abs md a = infinite false ∧ f.neg md a = infinite (!n) ∧ (n = false → f.sqrt md a = infinite false) ∧
    f.convert g md a = exact (g.infinity n)

/-- What arithmetic makes of operands that are no numbers, and of operations that are invalid or divide by zero. Three clauses are the
model's choice, as said at them: the sign of the NaN of NMADD and NMSUB and the infinite addend with FP_MADD_FUSED false (entry 43), and
a quiet NaN converted to W or L (entry 56). -/
def Obligations.FpSpecialOperands : Prop := Claim.OperandsNotComputed ∧ Claim.InvalidOperations ∧ Claim.InfiniteOperands

/-- A 32-bit integer converts exactly to double; any conversion of an integer, or between the formats, that sets no Cause bit keeps the
number, and single to double always does; otherwise the number is rounded by RM as any result is (48_fpu_arith.md R577, R578). -/
def Claim.ConversionsKeepNumbers : Prop :=
  (∀ (md : FpMode) (v : BitVec 32),
    let r := FpFormat.double.ofInteger md v.toInt
    r.cause = 0 ∧ (FpFormat.double.value r.bits).rational = v.toInt) ∧
  (∀ (f : FpFormat) (md : FpMode) (n : Int),
    ((f.ofInteger md n).cause = 0 → (f.value (f.ofInteger md n).bits).rational = n) ∧
    (n ≠ 0 → Claim.IsRounding f md (decide (n < 0)) |(n : ℝ)| (f.ofInteger md n))) ∧
  (∀ (md : FpMode) (a : Nat), FpFormat.single.plainNumber a = true →
    let r := FpFormat.single.convert .double md a
    r.cause = 0 ∧ (FpFormat.double.value r.bits).rational = (FpFormat.single.value a).rational) ∧
  (∀ (md : FpMode) (a : Nat), FpFormat.double.plainNumber a = true →
    let x := (FpFormat.double.value a).rational
    let r := FpFormat.double.convert .single md a
    (r.cause = 0 → (FpFormat.single.value r.bits).rational = x) ∧
    (x ≠ 0 → Claim.IsRounding .single md (decide (x < 0)) |(x : ℝ)| r))

/-- A conversion to an integer of 32 or 64 bits rounds by its mode, which ROUND, TRUNC, CEIL and FLOOR fix (0, 1, 2, 3) and CVT takes
from RM: to the nearest with ties to even, toward zero, up, down. Where the integer fits it is the result, and Cause I is set exactly
where something was dropped; where it does not, the operation is invalid (48_fpu_arith.md R569 to R576, R579 to R581). -/
def Claim.ConversionsToIntegers : Prop :=
  ∀ (f : FpFormat) (rm : BitVec 2) (a w : Nat) (bad : BitVec w), w = 32 ∨ w = 64 → f.plainNumber a = true →
    let x := (f.value a).rational
    let r := f.toInteger w bad rm a
    ∃ n : Int,
      (rm = 0 → 2 * |x - n| ≤ 1 ∧ (2 * |x - n| = 1 → n % 2 = 0)) ∧ (rm = 1 → n = if x < 0 then ⌈x⌉ else ⌊x⌋) ∧
      (rm = 2 → n = ⌈x⌉) ∧ (rm = 3 → n = ⌊x⌋) ∧
      let fits := -(2 ^ (w - 1) : Int) ≤ n ∧ n < 2 ^ (w - 1)
      (fits → r.bits = (BitVec.ofInt w n).toNat ∧ (r.cause = 0 ↔ x = n) ∧ (r.cause = causeI ↔ x ≠ n)) ∧
      (¬fits → r = { cause := causeV, bits := bad.toNat })

/-- What the conversions compute. -/
def Obligations.FpConversionsAreNumeric : Prop := Claim.ConversionsKeepNumbers ∧ Claim.ConversionsToIntegers

/-! ## The invariant -/

/-- Every step keeps the invariant, from every state. -/
def Obligations.StepKeepsInvariant : Prop := ∀ s s' : State, s.Inv → step s = .next s' → s'.Inv

/-- The state after reset has the invariant. -/
def Obligations.ResetHasInvariant : Prop := State.reset.Inv
end

