-- ==== Sys2Proof/Laws/Memory.lean ====
section
/-! SUPPORT. Memory and lists of lines: reads after writes, and the canonical form that every operation keeps. -/

namespace Sys2Proof
namespace Machine

/-! ### Bytes -/

/-- The first listed address, if any, lies above `k`. -/
def Memory.headAbove (k : Nat) (m : List Host.Cell) : Bool :=
  match m with
  | [] => true
  | (a, _) :: _ => decide (k < a)

theorem Memory.wf_cons (a : Nat) (b : Byte) (rest : List Host.Cell) :
    Memory.wf ((a, b) :: rest) = (decide (a < 2 ^ 40) && Memory.headAbove a rest && Memory.wf rest) := by
  cases rest <;> rfl

theorem Memory.headAbove_trans (j k : Nat) (m : List Host.Cell) (h : j < k) (hk : Memory.headAbove k m = true) :
    Memory.headAbove j m = true := by
  cases m with
  | nil => rfl
  | cons c rest => obtain ⟨a, b⟩ := c; simp [Memory.headAbove] at *; omega

theorem Memory.headAbove_write (k : Nat) (m : List Host.Cell) (a : Nat) (b : Byte) (h : k < a)
    (hm : Memory.headAbove k m = true) : Memory.headAbove k (Memory.write m a b) = true := by
  cases m with
  | nil => simp [Memory.write, Memory.headAbove, h]
  | cons c rest =>
    obtain ⟨a', b'⟩ := c
    have hk : k < a' := by simpa [Memory.headAbove] using hm
    simp only [Memory.write]
    split
    · simp [Memory.headAbove, hk]
    · split <;> simp [Memory.headAbove, h]

/-- Every write keeps the canonical form. -/
theorem Memory.write_wf (m : List Host.Cell) (a : Nat) (b : Byte) (ha : a < 2 ^ 40) (h : Memory.wf m = true) :
    Memory.wf (Memory.write m a b) = true := by
  induction m with
  | nil => simpa [Memory.write, Memory.wf] using ha
  | cons c rest ih =>
    obtain ⟨k, v⟩ := c
    have h0 := h
    rw [Memory.wf_cons] at h
    simp only [Bool.and_eq_true, decide_eq_true_eq] at h
    simp only [Memory.write]
    split
    · next hlt =>
      rw [Memory.wf_cons]
      simp only [Bool.and_eq_true, decide_eq_true_eq]
      exact ⟨⟨h.1.1, Memory.headAbove_write k rest a b hlt h.1.2⟩, ih h.2⟩
    · split
      · next he =>
        subst he
        rw [Memory.wf_cons]
        simp only [Bool.and_eq_true, decide_eq_true_eq]
        exact ⟨⟨ha, h.1.2⟩, h.2⟩
      · rw [Memory.wf_cons]
        simp only [Bool.and_eq_true, decide_eq_true_eq]
        exact ⟨⟨ha, by simp [Memory.headAbove]; omega⟩, h0⟩

/-- An erasure keeps the canonical form. -/
theorem Memory.erase_wf (m : List Host.Cell) (a : Nat) (h : Memory.wf m = true) : Memory.wf (Memory.erase m a) = true := by
  induction m with
  | nil => rfl
  | cons c rest ih =>
    obtain ⟨k, v⟩ := c
    rw [Memory.wf_cons] at h
    simp only [Bool.and_eq_true, decide_eq_true_eq] at h
    simp only [Memory.erase]
    split
    · exact h.2
    · rw [Memory.wf_cons]
      simp only [Bool.and_eq_true, decide_eq_true_eq]
      refine ⟨⟨h.1.1, ?_⟩, ih h.2⟩
      cases rest with
      | nil => rfl
      | cons d rest =>
        obtain ⟨k', v'⟩ := d
        have hk : k < k' := by simpa [Memory.headAbove] using h.1.2
        simp only [Memory.erase]
        split
        · have h2 := h.2
          rw [Memory.wf_cons] at h2
          simp only [Bool.and_eq_true] at h2
          exact Memory.headAbove_trans k k' rest hk h2.1.2
        · simp [Memory.headAbove, hk]

theorem Memory.read_above (m : List Host.Cell) (a : Nat) (h : Memory.headAbove a m = true) (hwf : Memory.wf m = true) :
    Memory.read m a = none := by
  induction m with
  | nil => rfl
  | cons c rest ih =>
    obtain ⟨k, v⟩ := c
    rw [Memory.wf_cons] at hwf
    simp only [Bool.and_eq_true, decide_eq_true_eq] at hwf
    have hk : a < k := by simpa [Memory.headAbove] using h
    simp only [Memory.read]
    rw [if_neg (by omega)]
    exact ih (Memory.headAbove_trans a k rest hk hwf.1.2) hwf.2

/-- A byte written is read back. -/
theorem Memory.read_write_same (m : List Host.Cell) (a : Nat) (b : Byte) : Memory.read (Memory.write m a b) a = some b := by
  induction m with
  | nil => simp [Memory.write, Memory.read]
  | cons c rest ih =>
    obtain ⟨k, v⟩ := c
    simp only [Memory.write]
    split
    · next hlt => simp only [Memory.read]; rw [if_neg (by omega)]; exact ih
    · split <;> simp [Memory.read]

/-- A write leaves every other byte as it was. -/
theorem Memory.read_write_other (m : List Host.Cell) (a a' : Nat) (b : Byte) (h : a' ≠ a) :
    Memory.read (Memory.write m a b) a' = Memory.read m a' := by
  induction m with
  | nil => simp [Memory.write, Memory.read, Ne.symm h]
  | cons c rest ih =>
    obtain ⟨k, v⟩ := c
    simp only [Memory.write]
    split
    · simp only [Memory.read]; split
      · rfl
      · exact ih
    · split
      · next he => simp only [Memory.read]; rw [if_neg (by omega), if_neg (by omega)]
      · next he => simp only [Memory.read]; rw [if_neg (by omega)]

/-- An erased byte has no value of its own. -/
theorem Memory.read_erase_same (m : List Host.Cell) (a : Nat) (h : Memory.wf m = true) : Memory.read (Memory.erase m a) a = none := by
  induction m with
  | nil => rfl
  | cons c rest ih =>
    obtain ⟨k, v⟩ := c
    rw [Memory.wf_cons] at h
    simp only [Bool.and_eq_true, decide_eq_true_eq] at h
    simp only [Memory.erase]
    split
    · next he => subst he; exact Memory.read_above rest k h.1.2 h.2
    · next he => simp only [Memory.read]; rw [if_neg he]; exact ih h.2

/-- An erasure leaves every other byte as it was. -/
theorem Memory.read_erase_other (m : List Host.Cell) (a a' : Nat) (h : a' ≠ a) :
    Memory.read (Memory.erase m a) a' = Memory.read m a' := by
  induction m with
  | nil => rfl
  | cons c rest ih =>
    obtain ⟨k, v⟩ := c
    simp only [Memory.erase]
    split
    · next he => simp only [Memory.read]; rw [if_neg (by omega)]
    · simp only [Memory.read]; split
      · rfl
      · exact ih

/-! ### Lists of lines -/

variable {α : Type}

/-- The first number, if any, lies above `k`. -/
def Lines.headAbove (k : Nat) (l : List (Nat × α)) : Bool :=
  match l with
  | [] => true
  | (n, _) :: _ => decide (k < n)

theorem Lines.sorted_cons (k : Nat) (v : α) (rest : List (Nat × α)) :
    Lines.sorted ((k, v) :: rest) = (Lines.headAbove k rest && Lines.sorted rest) := by
  cases rest <;> rfl

@[simp] theorem Lines.get?_put_same (l : List (Nat × α)) (n : Nat) (v : α) : Lines.get? (Lines.put l n v) n = some v := by
  induction l with
  | nil => simp [Lines.put, Lines.get?]
  | cons c rest ih =>
    obtain ⟨k, w⟩ := c
    simp only [Lines.put]
    split
    · next h => simp only [Lines.get?]; rw [if_neg (by omega)]; exact ih
    · split <;> simp [Lines.get?]

theorem Lines.get?_put_other (l : List (Nat × α)) (n j : Nat) (v : α) (h : j ≠ n) :
    Lines.get? (Lines.put l n v) j = Lines.get? l j := by
  induction l with
  | nil => simp [Lines.put, Lines.get?, Ne.symm h]
  | cons c rest ih =>
    obtain ⟨k, w⟩ := c
    simp only [Lines.put]
    split
    · simp only [Lines.get?]; split
      · rfl
      · exact ih
    · split
      · next he => subst he; simp [Lines.get?, Ne.symm h]
      · simp only [Lines.get?]; rw [if_neg (Ne.symm h)]

theorem Lines.headAbove_put (k : Nat) (l : List (Nat × α)) (n : Nat) (v : α) (h : k < n) (hl : Lines.headAbove k l = true) :
    Lines.headAbove k (Lines.put l n v) = true := by
  cases l with
  | nil => simp [Lines.put, Lines.headAbove, h]
  | cons c rest =>
    obtain ⟨m, w⟩ := c
    have : k < m := by simpa [Lines.headAbove] using hl
    simp only [Lines.put]
    split
    · simp [Lines.headAbove, this]
    · split <;> simp [Lines.headAbove, h]

/-- Replacing a line keeps the numbers rising. -/
theorem Lines.put_sorted (l : List (Nat × α)) (n : Nat) (v : α) (h : Lines.sorted l = true) :
    Lines.sorted (Lines.put l n v) = true := by
  induction l with
  | nil => rfl
  | cons c rest ih =>
    obtain ⟨k, w⟩ := c
    have h0 := h
    rw [Lines.sorted_cons] at h
    simp only [Bool.and_eq_true] at h
    simp only [Lines.put]
    split
    · next hlt =>
      rw [Lines.sorted_cons]
      simp only [Bool.and_eq_true]
      exact ⟨Lines.headAbove_put k rest n v hlt h.1, ih h.2⟩
    · split
      · next he => subst he; rw [Lines.sorted_cons]; simp only [Bool.and_eq_true]; exact h
      · rw [Lines.sorted_cons]
        simp only [Bool.and_eq_true]
        exact ⟨by simp [Lines.headAbove]; omega, h0⟩

/-- The numbers after a replacement are the old ones and the new one. -/
theorem Lines.mem_put (l : List (Nat × α)) (n : Nat) (v : α) (p : Nat × α) (h : p ∈ Lines.put l n v) : p = (n, v) ∨ p ∈ l := by
  induction l with
  | nil => left; simpa [Lines.put] using h
  | cons c rest ih =>
    obtain ⟨k, w⟩ := c
    simp only [Lines.put] at h
    split at h
    · rcases List.mem_cons.mp h with h | h
      · right; simp [h]
      · rcases ih h with h | h
        · exact .inl h
        · right; simp [h]
    · split at h
      · rcases List.mem_cons.mp h with h | h
        · exact .inl h
        · right; simp [h]
      · rcases List.mem_cons.mp h with h | h
        · exact .inl h
        · exact .inr h

end Machine
end Sys2Proof
end

