-- ==== Sys2Proof/Laws/State.lean ====
section
/-! SUPPORT. What each update of the state leaves as it was: one lemma per field and update, and the lemmas of the accessors. -/

namespace Sys2Proof
namespace Machine

/-! ### setGpr -/

@[simp] theorem setGpr_pc (s : State) (r : RegNum) (v : Word) : (s.setGpr r v).pc = s.pc := by unfold State.setGpr; split <;> rfl
@[simp] theorem setGpr_delay (s : State) (r : RegNum) (v : Word) : (s.setGpr r v).delay = s.delay := by unfold State.setGpr; split <;> rfl
@[simp] theorem setGpr_hi (s : State) (r : RegNum) (v : Word) : (s.setGpr r v).hi = s.hi := by unfold State.setGpr; split <;> rfl
@[simp] theorem setGpr_lo (s : State) (r : RegNum) (v : Word) : (s.setGpr r v).lo = s.lo := by unfold State.setGpr; split <;> rfl
@[simp] theorem setGpr_llBit (s : State) (r : RegNum) (v : Word) : (s.setGpr r v).llBit = s.llBit := by unfold State.setGpr; split <;> rfl
@[simp] theorem setGpr_llPa (s : State) (r : RegNum) (v : Word) : (s.setGpr r v).llPa = s.llPa := by unfold State.setGpr; split <;> rfl
@[simp] theorem setGpr_cp0 (s : State) (r : RegNum) (v : Word) : (s.setGpr r v).cp0 = s.cp0 := by unfold State.setGpr; split <;> rfl
@[simp] theorem setGpr_tlb (s : State) (r : RegNum) (v : Word) : (s.setGpr r v).tlb = s.tlb := by unfold State.setGpr; split <;> rfl
@[simp] theorem setGpr_tlbWritten (s : State) (r : RegNum) (v : Word) : (s.setGpr r v).tlbWritten = s.tlbWritten := by unfold State.setGpr; split <;> rfl
@[simp] theorem setGpr_itlbStale (s : State) (r : RegNum) (v : Word) : (s.setGpr r v).itlbStale = s.itlbStale := by unfold State.setGpr; split <;> rfl
@[simp] theorem setGpr_fprs (s : State) (r : RegNum) (v : Word) : (s.setGpr r v).fprs = s.fprs := by unfold State.setGpr; split <;> rfl
@[simp] theorem setGpr_fcsr (s : State) (r : RegNum) (v : Word) : (s.setGpr r v).fcsr = s.fcsr := by unfold State.setGpr; split <;> rfl
@[simp] theorem setGpr_memory (s : State) (r : RegNum) (v : Word) : (s.setGpr r v).memory = s.memory := by unfold State.setGpr; split <;> rfl
@[simp] theorem setGpr_caches (s : State) (r : RegNum) (v : Word) : (s.setGpr r v).caches = s.caches := by unfold State.setGpr; split <;> rfl
@[simp] theorem setGpr_gather (s : State) (r : RegNum) (v : Word) : (s.setGpr r v).gather = s.gather := by unfold State.setGpr; split <;> rfl
@[simp] theorem setGpr_raced (s : State) (r : RegNum) (v : Word) : (s.setGpr r v).raced = s.raced := by unfold State.setGpr; split <;> rfl
@[simp] theorem setGpr_code (s : State) (r : RegNum) (v : Word) : (s.setGpr r v).code = s.code := by unfold State.setGpr; split <;> rfl
@[simp] theorem setGpr_ramMap (s : State) (r : RegNum) (v : Word) : (s.setGpr r v).ramMap = s.ramMap := by unfold State.setGpr; split <;> rfl
@[simp] theorem setGpr_ddrConfig (s : State) (r : RegNum) (v : Word) : (s.setGpr r v).ddrConfig = s.ddrConfig := by unfold State.setGpr; split <;> rfl
@[simp] theorem setGpr_ddrSample (s : State) (r : RegNum) (v : Word) : (s.setGpr r v).ddrSample = s.ddrSample := by unfold State.setGpr; split <;> rfl
@[simp] theorem setGpr_ddrReady (s : State) (r : RegNum) (v : Word) : (s.setGpr r v).ddrReady = s.ddrReady := by unfold State.setGpr; split <;> rfl
@[simp] theorem setGpr_sampleReady (s : State) (r : RegNum) (v : Word) : (s.setGpr r v).sampleReady = s.sampleReady := by unfold State.setGpr; split <;> rfl
@[simp] theorem setGpr_pins (s : State) (r : RegNum) (v : Word) : (s.setGpr r v).pins = s.pins := by unfold State.setGpr; split <;> rfl
@[simp] theorem setGpr_timerIp (s : State) (r : RegNum) (v : Word) : (s.setGpr r v).timerIp = s.timerIp := by unfold State.setGpr; split <;> rfl
@[simp] theorem setGpr_pendingWatch (s : State) (r : RegNum) (v : Word) : (s.setGpr r v).pendingWatch = s.pendingWatch := by unfold State.setGpr; split <;> rfl
@[simp] theorem setGpr_randomHold (s : State) (r : RegNum) (v : Word) : (s.setGpr r v).randomHold = s.randomHold := by unfold State.setGpr; split <;> rfl
@[simp] theorem setGpr_softDelay0 (s : State) (r : RegNum) (v : Word) : (s.setGpr r v).softDelay0 = s.softDelay0 := by unfold State.setGpr; split <;> rfl
@[simp] theorem setGpr_softDelay1 (s : State) (r : RegNum) (v : Word) : (s.setGpr r v).softDelay1 = s.softDelay1 := by unfold State.setGpr; split <;> rfl
@[simp] theorem setGpr_countIdle (s : State) (r : RegNum) (v : Word) : (s.setGpr r v).countIdle = s.countIdle := by unfold State.setGpr; split <;> rfl
@[simp] theorem setGpr_free (s : State) (r : RegNum) (v : Word) : (s.setGpr r v).free = s.free := by unfold State.setGpr; split <;> rfl

/-! ### setHiLo -/

@[simp] theorem setHiLo_gprs (s : State) (hi lo : Word) : (s.setHiLo hi lo).gprs = s.gprs := rfl
@[simp] theorem setHiLo_pc (s : State) (hi lo : Word) : (s.setHiLo hi lo).pc = s.pc := rfl
@[simp] theorem setHiLo_delay (s : State) (hi lo : Word) : (s.setHiLo hi lo).delay = s.delay := rfl
@[simp] theorem setHiLo_llBit (s : State) (hi lo : Word) : (s.setHiLo hi lo).llBit = s.llBit := rfl
@[simp] theorem setHiLo_llPa (s : State) (hi lo : Word) : (s.setHiLo hi lo).llPa = s.llPa := rfl
@[simp] theorem setHiLo_cp0 (s : State) (hi lo : Word) : (s.setHiLo hi lo).cp0 = s.cp0 := rfl
@[simp] theorem setHiLo_tlb (s : State) (hi lo : Word) : (s.setHiLo hi lo).tlb = s.tlb := rfl
@[simp] theorem setHiLo_tlbWritten (s : State) (hi lo : Word) : (s.setHiLo hi lo).tlbWritten = s.tlbWritten := rfl
@[simp] theorem setHiLo_itlbStale (s : State) (hi lo : Word) : (s.setHiLo hi lo).itlbStale = s.itlbStale := rfl
@[simp] theorem setHiLo_fprs (s : State) (hi lo : Word) : (s.setHiLo hi lo).fprs = s.fprs := rfl
@[simp] theorem setHiLo_fcsr (s : State) (hi lo : Word) : (s.setHiLo hi lo).fcsr = s.fcsr := rfl
@[simp] theorem setHiLo_memory (s : State) (hi lo : Word) : (s.setHiLo hi lo).memory = s.memory := rfl
@[simp] theorem setHiLo_caches (s : State) (hi lo : Word) : (s.setHiLo hi lo).caches = s.caches := rfl
@[simp] theorem setHiLo_gather (s : State) (hi lo : Word) : (s.setHiLo hi lo).gather = s.gather := rfl
@[simp] theorem setHiLo_raced (s : State) (hi lo : Word) : (s.setHiLo hi lo).raced = s.raced := rfl
@[simp] theorem setHiLo_code (s : State) (hi lo : Word) : (s.setHiLo hi lo).code = s.code := rfl
@[simp] theorem setHiLo_ramMap (s : State) (hi lo : Word) : (s.setHiLo hi lo).ramMap = s.ramMap := rfl
@[simp] theorem setHiLo_ddrConfig (s : State) (hi lo : Word) : (s.setHiLo hi lo).ddrConfig = s.ddrConfig := rfl
@[simp] theorem setHiLo_ddrSample (s : State) (hi lo : Word) : (s.setHiLo hi lo).ddrSample = s.ddrSample := rfl
@[simp] theorem setHiLo_ddrReady (s : State) (hi lo : Word) : (s.setHiLo hi lo).ddrReady = s.ddrReady := rfl
@[simp] theorem setHiLo_sampleReady (s : State) (hi lo : Word) : (s.setHiLo hi lo).sampleReady = s.sampleReady := rfl
@[simp] theorem setHiLo_pins (s : State) (hi lo : Word) : (s.setHiLo hi lo).pins = s.pins := rfl
@[simp] theorem setHiLo_timerIp (s : State) (hi lo : Word) : (s.setHiLo hi lo).timerIp = s.timerIp := rfl
@[simp] theorem setHiLo_pendingWatch (s : State) (hi lo : Word) : (s.setHiLo hi lo).pendingWatch = s.pendingWatch := rfl
@[simp] theorem setHiLo_randomHold (s : State) (hi lo : Word) : (s.setHiLo hi lo).randomHold = s.randomHold := rfl
@[simp] theorem setHiLo_softDelay0 (s : State) (hi lo : Word) : (s.setHiLo hi lo).softDelay0 = s.softDelay0 := rfl
@[simp] theorem setHiLo_softDelay1 (s : State) (hi lo : Word) : (s.setHiLo hi lo).softDelay1 = s.softDelay1 := rfl
@[simp] theorem setHiLo_countIdle (s : State) (hi lo : Word) : (s.setHiLo hi lo).countIdle = s.countIdle := rfl
@[simp] theorem setHiLo_free (s : State) (hi lo : Word) : (s.setHiLo hi lo).free = s.free := rfl

/-! ### stepped -/

@[simp] theorem stepped_gprs (s : State) : (s.stepped).gprs = s.gprs := rfl
@[simp] theorem stepped_hi (s : State) : (s.stepped).hi = s.hi := rfl
@[simp] theorem stepped_lo (s : State) : (s.stepped).lo = s.lo := rfl
@[simp] theorem stepped_llBit (s : State) : (s.stepped).llBit = s.llBit := rfl
@[simp] theorem stepped_llPa (s : State) : (s.stepped).llPa = s.llPa := rfl
@[simp] theorem stepped_cp0 (s : State) : (s.stepped).cp0 = s.cp0 := rfl
@[simp] theorem stepped_tlb (s : State) : (s.stepped).tlb = s.tlb := rfl
@[simp] theorem stepped_tlbWritten (s : State) : (s.stepped).tlbWritten = s.tlbWritten := rfl
@[simp] theorem stepped_itlbStale (s : State) : (s.stepped).itlbStale = s.itlbStale := rfl
@[simp] theorem stepped_fprs (s : State) : (s.stepped).fprs = s.fprs := rfl
@[simp] theorem stepped_fcsr (s : State) : (s.stepped).fcsr = s.fcsr := rfl
@[simp] theorem stepped_memory (s : State) : (s.stepped).memory = s.memory := rfl
@[simp] theorem stepped_caches (s : State) : (s.stepped).caches = s.caches := rfl
@[simp] theorem stepped_gather (s : State) : (s.stepped).gather = s.gather := rfl
@[simp] theorem stepped_raced (s : State) : (s.stepped).raced = s.raced := rfl
@[simp] theorem stepped_code (s : State) : (s.stepped).code = s.code := rfl
@[simp] theorem stepped_ramMap (s : State) : (s.stepped).ramMap = s.ramMap := rfl
@[simp] theorem stepped_ddrConfig (s : State) : (s.stepped).ddrConfig = s.ddrConfig := rfl
@[simp] theorem stepped_ddrSample (s : State) : (s.stepped).ddrSample = s.ddrSample := rfl
@[simp] theorem stepped_ddrReady (s : State) : (s.stepped).ddrReady = s.ddrReady := rfl
@[simp] theorem stepped_sampleReady (s : State) : (s.stepped).sampleReady = s.sampleReady := rfl
@[simp] theorem stepped_pins (s : State) : (s.stepped).pins = s.pins := rfl
@[simp] theorem stepped_timerIp (s : State) : (s.stepped).timerIp = s.timerIp := rfl
@[simp] theorem stepped_pendingWatch (s : State) : (s.stepped).pendingWatch = s.pendingWatch := rfl
@[simp] theorem stepped_randomHold (s : State) : (s.stepped).randomHold = s.randomHold := rfl
@[simp] theorem stepped_softDelay0 (s : State) : (s.stepped).softDelay0 = s.softDelay0 := rfl
@[simp] theorem stepped_softDelay1 (s : State) : (s.stepped).softDelay1 = s.softDelay1 := rfl
@[simp] theorem stepped_countIdle (s : State) : (s.stepped).countIdle = s.countIdle := rfl
@[simp] theorem stepped_free (s : State) : (s.stepped).free = s.free := rfl

/-! ### setFprRaw -/

@[simp] theorem setFprRaw_gprs (s : State) (n : RegNum) (v : Word) : (s.setFprRaw n v).gprs = s.gprs := rfl
@[simp] theorem setFprRaw_pc (s : State) (n : RegNum) (v : Word) : (s.setFprRaw n v).pc = s.pc := rfl
@[simp] theorem setFprRaw_delay (s : State) (n : RegNum) (v : Word) : (s.setFprRaw n v).delay = s.delay := rfl
@[simp] theorem setFprRaw_hi (s : State) (n : RegNum) (v : Word) : (s.setFprRaw n v).hi = s.hi := rfl
@[simp] theorem setFprRaw_lo (s : State) (n : RegNum) (v : Word) : (s.setFprRaw n v).lo = s.lo := rfl
@[simp] theorem setFprRaw_llBit (s : State) (n : RegNum) (v : Word) : (s.setFprRaw n v).llBit = s.llBit := rfl
@[simp] theorem setFprRaw_llPa (s : State) (n : RegNum) (v : Word) : (s.setFprRaw n v).llPa = s.llPa := rfl
@[simp] theorem setFprRaw_cp0 (s : State) (n : RegNum) (v : Word) : (s.setFprRaw n v).cp0 = s.cp0 := rfl
@[simp] theorem setFprRaw_tlb (s : State) (n : RegNum) (v : Word) : (s.setFprRaw n v).tlb = s.tlb := rfl
@[simp] theorem setFprRaw_tlbWritten (s : State) (n : RegNum) (v : Word) : (s.setFprRaw n v).tlbWritten = s.tlbWritten := rfl
@[simp] theorem setFprRaw_itlbStale (s : State) (n : RegNum) (v : Word) : (s.setFprRaw n v).itlbStale = s.itlbStale := rfl
@[simp] theorem setFprRaw_fcsr (s : State) (n : RegNum) (v : Word) : (s.setFprRaw n v).fcsr = s.fcsr := rfl
@[simp] theorem setFprRaw_memory (s : State) (n : RegNum) (v : Word) : (s.setFprRaw n v).memory = s.memory := rfl
@[simp] theorem setFprRaw_caches (s : State) (n : RegNum) (v : Word) : (s.setFprRaw n v).caches = s.caches := rfl
@[simp] theorem setFprRaw_gather (s : State) (n : RegNum) (v : Word) : (s.setFprRaw n v).gather = s.gather := rfl
@[simp] theorem setFprRaw_raced (s : State) (n : RegNum) (v : Word) : (s.setFprRaw n v).raced = s.raced := rfl
@[simp] theorem setFprRaw_code (s : State) (n : RegNum) (v : Word) : (s.setFprRaw n v).code = s.code := rfl
@[simp] theorem setFprRaw_ramMap (s : State) (n : RegNum) (v : Word) : (s.setFprRaw n v).ramMap = s.ramMap := rfl
@[simp] theorem setFprRaw_ddrConfig (s : State) (n : RegNum) (v : Word) : (s.setFprRaw n v).ddrConfig = s.ddrConfig := rfl
@[simp] theorem setFprRaw_ddrSample (s : State) (n : RegNum) (v : Word) : (s.setFprRaw n v).ddrSample = s.ddrSample := rfl
@[simp] theorem setFprRaw_ddrReady (s : State) (n : RegNum) (v : Word) : (s.setFprRaw n v).ddrReady = s.ddrReady := rfl
@[simp] theorem setFprRaw_sampleReady (s : State) (n : RegNum) (v : Word) : (s.setFprRaw n v).sampleReady = s.sampleReady := rfl
@[simp] theorem setFprRaw_pins (s : State) (n : RegNum) (v : Word) : (s.setFprRaw n v).pins = s.pins := rfl
@[simp] theorem setFprRaw_timerIp (s : State) (n : RegNum) (v : Word) : (s.setFprRaw n v).timerIp = s.timerIp := rfl
@[simp] theorem setFprRaw_pendingWatch (s : State) (n : RegNum) (v : Word) : (s.setFprRaw n v).pendingWatch = s.pendingWatch := rfl
@[simp] theorem setFprRaw_randomHold (s : State) (n : RegNum) (v : Word) : (s.setFprRaw n v).randomHold = s.randomHold := rfl
@[simp] theorem setFprRaw_softDelay0 (s : State) (n : RegNum) (v : Word) : (s.setFprRaw n v).softDelay0 = s.softDelay0 := rfl
@[simp] theorem setFprRaw_softDelay1 (s : State) (n : RegNum) (v : Word) : (s.setFprRaw n v).softDelay1 = s.softDelay1 := rfl
@[simp] theorem setFprRaw_countIdle (s : State) (n : RegNum) (v : Word) : (s.setFprRaw n v).countIdle = s.countIdle := rfl
@[simp] theorem setFprRaw_free (s : State) (n : RegNum) (v : Word) : (s.setFprRaw n v).free = s.free := rfl

/-! ### setFpCause -/

@[simp] theorem setFpCause_gprs (s : State) (c : BitVec 6) : (s.setFpCause c).gprs = s.gprs := rfl
@[simp] theorem setFpCause_pc (s : State) (c : BitVec 6) : (s.setFpCause c).pc = s.pc := rfl
@[simp] theorem setFpCause_delay (s : State) (c : BitVec 6) : (s.setFpCause c).delay = s.delay := rfl
@[simp] theorem setFpCause_hi (s : State) (c : BitVec 6) : (s.setFpCause c).hi = s.hi := rfl
@[simp] theorem setFpCause_lo (s : State) (c : BitVec 6) : (s.setFpCause c).lo = s.lo := rfl
@[simp] theorem setFpCause_llBit (s : State) (c : BitVec 6) : (s.setFpCause c).llBit = s.llBit := rfl
@[simp] theorem setFpCause_llPa (s : State) (c : BitVec 6) : (s.setFpCause c).llPa = s.llPa := rfl
@[simp] theorem setFpCause_cp0 (s : State) (c : BitVec 6) : (s.setFpCause c).cp0 = s.cp0 := rfl
@[simp] theorem setFpCause_tlb (s : State) (c : BitVec 6) : (s.setFpCause c).tlb = s.tlb := rfl
@[simp] theorem setFpCause_tlbWritten (s : State) (c : BitVec 6) : (s.setFpCause c).tlbWritten = s.tlbWritten := rfl
@[simp] theorem setFpCause_itlbStale (s : State) (c : BitVec 6) : (s.setFpCause c).itlbStale = s.itlbStale := rfl
@[simp] theorem setFpCause_fprs (s : State) (c : BitVec 6) : (s.setFpCause c).fprs = s.fprs := rfl
@[simp] theorem setFpCause_memory (s : State) (c : BitVec 6) : (s.setFpCause c).memory = s.memory := rfl
@[simp] theorem setFpCause_caches (s : State) (c : BitVec 6) : (s.setFpCause c).caches = s.caches := rfl
@[simp] theorem setFpCause_gather (s : State) (c : BitVec 6) : (s.setFpCause c).gather = s.gather := rfl
@[simp] theorem setFpCause_raced (s : State) (c : BitVec 6) : (s.setFpCause c).raced = s.raced := rfl
@[simp] theorem setFpCause_code (s : State) (c : BitVec 6) : (s.setFpCause c).code = s.code := rfl
@[simp] theorem setFpCause_ramMap (s : State) (c : BitVec 6) : (s.setFpCause c).ramMap = s.ramMap := rfl
@[simp] theorem setFpCause_ddrConfig (s : State) (c : BitVec 6) : (s.setFpCause c).ddrConfig = s.ddrConfig := rfl
@[simp] theorem setFpCause_ddrSample (s : State) (c : BitVec 6) : (s.setFpCause c).ddrSample = s.ddrSample := rfl
@[simp] theorem setFpCause_ddrReady (s : State) (c : BitVec 6) : (s.setFpCause c).ddrReady = s.ddrReady := rfl
@[simp] theorem setFpCause_sampleReady (s : State) (c : BitVec 6) : (s.setFpCause c).sampleReady = s.sampleReady := rfl
@[simp] theorem setFpCause_pins (s : State) (c : BitVec 6) : (s.setFpCause c).pins = s.pins := rfl
@[simp] theorem setFpCause_timerIp (s : State) (c : BitVec 6) : (s.setFpCause c).timerIp = s.timerIp := rfl
@[simp] theorem setFpCause_pendingWatch (s : State) (c : BitVec 6) : (s.setFpCause c).pendingWatch = s.pendingWatch := rfl
@[simp] theorem setFpCause_randomHold (s : State) (c : BitVec 6) : (s.setFpCause c).randomHold = s.randomHold := rfl
@[simp] theorem setFpCause_softDelay0 (s : State) (c : BitVec 6) : (s.setFpCause c).softDelay0 = s.softDelay0 := rfl
@[simp] theorem setFpCause_softDelay1 (s : State) (c : BitVec 6) : (s.setFpCause c).softDelay1 = s.softDelay1 := rfl
@[simp] theorem setFpCause_countIdle (s : State) (c : BitVec 6) : (s.setFpCause c).countIdle = s.countIdle := rfl
@[simp] theorem setFpCause_free (s : State) (c : BitVec 6) : (s.setFpCause c).free = s.free := rfl

/-! ### recordFp -/

@[simp] theorem recordFp_gprs (s : State) (c : BitVec 6) : (s.recordFp c).gprs = s.gprs := rfl
@[simp] theorem recordFp_pc (s : State) (c : BitVec 6) : (s.recordFp c).pc = s.pc := rfl
@[simp] theorem recordFp_delay (s : State) (c : BitVec 6) : (s.recordFp c).delay = s.delay := rfl
@[simp] theorem recordFp_hi (s : State) (c : BitVec 6) : (s.recordFp c).hi = s.hi := rfl
@[simp] theorem recordFp_lo (s : State) (c : BitVec 6) : (s.recordFp c).lo = s.lo := rfl
@[simp] theorem recordFp_llBit (s : State) (c : BitVec 6) : (s.recordFp c).llBit = s.llBit := rfl
@[simp] theorem recordFp_llPa (s : State) (c : BitVec 6) : (s.recordFp c).llPa = s.llPa := rfl
@[simp] theorem recordFp_cp0 (s : State) (c : BitVec 6) : (s.recordFp c).cp0 = s.cp0 := rfl
@[simp] theorem recordFp_tlb (s : State) (c : BitVec 6) : (s.recordFp c).tlb = s.tlb := rfl
@[simp] theorem recordFp_tlbWritten (s : State) (c : BitVec 6) : (s.recordFp c).tlbWritten = s.tlbWritten := rfl
@[simp] theorem recordFp_itlbStale (s : State) (c : BitVec 6) : (s.recordFp c).itlbStale = s.itlbStale := rfl
@[simp] theorem recordFp_fprs (s : State) (c : BitVec 6) : (s.recordFp c).fprs = s.fprs := rfl
@[simp] theorem recordFp_memory (s : State) (c : BitVec 6) : (s.recordFp c).memory = s.memory := rfl
@[simp] theorem recordFp_caches (s : State) (c : BitVec 6) : (s.recordFp c).caches = s.caches := rfl
@[simp] theorem recordFp_gather (s : State) (c : BitVec 6) : (s.recordFp c).gather = s.gather := rfl
@[simp] theorem recordFp_raced (s : State) (c : BitVec 6) : (s.recordFp c).raced = s.raced := rfl
@[simp] theorem recordFp_code (s : State) (c : BitVec 6) : (s.recordFp c).code = s.code := rfl
@[simp] theorem recordFp_ramMap (s : State) (c : BitVec 6) : (s.recordFp c).ramMap = s.ramMap := rfl
@[simp] theorem recordFp_ddrConfig (s : State) (c : BitVec 6) : (s.recordFp c).ddrConfig = s.ddrConfig := rfl
@[simp] theorem recordFp_ddrSample (s : State) (c : BitVec 6) : (s.recordFp c).ddrSample = s.ddrSample := rfl
@[simp] theorem recordFp_ddrReady (s : State) (c : BitVec 6) : (s.recordFp c).ddrReady = s.ddrReady := rfl
@[simp] theorem recordFp_sampleReady (s : State) (c : BitVec 6) : (s.recordFp c).sampleReady = s.sampleReady := rfl
@[simp] theorem recordFp_pins (s : State) (c : BitVec 6) : (s.recordFp c).pins = s.pins := rfl
@[simp] theorem recordFp_timerIp (s : State) (c : BitVec 6) : (s.recordFp c).timerIp = s.timerIp := rfl
@[simp] theorem recordFp_pendingWatch (s : State) (c : BitVec 6) : (s.recordFp c).pendingWatch = s.pendingWatch := rfl
@[simp] theorem recordFp_randomHold (s : State) (c : BitVec 6) : (s.recordFp c).randomHold = s.randomHold := rfl
@[simp] theorem recordFp_softDelay0 (s : State) (c : BitVec 6) : (s.recordFp c).softDelay0 = s.softDelay0 := rfl
@[simp] theorem recordFp_softDelay1 (s : State) (c : BitVec 6) : (s.recordFp c).softDelay1 = s.softDelay1 := rfl
@[simp] theorem recordFp_countIdle (s : State) (c : BitVec 6) : (s.recordFp c).countIdle = s.countIdle := rfl
@[simp] theorem recordFp_free (s : State) (c : BitVec 6) : (s.recordFp c).free = s.free := rfl

/-! ### setIline -/

@[simp] theorem setIline_gprs (s : State) (k : Nat) (l : ILine) : (s.setIline k l).gprs = s.gprs := rfl
@[simp] theorem setIline_pc (s : State) (k : Nat) (l : ILine) : (s.setIline k l).pc = s.pc := rfl
@[simp] theorem setIline_delay (s : State) (k : Nat) (l : ILine) : (s.setIline k l).delay = s.delay := rfl
@[simp] theorem setIline_hi (s : State) (k : Nat) (l : ILine) : (s.setIline k l).hi = s.hi := rfl
@[simp] theorem setIline_lo (s : State) (k : Nat) (l : ILine) : (s.setIline k l).lo = s.lo := rfl
@[simp] theorem setIline_llBit (s : State) (k : Nat) (l : ILine) : (s.setIline k l).llBit = s.llBit := rfl
@[simp] theorem setIline_llPa (s : State) (k : Nat) (l : ILine) : (s.setIline k l).llPa = s.llPa := rfl
@[simp] theorem setIline_cp0 (s : State) (k : Nat) (l : ILine) : (s.setIline k l).cp0 = s.cp0 := rfl
@[simp] theorem setIline_tlb (s : State) (k : Nat) (l : ILine) : (s.setIline k l).tlb = s.tlb := rfl
@[simp] theorem setIline_tlbWritten (s : State) (k : Nat) (l : ILine) : (s.setIline k l).tlbWritten = s.tlbWritten := rfl
@[simp] theorem setIline_itlbStale (s : State) (k : Nat) (l : ILine) : (s.setIline k l).itlbStale = s.itlbStale := rfl
@[simp] theorem setIline_fprs (s : State) (k : Nat) (l : ILine) : (s.setIline k l).fprs = s.fprs := rfl
@[simp] theorem setIline_fcsr (s : State) (k : Nat) (l : ILine) : (s.setIline k l).fcsr = s.fcsr := rfl
@[simp] theorem setIline_memory (s : State) (k : Nat) (l : ILine) : (s.setIline k l).memory = s.memory := rfl
@[simp] theorem setIline_gather (s : State) (k : Nat) (l : ILine) : (s.setIline k l).gather = s.gather := rfl
@[simp] theorem setIline_raced (s : State) (k : Nat) (l : ILine) : (s.setIline k l).raced = s.raced := rfl
@[simp] theorem setIline_code (s : State) (k : Nat) (l : ILine) : (s.setIline k l).code = s.code := rfl
@[simp] theorem setIline_ramMap (s : State) (k : Nat) (l : ILine) : (s.setIline k l).ramMap = s.ramMap := rfl
@[simp] theorem setIline_ddrConfig (s : State) (k : Nat) (l : ILine) : (s.setIline k l).ddrConfig = s.ddrConfig := rfl
@[simp] theorem setIline_ddrSample (s : State) (k : Nat) (l : ILine) : (s.setIline k l).ddrSample = s.ddrSample := rfl
@[simp] theorem setIline_ddrReady (s : State) (k : Nat) (l : ILine) : (s.setIline k l).ddrReady = s.ddrReady := rfl
@[simp] theorem setIline_sampleReady (s : State) (k : Nat) (l : ILine) : (s.setIline k l).sampleReady = s.sampleReady := rfl
@[simp] theorem setIline_pins (s : State) (k : Nat) (l : ILine) : (s.setIline k l).pins = s.pins := rfl
@[simp] theorem setIline_timerIp (s : State) (k : Nat) (l : ILine) : (s.setIline k l).timerIp = s.timerIp := rfl
@[simp] theorem setIline_pendingWatch (s : State) (k : Nat) (l : ILine) : (s.setIline k l).pendingWatch = s.pendingWatch := rfl
@[simp] theorem setIline_randomHold (s : State) (k : Nat) (l : ILine) : (s.setIline k l).randomHold = s.randomHold := rfl
@[simp] theorem setIline_softDelay0 (s : State) (k : Nat) (l : ILine) : (s.setIline k l).softDelay0 = s.softDelay0 := rfl
@[simp] theorem setIline_softDelay1 (s : State) (k : Nat) (l : ILine) : (s.setIline k l).softDelay1 = s.softDelay1 := rfl
@[simp] theorem setIline_countIdle (s : State) (k : Nat) (l : ILine) : (s.setIline k l).countIdle = s.countIdle := rfl
@[simp] theorem setIline_free (s : State) (k : Nat) (l : ILine) : (s.setIline k l).free = s.free := rfl

/-! ### setDline -/

@[simp] theorem setDline_gprs (s : State) (k : Nat) (l : DLine) : (s.setDline k l).gprs = s.gprs := rfl
@[simp] theorem setDline_pc (s : State) (k : Nat) (l : DLine) : (s.setDline k l).pc = s.pc := rfl
@[simp] theorem setDline_delay (s : State) (k : Nat) (l : DLine) : (s.setDline k l).delay = s.delay := rfl
@[simp] theorem setDline_hi (s : State) (k : Nat) (l : DLine) : (s.setDline k l).hi = s.hi := rfl
@[simp] theorem setDline_lo (s : State) (k : Nat) (l : DLine) : (s.setDline k l).lo = s.lo := rfl
@[simp] theorem setDline_llBit (s : State) (k : Nat) (l : DLine) : (s.setDline k l).llBit = s.llBit := rfl
@[simp] theorem setDline_llPa (s : State) (k : Nat) (l : DLine) : (s.setDline k l).llPa = s.llPa := rfl
@[simp] theorem setDline_cp0 (s : State) (k : Nat) (l : DLine) : (s.setDline k l).cp0 = s.cp0 := rfl
@[simp] theorem setDline_tlb (s : State) (k : Nat) (l : DLine) : (s.setDline k l).tlb = s.tlb := rfl
@[simp] theorem setDline_tlbWritten (s : State) (k : Nat) (l : DLine) : (s.setDline k l).tlbWritten = s.tlbWritten := rfl
@[simp] theorem setDline_itlbStale (s : State) (k : Nat) (l : DLine) : (s.setDline k l).itlbStale = s.itlbStale := rfl
@[simp] theorem setDline_fprs (s : State) (k : Nat) (l : DLine) : (s.setDline k l).fprs = s.fprs := rfl
@[simp] theorem setDline_fcsr (s : State) (k : Nat) (l : DLine) : (s.setDline k l).fcsr = s.fcsr := rfl
@[simp] theorem setDline_memory (s : State) (k : Nat) (l : DLine) : (s.setDline k l).memory = s.memory := rfl
@[simp] theorem setDline_gather (s : State) (k : Nat) (l : DLine) : (s.setDline k l).gather = s.gather := rfl
@[simp] theorem setDline_raced (s : State) (k : Nat) (l : DLine) : (s.setDline k l).raced = s.raced := rfl
@[simp] theorem setDline_code (s : State) (k : Nat) (l : DLine) : (s.setDline k l).code = s.code := rfl
@[simp] theorem setDline_ramMap (s : State) (k : Nat) (l : DLine) : (s.setDline k l).ramMap = s.ramMap := rfl
@[simp] theorem setDline_ddrConfig (s : State) (k : Nat) (l : DLine) : (s.setDline k l).ddrConfig = s.ddrConfig := rfl
@[simp] theorem setDline_ddrSample (s : State) (k : Nat) (l : DLine) : (s.setDline k l).ddrSample = s.ddrSample := rfl
@[simp] theorem setDline_ddrReady (s : State) (k : Nat) (l : DLine) : (s.setDline k l).ddrReady = s.ddrReady := rfl
@[simp] theorem setDline_sampleReady (s : State) (k : Nat) (l : DLine) : (s.setDline k l).sampleReady = s.sampleReady := rfl
@[simp] theorem setDline_pins (s : State) (k : Nat) (l : DLine) : (s.setDline k l).pins = s.pins := rfl
@[simp] theorem setDline_timerIp (s : State) (k : Nat) (l : DLine) : (s.setDline k l).timerIp = s.timerIp := rfl
@[simp] theorem setDline_pendingWatch (s : State) (k : Nat) (l : DLine) : (s.setDline k l).pendingWatch = s.pendingWatch := rfl
@[simp] theorem setDline_randomHold (s : State) (k : Nat) (l : DLine) : (s.setDline k l).randomHold = s.randomHold := rfl
@[simp] theorem setDline_softDelay0 (s : State) (k : Nat) (l : DLine) : (s.setDline k l).softDelay0 = s.softDelay0 := rfl
@[simp] theorem setDline_softDelay1 (s : State) (k : Nat) (l : DLine) : (s.setDline k l).softDelay1 = s.softDelay1 := rfl
@[simp] theorem setDline_countIdle (s : State) (k : Nat) (l : DLine) : (s.setDline k l).countIdle = s.countIdle := rfl
@[simp] theorem setDline_free (s : State) (k : Nat) (l : DLine) : (s.setDline k l).free = s.free := rfl

/-! ### setL2line -/

@[simp] theorem setL2line_gprs (s : State) (k : Nat) (l : L2Line) : (s.setL2line k l).gprs = s.gprs := rfl
@[simp] theorem setL2line_pc (s : State) (k : Nat) (l : L2Line) : (s.setL2line k l).pc = s.pc := rfl
@[simp] theorem setL2line_delay (s : State) (k : Nat) (l : L2Line) : (s.setL2line k l).delay = s.delay := rfl
@[simp] theorem setL2line_hi (s : State) (k : Nat) (l : L2Line) : (s.setL2line k l).hi = s.hi := rfl
@[simp] theorem setL2line_lo (s : State) (k : Nat) (l : L2Line) : (s.setL2line k l).lo = s.lo := rfl
@[simp] theorem setL2line_llBit (s : State) (k : Nat) (l : L2Line) : (s.setL2line k l).llBit = s.llBit := rfl
@[simp] theorem setL2line_llPa (s : State) (k : Nat) (l : L2Line) : (s.setL2line k l).llPa = s.llPa := rfl
@[simp] theorem setL2line_cp0 (s : State) (k : Nat) (l : L2Line) : (s.setL2line k l).cp0 = s.cp0 := rfl
@[simp] theorem setL2line_tlb (s : State) (k : Nat) (l : L2Line) : (s.setL2line k l).tlb = s.tlb := rfl
@[simp] theorem setL2line_tlbWritten (s : State) (k : Nat) (l : L2Line) : (s.setL2line k l).tlbWritten = s.tlbWritten := rfl
@[simp] theorem setL2line_itlbStale (s : State) (k : Nat) (l : L2Line) : (s.setL2line k l).itlbStale = s.itlbStale := rfl
@[simp] theorem setL2line_fprs (s : State) (k : Nat) (l : L2Line) : (s.setL2line k l).fprs = s.fprs := rfl
@[simp] theorem setL2line_fcsr (s : State) (k : Nat) (l : L2Line) : (s.setL2line k l).fcsr = s.fcsr := rfl
@[simp] theorem setL2line_memory (s : State) (k : Nat) (l : L2Line) : (s.setL2line k l).memory = s.memory := rfl
@[simp] theorem setL2line_gather (s : State) (k : Nat) (l : L2Line) : (s.setL2line k l).gather = s.gather := rfl
@[simp] theorem setL2line_raced (s : State) (k : Nat) (l : L2Line) : (s.setL2line k l).raced = s.raced := rfl
@[simp] theorem setL2line_code (s : State) (k : Nat) (l : L2Line) : (s.setL2line k l).code = s.code := rfl
@[simp] theorem setL2line_ramMap (s : State) (k : Nat) (l : L2Line) : (s.setL2line k l).ramMap = s.ramMap := rfl
@[simp] theorem setL2line_ddrConfig (s : State) (k : Nat) (l : L2Line) : (s.setL2line k l).ddrConfig = s.ddrConfig := rfl
@[simp] theorem setL2line_ddrSample (s : State) (k : Nat) (l : L2Line) : (s.setL2line k l).ddrSample = s.ddrSample := rfl
@[simp] theorem setL2line_ddrReady (s : State) (k : Nat) (l : L2Line) : (s.setL2line k l).ddrReady = s.ddrReady := rfl
@[simp] theorem setL2line_sampleReady (s : State) (k : Nat) (l : L2Line) : (s.setL2line k l).sampleReady = s.sampleReady := rfl
@[simp] theorem setL2line_pins (s : State) (k : Nat) (l : L2Line) : (s.setL2line k l).pins = s.pins := rfl
@[simp] theorem setL2line_timerIp (s : State) (k : Nat) (l : L2Line) : (s.setL2line k l).timerIp = s.timerIp := rfl
@[simp] theorem setL2line_pendingWatch (s : State) (k : Nat) (l : L2Line) : (s.setL2line k l).pendingWatch = s.pendingWatch := rfl
@[simp] theorem setL2line_randomHold (s : State) (k : Nat) (l : L2Line) : (s.setL2line k l).randomHold = s.randomHold := rfl
@[simp] theorem setL2line_softDelay0 (s : State) (k : Nat) (l : L2Line) : (s.setL2line k l).softDelay0 = s.softDelay0 := rfl
@[simp] theorem setL2line_softDelay1 (s : State) (k : Nat) (l : L2Line) : (s.setL2line k l).softDelay1 = s.softDelay1 := rfl
@[simp] theorem setL2line_countIdle (s : State) (k : Nat) (l : L2Line) : (s.setL2line k l).countIdle = s.countIdle := rfl
@[simp] theorem setL2line_free (s : State) (k : Nat) (l : L2Line) : (s.setL2line k l).free = s.free := rfl

/-! ### settle -/

@[simp] theorem settle_gprs (s : State) : (s.settle).gprs = s.gprs := rfl
@[simp] theorem settle_pc (s : State) : (s.settle).pc = s.pc := rfl
@[simp] theorem settle_delay (s : State) : (s.settle).delay = s.delay := rfl
@[simp] theorem settle_hi (s : State) : (s.settle).hi = s.hi := rfl
@[simp] theorem settle_lo (s : State) : (s.settle).lo = s.lo := rfl
@[simp] theorem settle_llBit (s : State) : (s.settle).llBit = s.llBit := rfl
@[simp] theorem settle_llPa (s : State) : (s.settle).llPa = s.llPa := rfl
@[simp] theorem settle_cp0 (s : State) : (s.settle).cp0 = s.cp0 := rfl
@[simp] theorem settle_tlb (s : State) : (s.settle).tlb = s.tlb := rfl
@[simp] theorem settle_tlbWritten (s : State) : (s.settle).tlbWritten = s.tlbWritten := rfl
@[simp] theorem settle_itlbStale (s : State) : (s.settle).itlbStale = s.itlbStale := rfl
@[simp] theorem settle_fprs (s : State) : (s.settle).fprs = s.fprs := rfl
@[simp] theorem settle_fcsr (s : State) : (s.settle).fcsr = s.fcsr := rfl
@[simp] theorem settle_memory (s : State) : (s.settle).memory = s.memory := rfl
@[simp] theorem settle_caches (s : State) : (s.settle).caches = s.caches := rfl
@[simp] theorem settle_gather (s : State) : (s.settle).gather = s.gather := rfl
@[simp] theorem settle_code (s : State) : (s.settle).code = s.code := rfl
@[simp] theorem settle_ramMap (s : State) : (s.settle).ramMap = s.ramMap := rfl
@[simp] theorem settle_ddrConfig (s : State) : (s.settle).ddrConfig = s.ddrConfig := rfl
@[simp] theorem settle_ddrSample (s : State) : (s.settle).ddrSample = s.ddrSample := rfl
@[simp] theorem settle_ddrReady (s : State) : (s.settle).ddrReady = s.ddrReady := rfl
@[simp] theorem settle_sampleReady (s : State) : (s.settle).sampleReady = s.sampleReady := rfl
@[simp] theorem settle_pins (s : State) : (s.settle).pins = s.pins := rfl
@[simp] theorem settle_timerIp (s : State) : (s.settle).timerIp = s.timerIp := rfl
@[simp] theorem settle_pendingWatch (s : State) : (s.settle).pendingWatch = s.pendingWatch := rfl
@[simp] theorem settle_randomHold (s : State) : (s.settle).randomHold = s.randomHold := rfl
@[simp] theorem settle_softDelay0 (s : State) : (s.settle).softDelay0 = s.softDelay0 := rfl
@[simp] theorem settle_softDelay1 (s : State) : (s.settle).softDelay1 = s.softDelay1 := rfl
@[simp] theorem settle_countIdle (s : State) : (s.settle).countIdle = s.countIdle := rfl
@[simp] theorem settle_free (s : State) : (s.settle).free = s.free := rfl

/-! ### storedThrough -/

@[simp] theorem storedThrough_gprs (s : State) (view : View) (pa : PAddr) (n : Nat) : (s.storedThrough view pa n).gprs = s.gprs := rfl
@[simp] theorem storedThrough_pc (s : State) (view : View) (pa : PAddr) (n : Nat) : (s.storedThrough view pa n).pc = s.pc := rfl
@[simp] theorem storedThrough_delay (s : State) (view : View) (pa : PAddr) (n : Nat) : (s.storedThrough view pa n).delay = s.delay := rfl
@[simp] theorem storedThrough_hi (s : State) (view : View) (pa : PAddr) (n : Nat) : (s.storedThrough view pa n).hi = s.hi := rfl
@[simp] theorem storedThrough_lo (s : State) (view : View) (pa : PAddr) (n : Nat) : (s.storedThrough view pa n).lo = s.lo := rfl
@[simp] theorem storedThrough_llBit (s : State) (view : View) (pa : PAddr) (n : Nat) : (s.storedThrough view pa n).llBit = s.llBit := rfl
@[simp] theorem storedThrough_llPa (s : State) (view : View) (pa : PAddr) (n : Nat) : (s.storedThrough view pa n).llPa = s.llPa := rfl
@[simp] theorem storedThrough_cp0 (s : State) (view : View) (pa : PAddr) (n : Nat) : (s.storedThrough view pa n).cp0 = s.cp0 := rfl
@[simp] theorem storedThrough_tlb (s : State) (view : View) (pa : PAddr) (n : Nat) : (s.storedThrough view pa n).tlb = s.tlb := rfl
@[simp] theorem storedThrough_tlbWritten (s : State) (view : View) (pa : PAddr) (n : Nat) : (s.storedThrough view pa n).tlbWritten = s.tlbWritten := rfl
@[simp] theorem storedThrough_itlbStale (s : State) (view : View) (pa : PAddr) (n : Nat) : (s.storedThrough view pa n).itlbStale = s.itlbStale := rfl
@[simp] theorem storedThrough_fprs (s : State) (view : View) (pa : PAddr) (n : Nat) : (s.storedThrough view pa n).fprs = s.fprs := rfl
@[simp] theorem storedThrough_fcsr (s : State) (view : View) (pa : PAddr) (n : Nat) : (s.storedThrough view pa n).fcsr = s.fcsr := rfl
@[simp] theorem storedThrough_memory (s : State) (view : View) (pa : PAddr) (n : Nat) : (s.storedThrough view pa n).memory = s.memory := rfl
@[simp] theorem storedThrough_caches (s : State) (view : View) (pa : PAddr) (n : Nat) : (s.storedThrough view pa n).caches = s.caches := rfl
@[simp] theorem storedThrough_gather (s : State) (view : View) (pa : PAddr) (n : Nat) : (s.storedThrough view pa n).gather = s.gather := rfl
@[simp] theorem storedThrough_code (s : State) (view : View) (pa : PAddr) (n : Nat) : (s.storedThrough view pa n).code = s.code := rfl
@[simp] theorem storedThrough_ramMap (s : State) (view : View) (pa : PAddr) (n : Nat) : (s.storedThrough view pa n).ramMap = s.ramMap := rfl
@[simp] theorem storedThrough_ddrConfig (s : State) (view : View) (pa : PAddr) (n : Nat) : (s.storedThrough view pa n).ddrConfig = s.ddrConfig := rfl
@[simp] theorem storedThrough_ddrSample (s : State) (view : View) (pa : PAddr) (n : Nat) : (s.storedThrough view pa n).ddrSample = s.ddrSample := rfl
@[simp] theorem storedThrough_ddrReady (s : State) (view : View) (pa : PAddr) (n : Nat) : (s.storedThrough view pa n).ddrReady = s.ddrReady := rfl
@[simp] theorem storedThrough_sampleReady (s : State) (view : View) (pa : PAddr) (n : Nat) : (s.storedThrough view pa n).sampleReady = s.sampleReady := rfl
@[simp] theorem storedThrough_pins (s : State) (view : View) (pa : PAddr) (n : Nat) : (s.storedThrough view pa n).pins = s.pins := rfl
@[simp] theorem storedThrough_timerIp (s : State) (view : View) (pa : PAddr) (n : Nat) : (s.storedThrough view pa n).timerIp = s.timerIp := rfl
@[simp] theorem storedThrough_pendingWatch (s : State) (view : View) (pa : PAddr) (n : Nat) : (s.storedThrough view pa n).pendingWatch = s.pendingWatch := rfl
@[simp] theorem storedThrough_randomHold (s : State) (view : View) (pa : PAddr) (n : Nat) : (s.storedThrough view pa n).randomHold = s.randomHold := rfl
@[simp] theorem storedThrough_softDelay0 (s : State) (view : View) (pa : PAddr) (n : Nat) : (s.storedThrough view pa n).softDelay0 = s.softDelay0 := rfl
@[simp] theorem storedThrough_softDelay1 (s : State) (view : View) (pa : PAddr) (n : Nat) : (s.storedThrough view pa n).softDelay1 = s.softDelay1 := rfl
@[simp] theorem storedThrough_countIdle (s : State) (view : View) (pa : PAddr) (n : Nat) : (s.storedThrough view pa n).countIdle = s.countIdle := rfl
@[simp] theorem storedThrough_free (s : State) (view : View) (pa : PAddr) (n : Nat) : (s.storedThrough view pa n).free = s.free := rfl

/-! ### noteCode -/

@[simp] theorem noteCode_gprs (s : State) (u : State) (past : Bool) (ws : List Nat) (found after : Nat → Nat) : (s.noteCode u past ws found after).gprs = s.gprs := rfl
@[simp] theorem noteCode_pc (s : State) (u : State) (past : Bool) (ws : List Nat) (found after : Nat → Nat) : (s.noteCode u past ws found after).pc = s.pc := rfl
@[simp] theorem noteCode_delay (s : State) (u : State) (past : Bool) (ws : List Nat) (found after : Nat → Nat) : (s.noteCode u past ws found after).delay = s.delay := rfl
@[simp] theorem noteCode_hi (s : State) (u : State) (past : Bool) (ws : List Nat) (found after : Nat → Nat) : (s.noteCode u past ws found after).hi = s.hi := rfl
@[simp] theorem noteCode_lo (s : State) (u : State) (past : Bool) (ws : List Nat) (found after : Nat → Nat) : (s.noteCode u past ws found after).lo = s.lo := rfl
@[simp] theorem noteCode_llBit (s : State) (u : State) (past : Bool) (ws : List Nat) (found after : Nat → Nat) : (s.noteCode u past ws found after).llBit = s.llBit := rfl
@[simp] theorem noteCode_llPa (s : State) (u : State) (past : Bool) (ws : List Nat) (found after : Nat → Nat) : (s.noteCode u past ws found after).llPa = s.llPa := rfl
@[simp] theorem noteCode_cp0 (s : State) (u : State) (past : Bool) (ws : List Nat) (found after : Nat → Nat) : (s.noteCode u past ws found after).cp0 = s.cp0 := rfl
@[simp] theorem noteCode_tlb (s : State) (u : State) (past : Bool) (ws : List Nat) (found after : Nat → Nat) : (s.noteCode u past ws found after).tlb = s.tlb := rfl
@[simp] theorem noteCode_tlbWritten (s : State) (u : State) (past : Bool) (ws : List Nat) (found after : Nat → Nat) : (s.noteCode u past ws found after).tlbWritten = s.tlbWritten := rfl
@[simp] theorem noteCode_itlbStale (s : State) (u : State) (past : Bool) (ws : List Nat) (found after : Nat → Nat) : (s.noteCode u past ws found after).itlbStale = s.itlbStale := rfl
@[simp] theorem noteCode_fprs (s : State) (u : State) (past : Bool) (ws : List Nat) (found after : Nat → Nat) : (s.noteCode u past ws found after).fprs = s.fprs := rfl
@[simp] theorem noteCode_fcsr (s : State) (u : State) (past : Bool) (ws : List Nat) (found after : Nat → Nat) : (s.noteCode u past ws found after).fcsr = s.fcsr := rfl
@[simp] theorem noteCode_memory (s : State) (u : State) (past : Bool) (ws : List Nat) (found after : Nat → Nat) : (s.noteCode u past ws found after).memory = s.memory := rfl
@[simp] theorem noteCode_caches (s : State) (u : State) (past : Bool) (ws : List Nat) (found after : Nat → Nat) : (s.noteCode u past ws found after).caches = s.caches := rfl
@[simp] theorem noteCode_gather (s : State) (u : State) (past : Bool) (ws : List Nat) (found after : Nat → Nat) : (s.noteCode u past ws found after).gather = s.gather := rfl
@[simp] theorem noteCode_raced (s : State) (u : State) (past : Bool) (ws : List Nat) (found after : Nat → Nat) : (s.noteCode u past ws found after).raced = s.raced := rfl
@[simp] theorem noteCode_ramMap (s : State) (u : State) (past : Bool) (ws : List Nat) (found after : Nat → Nat) : (s.noteCode u past ws found after).ramMap = s.ramMap := rfl
@[simp] theorem noteCode_ddrConfig (s : State) (u : State) (past : Bool) (ws : List Nat) (found after : Nat → Nat) : (s.noteCode u past ws found after).ddrConfig = s.ddrConfig := rfl
@[simp] theorem noteCode_ddrSample (s : State) (u : State) (past : Bool) (ws : List Nat) (found after : Nat → Nat) : (s.noteCode u past ws found after).ddrSample = s.ddrSample := rfl
@[simp] theorem noteCode_ddrReady (s : State) (u : State) (past : Bool) (ws : List Nat) (found after : Nat → Nat) : (s.noteCode u past ws found after).ddrReady = s.ddrReady := rfl
@[simp] theorem noteCode_sampleReady (s : State) (u : State) (past : Bool) (ws : List Nat) (found after : Nat → Nat) : (s.noteCode u past ws found after).sampleReady = s.sampleReady := rfl
@[simp] theorem noteCode_pins (s : State) (u : State) (past : Bool) (ws : List Nat) (found after : Nat → Nat) : (s.noteCode u past ws found after).pins = s.pins := rfl
@[simp] theorem noteCode_timerIp (s : State) (u : State) (past : Bool) (ws : List Nat) (found after : Nat → Nat) : (s.noteCode u past ws found after).timerIp = s.timerIp := rfl
@[simp] theorem noteCode_pendingWatch (s : State) (u : State) (past : Bool) (ws : List Nat) (found after : Nat → Nat) : (s.noteCode u past ws found after).pendingWatch = s.pendingWatch := rfl
@[simp] theorem noteCode_randomHold (s : State) (u : State) (past : Bool) (ws : List Nat) (found after : Nat → Nat) : (s.noteCode u past ws found after).randomHold = s.randomHold := rfl
@[simp] theorem noteCode_softDelay0 (s : State) (u : State) (past : Bool) (ws : List Nat) (found after : Nat → Nat) : (s.noteCode u past ws found after).softDelay0 = s.softDelay0 := rfl
@[simp] theorem noteCode_softDelay1 (s : State) (u : State) (past : Bool) (ws : List Nat) (found after : Nat → Nat) : (s.noteCode u past ws found after).softDelay1 = s.softDelay1 := rfl
@[simp] theorem noteCode_countIdle (s : State) (u : State) (past : Bool) (ws : List Nat) (found after : Nat → Nat) : (s.noteCode u past ws found after).countIdle = s.countIdle := rfl
@[simp] theorem noteCode_free (s : State) (u : State) (past : Bool) (ws : List Nat) (found after : Nat → Nat) : (s.noteCode u past ws found after).free = s.free := rfl

/-! ### syncCode -/

@[simp] theorem syncCode_gprs (s : State) : (s.syncCode).gprs = s.gprs := rfl
@[simp] theorem syncCode_pc (s : State) : (s.syncCode).pc = s.pc := rfl
@[simp] theorem syncCode_delay (s : State) : (s.syncCode).delay = s.delay := rfl
@[simp] theorem syncCode_hi (s : State) : (s.syncCode).hi = s.hi := rfl
@[simp] theorem syncCode_lo (s : State) : (s.syncCode).lo = s.lo := rfl
@[simp] theorem syncCode_llBit (s : State) : (s.syncCode).llBit = s.llBit := rfl
@[simp] theorem syncCode_llPa (s : State) : (s.syncCode).llPa = s.llPa := rfl
@[simp] theorem syncCode_cp0 (s : State) : (s.syncCode).cp0 = s.cp0 := rfl
@[simp] theorem syncCode_tlb (s : State) : (s.syncCode).tlb = s.tlb := rfl
@[simp] theorem syncCode_tlbWritten (s : State) : (s.syncCode).tlbWritten = s.tlbWritten := rfl
@[simp] theorem syncCode_itlbStale (s : State) : (s.syncCode).itlbStale = s.itlbStale := rfl
@[simp] theorem syncCode_fprs (s : State) : (s.syncCode).fprs = s.fprs := rfl
@[simp] theorem syncCode_fcsr (s : State) : (s.syncCode).fcsr = s.fcsr := rfl
@[simp] theorem syncCode_memory (s : State) : (s.syncCode).memory = s.memory := rfl
@[simp] theorem syncCode_caches (s : State) : (s.syncCode).caches = s.caches := rfl
@[simp] theorem syncCode_gather (s : State) : (s.syncCode).gather = s.gather := rfl
@[simp] theorem syncCode_raced (s : State) : (s.syncCode).raced = s.raced := rfl
@[simp] theorem syncCode_ramMap (s : State) : (s.syncCode).ramMap = s.ramMap := rfl
@[simp] theorem syncCode_ddrConfig (s : State) : (s.syncCode).ddrConfig = s.ddrConfig := rfl
@[simp] theorem syncCode_ddrSample (s : State) : (s.syncCode).ddrSample = s.ddrSample := rfl
@[simp] theorem syncCode_ddrReady (s : State) : (s.syncCode).ddrReady = s.ddrReady := rfl
@[simp] theorem syncCode_sampleReady (s : State) : (s.syncCode).sampleReady = s.sampleReady := rfl
@[simp] theorem syncCode_pins (s : State) : (s.syncCode).pins = s.pins := rfl
@[simp] theorem syncCode_timerIp (s : State) : (s.syncCode).timerIp = s.timerIp := rfl
@[simp] theorem syncCode_pendingWatch (s : State) : (s.syncCode).pendingWatch = s.pendingWatch := rfl
@[simp] theorem syncCode_randomHold (s : State) : (s.syncCode).randomHold = s.randomHold := rfl
@[simp] theorem syncCode_softDelay0 (s : State) : (s.syncCode).softDelay0 = s.softDelay0 := rfl
@[simp] theorem syncCode_softDelay1 (s : State) : (s.syncCode).softDelay1 = s.softDelay1 := rfl
@[simp] theorem syncCode_countIdle (s : State) : (s.syncCode).countIdle = s.countIdle := rfl
@[simp] theorem syncCode_free (s : State) : (s.syncCode).free = s.free := rfl

/-! ### pushCode -/

@[simp] theorem pushCode_gprs (s : State) (line : Option Nat) (back : Bool) : (s.pushCode line back).gprs = s.gprs := rfl
@[simp] theorem pushCode_pc (s : State) (line : Option Nat) (back : Bool) : (s.pushCode line back).pc = s.pc := rfl
@[simp] theorem pushCode_delay (s : State) (line : Option Nat) (back : Bool) : (s.pushCode line back).delay = s.delay := rfl
@[simp] theorem pushCode_hi (s : State) (line : Option Nat) (back : Bool) : (s.pushCode line back).hi = s.hi := rfl
@[simp] theorem pushCode_lo (s : State) (line : Option Nat) (back : Bool) : (s.pushCode line back).lo = s.lo := rfl
@[simp] theorem pushCode_llBit (s : State) (line : Option Nat) (back : Bool) : (s.pushCode line back).llBit = s.llBit := rfl
@[simp] theorem pushCode_llPa (s : State) (line : Option Nat) (back : Bool) : (s.pushCode line back).llPa = s.llPa := rfl
@[simp] theorem pushCode_cp0 (s : State) (line : Option Nat) (back : Bool) : (s.pushCode line back).cp0 = s.cp0 := rfl
@[simp] theorem pushCode_tlb (s : State) (line : Option Nat) (back : Bool) : (s.pushCode line back).tlb = s.tlb := rfl
@[simp] theorem pushCode_tlbWritten (s : State) (line : Option Nat) (back : Bool) : (s.pushCode line back).tlbWritten = s.tlbWritten := rfl
@[simp] theorem pushCode_itlbStale (s : State) (line : Option Nat) (back : Bool) : (s.pushCode line back).itlbStale = s.itlbStale := rfl
@[simp] theorem pushCode_fprs (s : State) (line : Option Nat) (back : Bool) : (s.pushCode line back).fprs = s.fprs := rfl
@[simp] theorem pushCode_fcsr (s : State) (line : Option Nat) (back : Bool) : (s.pushCode line back).fcsr = s.fcsr := rfl
@[simp] theorem pushCode_memory (s : State) (line : Option Nat) (back : Bool) : (s.pushCode line back).memory = s.memory := rfl
@[simp] theorem pushCode_caches (s : State) (line : Option Nat) (back : Bool) : (s.pushCode line back).caches = s.caches := rfl
@[simp] theorem pushCode_gather (s : State) (line : Option Nat) (back : Bool) : (s.pushCode line back).gather = s.gather := rfl
@[simp] theorem pushCode_raced (s : State) (line : Option Nat) (back : Bool) : (s.pushCode line back).raced = s.raced := rfl
@[simp] theorem pushCode_ramMap (s : State) (line : Option Nat) (back : Bool) : (s.pushCode line back).ramMap = s.ramMap := rfl
@[simp] theorem pushCode_ddrConfig (s : State) (line : Option Nat) (back : Bool) : (s.pushCode line back).ddrConfig = s.ddrConfig := rfl
@[simp] theorem pushCode_ddrSample (s : State) (line : Option Nat) (back : Bool) : (s.pushCode line back).ddrSample = s.ddrSample := rfl
@[simp] theorem pushCode_ddrReady (s : State) (line : Option Nat) (back : Bool) : (s.pushCode line back).ddrReady = s.ddrReady := rfl
@[simp] theorem pushCode_sampleReady (s : State) (line : Option Nat) (back : Bool) : (s.pushCode line back).sampleReady = s.sampleReady := rfl
@[simp] theorem pushCode_pins (s : State) (line : Option Nat) (back : Bool) : (s.pushCode line back).pins = s.pins := rfl
@[simp] theorem pushCode_timerIp (s : State) (line : Option Nat) (back : Bool) : (s.pushCode line back).timerIp = s.timerIp := rfl
@[simp] theorem pushCode_pendingWatch (s : State) (line : Option Nat) (back : Bool) : (s.pushCode line back).pendingWatch = s.pendingWatch := rfl
@[simp] theorem pushCode_randomHold (s : State) (line : Option Nat) (back : Bool) : (s.pushCode line back).randomHold = s.randomHold := rfl
@[simp] theorem pushCode_softDelay0 (s : State) (line : Option Nat) (back : Bool) : (s.pushCode line back).softDelay0 = s.softDelay0 := rfl
@[simp] theorem pushCode_softDelay1 (s : State) (line : Option Nat) (back : Bool) : (s.pushCode line back).softDelay1 = s.softDelay1 := rfl
@[simp] theorem pushCode_countIdle (s : State) (line : Option Nat) (back : Bool) : (s.pushCode line back).countIdle = s.countIdle := rfl
@[simp] theorem pushCode_free (s : State) (line : Option Nat) (back : Bool) : (s.pushCode line back).free = s.free := rfl

/-! ### invalidateCode -/

@[simp] theorem invalidateCode_gprs (s : State) (va : Word) : (s.invalidateCode va).gprs = s.gprs := rfl
@[simp] theorem invalidateCode_pc (s : State) (va : Word) : (s.invalidateCode va).pc = s.pc := rfl
@[simp] theorem invalidateCode_delay (s : State) (va : Word) : (s.invalidateCode va).delay = s.delay := rfl
@[simp] theorem invalidateCode_hi (s : State) (va : Word) : (s.invalidateCode va).hi = s.hi := rfl
@[simp] theorem invalidateCode_lo (s : State) (va : Word) : (s.invalidateCode va).lo = s.lo := rfl
@[simp] theorem invalidateCode_llBit (s : State) (va : Word) : (s.invalidateCode va).llBit = s.llBit := rfl
@[simp] theorem invalidateCode_llPa (s : State) (va : Word) : (s.invalidateCode va).llPa = s.llPa := rfl
@[simp] theorem invalidateCode_cp0 (s : State) (va : Word) : (s.invalidateCode va).cp0 = s.cp0 := rfl
@[simp] theorem invalidateCode_tlb (s : State) (va : Word) : (s.invalidateCode va).tlb = s.tlb := rfl
@[simp] theorem invalidateCode_tlbWritten (s : State) (va : Word) : (s.invalidateCode va).tlbWritten = s.tlbWritten := rfl
@[simp] theorem invalidateCode_itlbStale (s : State) (va : Word) : (s.invalidateCode va).itlbStale = s.itlbStale := rfl
@[simp] theorem invalidateCode_fprs (s : State) (va : Word) : (s.invalidateCode va).fprs = s.fprs := rfl
@[simp] theorem invalidateCode_fcsr (s : State) (va : Word) : (s.invalidateCode va).fcsr = s.fcsr := rfl
@[simp] theorem invalidateCode_memory (s : State) (va : Word) : (s.invalidateCode va).memory = s.memory := rfl
@[simp] theorem invalidateCode_caches (s : State) (va : Word) : (s.invalidateCode va).caches = s.caches := rfl
@[simp] theorem invalidateCode_gather (s : State) (va : Word) : (s.invalidateCode va).gather = s.gather := rfl
@[simp] theorem invalidateCode_raced (s : State) (va : Word) : (s.invalidateCode va).raced = s.raced := rfl
@[simp] theorem invalidateCode_ramMap (s : State) (va : Word) : (s.invalidateCode va).ramMap = s.ramMap := rfl
@[simp] theorem invalidateCode_ddrConfig (s : State) (va : Word) : (s.invalidateCode va).ddrConfig = s.ddrConfig := rfl
@[simp] theorem invalidateCode_ddrSample (s : State) (va : Word) : (s.invalidateCode va).ddrSample = s.ddrSample := rfl
@[simp] theorem invalidateCode_ddrReady (s : State) (va : Word) : (s.invalidateCode va).ddrReady = s.ddrReady := rfl
@[simp] theorem invalidateCode_sampleReady (s : State) (va : Word) : (s.invalidateCode va).sampleReady = s.sampleReady := rfl
@[simp] theorem invalidateCode_pins (s : State) (va : Word) : (s.invalidateCode va).pins = s.pins := rfl
@[simp] theorem invalidateCode_timerIp (s : State) (va : Word) : (s.invalidateCode va).timerIp = s.timerIp := rfl
@[simp] theorem invalidateCode_pendingWatch (s : State) (va : Word) : (s.invalidateCode va).pendingWatch = s.pendingWatch := rfl
@[simp] theorem invalidateCode_randomHold (s : State) (va : Word) : (s.invalidateCode va).randomHold = s.randomHold := rfl
@[simp] theorem invalidateCode_softDelay0 (s : State) (va : Word) : (s.invalidateCode va).softDelay0 = s.softDelay0 := rfl
@[simp] theorem invalidateCode_softDelay1 (s : State) (va : Word) : (s.invalidateCode va).softDelay1 = s.softDelay1 := rfl
@[simp] theorem invalidateCode_countIdle (s : State) (va : Word) : (s.invalidateCode va).countIdle = s.countIdle := rfl
@[simp] theorem invalidateCode_free (s : State) (va : Word) : (s.invalidateCode va).free = s.free := rfl

/-! ### dropD -/

@[simp] theorem dropD_gprs (s : State) (k : Nat) : (s.dropD k).gprs = s.gprs := rfl
@[simp] theorem dropD_pc (s : State) (k : Nat) : (s.dropD k).pc = s.pc := rfl
@[simp] theorem dropD_delay (s : State) (k : Nat) : (s.dropD k).delay = s.delay := rfl
@[simp] theorem dropD_hi (s : State) (k : Nat) : (s.dropD k).hi = s.hi := rfl
@[simp] theorem dropD_lo (s : State) (k : Nat) : (s.dropD k).lo = s.lo := rfl
@[simp] theorem dropD_llBit (s : State) (k : Nat) : (s.dropD k).llBit = s.llBit := rfl
@[simp] theorem dropD_llPa (s : State) (k : Nat) : (s.dropD k).llPa = s.llPa := rfl
@[simp] theorem dropD_cp0 (s : State) (k : Nat) : (s.dropD k).cp0 = s.cp0 := rfl
@[simp] theorem dropD_tlb (s : State) (k : Nat) : (s.dropD k).tlb = s.tlb := rfl
@[simp] theorem dropD_tlbWritten (s : State) (k : Nat) : (s.dropD k).tlbWritten = s.tlbWritten := rfl
@[simp] theorem dropD_itlbStale (s : State) (k : Nat) : (s.dropD k).itlbStale = s.itlbStale := rfl
@[simp] theorem dropD_fprs (s : State) (k : Nat) : (s.dropD k).fprs = s.fprs := rfl
@[simp] theorem dropD_fcsr (s : State) (k : Nat) : (s.dropD k).fcsr = s.fcsr := rfl
@[simp] theorem dropD_memory (s : State) (k : Nat) : (s.dropD k).memory = s.memory := rfl
@[simp] theorem dropD_gather (s : State) (k : Nat) : (s.dropD k).gather = s.gather := rfl
@[simp] theorem dropD_code (s : State) (k : Nat) : (s.dropD k).code = s.code := rfl
@[simp] theorem dropD_ramMap (s : State) (k : Nat) : (s.dropD k).ramMap = s.ramMap := rfl
@[simp] theorem dropD_ddrConfig (s : State) (k : Nat) : (s.dropD k).ddrConfig = s.ddrConfig := rfl
@[simp] theorem dropD_ddrSample (s : State) (k : Nat) : (s.dropD k).ddrSample = s.ddrSample := rfl
@[simp] theorem dropD_ddrReady (s : State) (k : Nat) : (s.dropD k).ddrReady = s.ddrReady := rfl
@[simp] theorem dropD_sampleReady (s : State) (k : Nat) : (s.dropD k).sampleReady = s.sampleReady := rfl
@[simp] theorem dropD_pins (s : State) (k : Nat) : (s.dropD k).pins = s.pins := rfl
@[simp] theorem dropD_timerIp (s : State) (k : Nat) : (s.dropD k).timerIp = s.timerIp := rfl
@[simp] theorem dropD_pendingWatch (s : State) (k : Nat) : (s.dropD k).pendingWatch = s.pendingWatch := rfl
@[simp] theorem dropD_randomHold (s : State) (k : Nat) : (s.dropD k).randomHold = s.randomHold := rfl
@[simp] theorem dropD_softDelay0 (s : State) (k : Nat) : (s.dropD k).softDelay0 = s.softDelay0 := rfl
@[simp] theorem dropD_softDelay1 (s : State) (k : Nat) : (s.dropD k).softDelay1 = s.softDelay1 := rfl
@[simp] theorem dropD_countIdle (s : State) (k : Nat) : (s.dropD k).countIdle = s.countIdle := rfl
@[simp] theorem dropD_free (s : State) (k : Nat) : (s.dropD k).free = s.free := rfl

/-! ### dropI -/

@[simp] theorem dropI_gprs (s : State) (k : Nat) : (s.dropI k).gprs = s.gprs := rfl
@[simp] theorem dropI_pc (s : State) (k : Nat) : (s.dropI k).pc = s.pc := rfl
@[simp] theorem dropI_delay (s : State) (k : Nat) : (s.dropI k).delay = s.delay := rfl
@[simp] theorem dropI_hi (s : State) (k : Nat) : (s.dropI k).hi = s.hi := rfl
@[simp] theorem dropI_lo (s : State) (k : Nat) : (s.dropI k).lo = s.lo := rfl
@[simp] theorem dropI_llBit (s : State) (k : Nat) : (s.dropI k).llBit = s.llBit := rfl
@[simp] theorem dropI_llPa (s : State) (k : Nat) : (s.dropI k).llPa = s.llPa := rfl
@[simp] theorem dropI_cp0 (s : State) (k : Nat) : (s.dropI k).cp0 = s.cp0 := rfl
@[simp] theorem dropI_tlb (s : State) (k : Nat) : (s.dropI k).tlb = s.tlb := rfl
@[simp] theorem dropI_tlbWritten (s : State) (k : Nat) : (s.dropI k).tlbWritten = s.tlbWritten := rfl
@[simp] theorem dropI_itlbStale (s : State) (k : Nat) : (s.dropI k).itlbStale = s.itlbStale := rfl
@[simp] theorem dropI_fprs (s : State) (k : Nat) : (s.dropI k).fprs = s.fprs := rfl
@[simp] theorem dropI_fcsr (s : State) (k : Nat) : (s.dropI k).fcsr = s.fcsr := rfl
@[simp] theorem dropI_memory (s : State) (k : Nat) : (s.dropI k).memory = s.memory := rfl
@[simp] theorem dropI_gather (s : State) (k : Nat) : (s.dropI k).gather = s.gather := rfl
@[simp] theorem dropI_raced (s : State) (k : Nat) : (s.dropI k).raced = s.raced := rfl
@[simp] theorem dropI_code (s : State) (k : Nat) : (s.dropI k).code = s.code := rfl
@[simp] theorem dropI_ramMap (s : State) (k : Nat) : (s.dropI k).ramMap = s.ramMap := rfl
@[simp] theorem dropI_ddrConfig (s : State) (k : Nat) : (s.dropI k).ddrConfig = s.ddrConfig := rfl
@[simp] theorem dropI_ddrSample (s : State) (k : Nat) : (s.dropI k).ddrSample = s.ddrSample := rfl
@[simp] theorem dropI_ddrReady (s : State) (k : Nat) : (s.dropI k).ddrReady = s.ddrReady := rfl
@[simp] theorem dropI_sampleReady (s : State) (k : Nat) : (s.dropI k).sampleReady = s.sampleReady := rfl
@[simp] theorem dropI_pins (s : State) (k : Nat) : (s.dropI k).pins = s.pins := rfl
@[simp] theorem dropI_timerIp (s : State) (k : Nat) : (s.dropI k).timerIp = s.timerIp := rfl
@[simp] theorem dropI_pendingWatch (s : State) (k : Nat) : (s.dropI k).pendingWatch = s.pendingWatch := rfl
@[simp] theorem dropI_randomHold (s : State) (k : Nat) : (s.dropI k).randomHold = s.randomHold := rfl
@[simp] theorem dropI_softDelay0 (s : State) (k : Nat) : (s.dropI k).softDelay0 = s.softDelay0 := rfl
@[simp] theorem dropI_softDelay1 (s : State) (k : Nat) : (s.dropI k).softDelay1 = s.softDelay1 := rfl
@[simp] theorem dropI_countIdle (s : State) (k : Nat) : (s.dropI k).countIdle = s.countIdle := rfl
@[simp] theorem dropI_free (s : State) (k : Nat) : (s.dropI k).free = s.free := rfl

/-! ### storeLine -/

@[simp] theorem storeLine_gprs (s : State) (va : Word) (pa : PAddr) (k n v : Nat) : (s.storeLine va pa k n v).gprs = s.gprs := rfl
@[simp] theorem storeLine_pc (s : State) (va : Word) (pa : PAddr) (k n v : Nat) : (s.storeLine va pa k n v).pc = s.pc := rfl
@[simp] theorem storeLine_delay (s : State) (va : Word) (pa : PAddr) (k n v : Nat) : (s.storeLine va pa k n v).delay = s.delay := rfl
@[simp] theorem storeLine_hi (s : State) (va : Word) (pa : PAddr) (k n v : Nat) : (s.storeLine va pa k n v).hi = s.hi := rfl
@[simp] theorem storeLine_lo (s : State) (va : Word) (pa : PAddr) (k n v : Nat) : (s.storeLine va pa k n v).lo = s.lo := rfl
@[simp] theorem storeLine_llBit (s : State) (va : Word) (pa : PAddr) (k n v : Nat) : (s.storeLine va pa k n v).llBit = s.llBit := rfl
@[simp] theorem storeLine_llPa (s : State) (va : Word) (pa : PAddr) (k n v : Nat) : (s.storeLine va pa k n v).llPa = s.llPa := rfl
@[simp] theorem storeLine_cp0 (s : State) (va : Word) (pa : PAddr) (k n v : Nat) : (s.storeLine va pa k n v).cp0 = s.cp0 := rfl
@[simp] theorem storeLine_tlb (s : State) (va : Word) (pa : PAddr) (k n v : Nat) : (s.storeLine va pa k n v).tlb = s.tlb := rfl
@[simp] theorem storeLine_tlbWritten (s : State) (va : Word) (pa : PAddr) (k n v : Nat) : (s.storeLine va pa k n v).tlbWritten = s.tlbWritten := rfl
@[simp] theorem storeLine_itlbStale (s : State) (va : Word) (pa : PAddr) (k n v : Nat) : (s.storeLine va pa k n v).itlbStale = s.itlbStale := rfl
@[simp] theorem storeLine_fprs (s : State) (va : Word) (pa : PAddr) (k n v : Nat) : (s.storeLine va pa k n v).fprs = s.fprs := rfl
@[simp] theorem storeLine_fcsr (s : State) (va : Word) (pa : PAddr) (k n v : Nat) : (s.storeLine va pa k n v).fcsr = s.fcsr := rfl
@[simp] theorem storeLine_memory (s : State) (va : Word) (pa : PAddr) (k n v : Nat) : (s.storeLine va pa k n v).memory = s.memory := rfl
@[simp] theorem storeLine_gather (s : State) (va : Word) (pa : PAddr) (k n v : Nat) : (s.storeLine va pa k n v).gather = s.gather := rfl
@[simp] theorem storeLine_ramMap (s : State) (va : Word) (pa : PAddr) (k n v : Nat) : (s.storeLine va pa k n v).ramMap = s.ramMap := rfl
@[simp] theorem storeLine_ddrConfig (s : State) (va : Word) (pa : PAddr) (k n v : Nat) : (s.storeLine va pa k n v).ddrConfig = s.ddrConfig := rfl
@[simp] theorem storeLine_ddrSample (s : State) (va : Word) (pa : PAddr) (k n v : Nat) : (s.storeLine va pa k n v).ddrSample = s.ddrSample := rfl
@[simp] theorem storeLine_ddrReady (s : State) (va : Word) (pa : PAddr) (k n v : Nat) : (s.storeLine va pa k n v).ddrReady = s.ddrReady := rfl
@[simp] theorem storeLine_sampleReady (s : State) (va : Word) (pa : PAddr) (k n v : Nat) : (s.storeLine va pa k n v).sampleReady = s.sampleReady := rfl
@[simp] theorem storeLine_pins (s : State) (va : Word) (pa : PAddr) (k n v : Nat) : (s.storeLine va pa k n v).pins = s.pins := rfl
@[simp] theorem storeLine_timerIp (s : State) (va : Word) (pa : PAddr) (k n v : Nat) : (s.storeLine va pa k n v).timerIp = s.timerIp := rfl
@[simp] theorem storeLine_pendingWatch (s : State) (va : Word) (pa : PAddr) (k n v : Nat) : (s.storeLine va pa k n v).pendingWatch = s.pendingWatch := rfl
@[simp] theorem storeLine_randomHold (s : State) (va : Word) (pa : PAddr) (k n v : Nat) : (s.storeLine va pa k n v).randomHold = s.randomHold := rfl
@[simp] theorem storeLine_softDelay0 (s : State) (va : Word) (pa : PAddr) (k n v : Nat) : (s.storeLine va pa k n v).softDelay0 = s.softDelay0 := rfl
@[simp] theorem storeLine_softDelay1 (s : State) (va : Word) (pa : PAddr) (k n v : Nat) : (s.storeLine va pa k n v).softDelay1 = s.softDelay1 := rfl
@[simp] theorem storeLine_countIdle (s : State) (va : Word) (pa : PAddr) (k n v : Nat) : (s.storeLine va pa k n v).countIdle = s.countIdle := rfl
@[simp] theorem storeLine_free (s : State) (va : Word) (pa : PAddr) (k n v : Nat) : (s.storeLine va pa k n v).free = s.free := rfl

/-! ### noteUncached -/

@[simp] theorem noteUncached_gprs (s : State) (u : State) (pa : PAddr) (n : Nat) : (s.noteUncached u pa n).gprs = s.gprs := rfl
@[simp] theorem noteUncached_pc (s : State) (u : State) (pa : PAddr) (n : Nat) : (s.noteUncached u pa n).pc = s.pc := rfl
@[simp] theorem noteUncached_delay (s : State) (u : State) (pa : PAddr) (n : Nat) : (s.noteUncached u pa n).delay = s.delay := rfl
@[simp] theorem noteUncached_hi (s : State) (u : State) (pa : PAddr) (n : Nat) : (s.noteUncached u pa n).hi = s.hi := rfl
@[simp] theorem noteUncached_lo (s : State) (u : State) (pa : PAddr) (n : Nat) : (s.noteUncached u pa n).lo = s.lo := rfl
@[simp] theorem noteUncached_llBit (s : State) (u : State) (pa : PAddr) (n : Nat) : (s.noteUncached u pa n).llBit = s.llBit := rfl
@[simp] theorem noteUncached_llPa (s : State) (u : State) (pa : PAddr) (n : Nat) : (s.noteUncached u pa n).llPa = s.llPa := rfl
@[simp] theorem noteUncached_cp0 (s : State) (u : State) (pa : PAddr) (n : Nat) : (s.noteUncached u pa n).cp0 = s.cp0 := rfl
@[simp] theorem noteUncached_tlb (s : State) (u : State) (pa : PAddr) (n : Nat) : (s.noteUncached u pa n).tlb = s.tlb := rfl
@[simp] theorem noteUncached_tlbWritten (s : State) (u : State) (pa : PAddr) (n : Nat) : (s.noteUncached u pa n).tlbWritten = s.tlbWritten := rfl
@[simp] theorem noteUncached_itlbStale (s : State) (u : State) (pa : PAddr) (n : Nat) : (s.noteUncached u pa n).itlbStale = s.itlbStale := rfl
@[simp] theorem noteUncached_fprs (s : State) (u : State) (pa : PAddr) (n : Nat) : (s.noteUncached u pa n).fprs = s.fprs := rfl
@[simp] theorem noteUncached_fcsr (s : State) (u : State) (pa : PAddr) (n : Nat) : (s.noteUncached u pa n).fcsr = s.fcsr := rfl
@[simp] theorem noteUncached_memory (s : State) (u : State) (pa : PAddr) (n : Nat) : (s.noteUncached u pa n).memory = s.memory := rfl
@[simp] theorem noteUncached_caches (s : State) (u : State) (pa : PAddr) (n : Nat) : (s.noteUncached u pa n).caches = s.caches := rfl
@[simp] theorem noteUncached_gather (s : State) (u : State) (pa : PAddr) (n : Nat) : (s.noteUncached u pa n).gather = s.gather := rfl
@[simp] theorem noteUncached_ramMap (s : State) (u : State) (pa : PAddr) (n : Nat) : (s.noteUncached u pa n).ramMap = s.ramMap := rfl
@[simp] theorem noteUncached_ddrConfig (s : State) (u : State) (pa : PAddr) (n : Nat) : (s.noteUncached u pa n).ddrConfig = s.ddrConfig := rfl
@[simp] theorem noteUncached_ddrSample (s : State) (u : State) (pa : PAddr) (n : Nat) : (s.noteUncached u pa n).ddrSample = s.ddrSample := rfl
@[simp] theorem noteUncached_ddrReady (s : State) (u : State) (pa : PAddr) (n : Nat) : (s.noteUncached u pa n).ddrReady = s.ddrReady := rfl
@[simp] theorem noteUncached_sampleReady (s : State) (u : State) (pa : PAddr) (n : Nat) : (s.noteUncached u pa n).sampleReady = s.sampleReady := rfl
@[simp] theorem noteUncached_pins (s : State) (u : State) (pa : PAddr) (n : Nat) : (s.noteUncached u pa n).pins = s.pins := rfl
@[simp] theorem noteUncached_timerIp (s : State) (u : State) (pa : PAddr) (n : Nat) : (s.noteUncached u pa n).timerIp = s.timerIp := rfl
@[simp] theorem noteUncached_pendingWatch (s : State) (u : State) (pa : PAddr) (n : Nat) : (s.noteUncached u pa n).pendingWatch = s.pendingWatch := rfl
@[simp] theorem noteUncached_randomHold (s : State) (u : State) (pa : PAddr) (n : Nat) : (s.noteUncached u pa n).randomHold = s.randomHold := rfl
@[simp] theorem noteUncached_softDelay0 (s : State) (u : State) (pa : PAddr) (n : Nat) : (s.noteUncached u pa n).softDelay0 = s.softDelay0 := rfl
@[simp] theorem noteUncached_softDelay1 (s : State) (u : State) (pa : PAddr) (n : Nat) : (s.noteUncached u pa n).softDelay1 = s.softDelay1 := rfl
@[simp] theorem noteUncached_countIdle (s : State) (u : State) (pa : PAddr) (n : Nat) : (s.noteUncached u pa n).countIdle = s.countIdle := rfl
@[simp] theorem noteUncached_free (s : State) (u : State) (pa : PAddr) (n : Nat) : (s.noteUncached u pa n).free = s.free := rfl

/-! ### setLink -/

@[simp] theorem setLink_gprs (s : State) (pa : PAddr) : (s.setLink pa).gprs = s.gprs := rfl
@[simp] theorem setLink_pc (s : State) (pa : PAddr) : (s.setLink pa).pc = s.pc := rfl
@[simp] theorem setLink_delay (s : State) (pa : PAddr) : (s.setLink pa).delay = s.delay := rfl
@[simp] theorem setLink_hi (s : State) (pa : PAddr) : (s.setLink pa).hi = s.hi := rfl
@[simp] theorem setLink_lo (s : State) (pa : PAddr) : (s.setLink pa).lo = s.lo := rfl
@[simp] theorem setLink_tlb (s : State) (pa : PAddr) : (s.setLink pa).tlb = s.tlb := rfl
@[simp] theorem setLink_tlbWritten (s : State) (pa : PAddr) : (s.setLink pa).tlbWritten = s.tlbWritten := rfl
@[simp] theorem setLink_itlbStale (s : State) (pa : PAddr) : (s.setLink pa).itlbStale = s.itlbStale := rfl
@[simp] theorem setLink_fprs (s : State) (pa : PAddr) : (s.setLink pa).fprs = s.fprs := rfl
@[simp] theorem setLink_fcsr (s : State) (pa : PAddr) : (s.setLink pa).fcsr = s.fcsr := rfl
@[simp] theorem setLink_memory (s : State) (pa : PAddr) : (s.setLink pa).memory = s.memory := rfl
@[simp] theorem setLink_caches (s : State) (pa : PAddr) : (s.setLink pa).caches = s.caches := rfl
@[simp] theorem setLink_gather (s : State) (pa : PAddr) : (s.setLink pa).gather = s.gather := rfl
@[simp] theorem setLink_raced (s : State) (pa : PAddr) : (s.setLink pa).raced = s.raced := rfl
@[simp] theorem setLink_code (s : State) (pa : PAddr) : (s.setLink pa).code = s.code := rfl
@[simp] theorem setLink_ramMap (s : State) (pa : PAddr) : (s.setLink pa).ramMap = s.ramMap := rfl
@[simp] theorem setLink_ddrConfig (s : State) (pa : PAddr) : (s.setLink pa).ddrConfig = s.ddrConfig := rfl
@[simp] theorem setLink_ddrSample (s : State) (pa : PAddr) : (s.setLink pa).ddrSample = s.ddrSample := rfl
@[simp] theorem setLink_ddrReady (s : State) (pa : PAddr) : (s.setLink pa).ddrReady = s.ddrReady := rfl
@[simp] theorem setLink_sampleReady (s : State) (pa : PAddr) : (s.setLink pa).sampleReady = s.sampleReady := rfl
@[simp] theorem setLink_pins (s : State) (pa : PAddr) : (s.setLink pa).pins = s.pins := rfl
@[simp] theorem setLink_timerIp (s : State) (pa : PAddr) : (s.setLink pa).timerIp = s.timerIp := rfl
@[simp] theorem setLink_pendingWatch (s : State) (pa : PAddr) : (s.setLink pa).pendingWatch = s.pendingWatch := rfl
@[simp] theorem setLink_randomHold (s : State) (pa : PAddr) : (s.setLink pa).randomHold = s.randomHold := rfl
@[simp] theorem setLink_softDelay0 (s : State) (pa : PAddr) : (s.setLink pa).softDelay0 = s.softDelay0 := rfl
@[simp] theorem setLink_softDelay1 (s : State) (pa : PAddr) : (s.setLink pa).softDelay1 = s.softDelay1 := rfl
@[simp] theorem setLink_countIdle (s : State) (pa : PAddr) : (s.setLink pa).countIdle = s.countIdle := rfl
@[simp] theorem setLink_free (s : State) (pa : PAddr) : (s.setLink pa).free = s.free := rfl

/-! ### afterConditional -/

@[simp] theorem afterConditional_gprs (s : State) : (s.afterConditional).gprs = s.gprs := rfl
@[simp] theorem afterConditional_pc (s : State) : (s.afterConditional).pc = s.pc := rfl
@[simp] theorem afterConditional_delay (s : State) : (s.afterConditional).delay = s.delay := rfl
@[simp] theorem afterConditional_hi (s : State) : (s.afterConditional).hi = s.hi := rfl
@[simp] theorem afterConditional_lo (s : State) : (s.afterConditional).lo = s.lo := rfl
@[simp] theorem afterConditional_llPa (s : State) : (s.afterConditional).llPa = s.llPa := rfl
@[simp] theorem afterConditional_cp0 (s : State) : (s.afterConditional).cp0 = s.cp0 := rfl
@[simp] theorem afterConditional_tlb (s : State) : (s.afterConditional).tlb = s.tlb := rfl
@[simp] theorem afterConditional_tlbWritten (s : State) : (s.afterConditional).tlbWritten = s.tlbWritten := rfl
@[simp] theorem afterConditional_itlbStale (s : State) : (s.afterConditional).itlbStale = s.itlbStale := rfl
@[simp] theorem afterConditional_fprs (s : State) : (s.afterConditional).fprs = s.fprs := rfl
@[simp] theorem afterConditional_fcsr (s : State) : (s.afterConditional).fcsr = s.fcsr := rfl
@[simp] theorem afterConditional_memory (s : State) : (s.afterConditional).memory = s.memory := rfl
@[simp] theorem afterConditional_caches (s : State) : (s.afterConditional).caches = s.caches := rfl
@[simp] theorem afterConditional_gather (s : State) : (s.afterConditional).gather = s.gather := rfl
@[simp] theorem afterConditional_raced (s : State) : (s.afterConditional).raced = s.raced := rfl
@[simp] theorem afterConditional_code (s : State) : (s.afterConditional).code = s.code := rfl
@[simp] theorem afterConditional_ramMap (s : State) : (s.afterConditional).ramMap = s.ramMap := rfl
@[simp] theorem afterConditional_ddrConfig (s : State) : (s.afterConditional).ddrConfig = s.ddrConfig := rfl
@[simp] theorem afterConditional_ddrSample (s : State) : (s.afterConditional).ddrSample = s.ddrSample := rfl
@[simp] theorem afterConditional_ddrReady (s : State) : (s.afterConditional).ddrReady = s.ddrReady := rfl
@[simp] theorem afterConditional_sampleReady (s : State) : (s.afterConditional).sampleReady = s.sampleReady := rfl
@[simp] theorem afterConditional_pins (s : State) : (s.afterConditional).pins = s.pins := rfl
@[simp] theorem afterConditional_timerIp (s : State) : (s.afterConditional).timerIp = s.timerIp := rfl
@[simp] theorem afterConditional_pendingWatch (s : State) : (s.afterConditional).pendingWatch = s.pendingWatch := rfl
@[simp] theorem afterConditional_randomHold (s : State) : (s.afterConditional).randomHold = s.randomHold := rfl
@[simp] theorem afterConditional_softDelay0 (s : State) : (s.afterConditional).softDelay0 = s.softDelay0 := rfl
@[simp] theorem afterConditional_softDelay1 (s : State) : (s.afterConditional).softDelay1 = s.softDelay1 := rfl
@[simp] theorem afterConditional_countIdle (s : State) : (s.afterConditional).countIdle = s.countIdle := rfl
@[simp] theorem afterConditional_free (s : State) : (s.afterConditional).free = s.free := rfl

/-! ### setTags -/

@[simp] theorem setTags_gprs (s : State) (hi lo : Word32) : (s.setTags hi lo).gprs = s.gprs := rfl
@[simp] theorem setTags_pc (s : State) (hi lo : Word32) : (s.setTags hi lo).pc = s.pc := rfl
@[simp] theorem setTags_delay (s : State) (hi lo : Word32) : (s.setTags hi lo).delay = s.delay := rfl
@[simp] theorem setTags_hi (s : State) (hi lo : Word32) : (s.setTags hi lo).hi = s.hi := rfl
@[simp] theorem setTags_lo (s : State) (hi lo : Word32) : (s.setTags hi lo).lo = s.lo := rfl
@[simp] theorem setTags_llBit (s : State) (hi lo : Word32) : (s.setTags hi lo).llBit = s.llBit := rfl
@[simp] theorem setTags_llPa (s : State) (hi lo : Word32) : (s.setTags hi lo).llPa = s.llPa := rfl
@[simp] theorem setTags_tlb (s : State) (hi lo : Word32) : (s.setTags hi lo).tlb = s.tlb := rfl
@[simp] theorem setTags_tlbWritten (s : State) (hi lo : Word32) : (s.setTags hi lo).tlbWritten = s.tlbWritten := rfl
@[simp] theorem setTags_itlbStale (s : State) (hi lo : Word32) : (s.setTags hi lo).itlbStale = s.itlbStale := rfl
@[simp] theorem setTags_fprs (s : State) (hi lo : Word32) : (s.setTags hi lo).fprs = s.fprs := rfl
@[simp] theorem setTags_fcsr (s : State) (hi lo : Word32) : (s.setTags hi lo).fcsr = s.fcsr := rfl
@[simp] theorem setTags_memory (s : State) (hi lo : Word32) : (s.setTags hi lo).memory = s.memory := rfl
@[simp] theorem setTags_caches (s : State) (hi lo : Word32) : (s.setTags hi lo).caches = s.caches := rfl
@[simp] theorem setTags_gather (s : State) (hi lo : Word32) : (s.setTags hi lo).gather = s.gather := rfl
@[simp] theorem setTags_raced (s : State) (hi lo : Word32) : (s.setTags hi lo).raced = s.raced := rfl
@[simp] theorem setTags_code (s : State) (hi lo : Word32) : (s.setTags hi lo).code = s.code := rfl
@[simp] theorem setTags_ramMap (s : State) (hi lo : Word32) : (s.setTags hi lo).ramMap = s.ramMap := rfl
@[simp] theorem setTags_ddrConfig (s : State) (hi lo : Word32) : (s.setTags hi lo).ddrConfig = s.ddrConfig := rfl
@[simp] theorem setTags_ddrSample (s : State) (hi lo : Word32) : (s.setTags hi lo).ddrSample = s.ddrSample := rfl
@[simp] theorem setTags_ddrReady (s : State) (hi lo : Word32) : (s.setTags hi lo).ddrReady = s.ddrReady := rfl
@[simp] theorem setTags_sampleReady (s : State) (hi lo : Word32) : (s.setTags hi lo).sampleReady = s.sampleReady := rfl
@[simp] theorem setTags_pins (s : State) (hi lo : Word32) : (s.setTags hi lo).pins = s.pins := rfl
@[simp] theorem setTags_timerIp (s : State) (hi lo : Word32) : (s.setTags hi lo).timerIp = s.timerIp := rfl
@[simp] theorem setTags_pendingWatch (s : State) (hi lo : Word32) : (s.setTags hi lo).pendingWatch = s.pendingWatch := rfl
@[simp] theorem setTags_randomHold (s : State) (hi lo : Word32) : (s.setTags hi lo).randomHold = s.randomHold := rfl
@[simp] theorem setTags_softDelay0 (s : State) (hi lo : Word32) : (s.setTags hi lo).softDelay0 = s.softDelay0 := rfl
@[simp] theorem setTags_softDelay1 (s : State) (hi lo : Word32) : (s.setTags hi lo).softDelay1 = s.softDelay1 := rfl
@[simp] theorem setTags_countIdle (s : State) (hi lo : Word32) : (s.setTags hi lo).countIdle = s.countIdle := rfl
@[simp] theorem setTags_free (s : State) (hi lo : Word32) : (s.setTags hi lo).free = s.free := rfl

/-! ### setEntryHi -/

@[simp] theorem setEntryHi_gprs (s : State) (h : EntryHi) : (s.setEntryHi h).gprs = s.gprs := rfl
@[simp] theorem setEntryHi_pc (s : State) (h : EntryHi) : (s.setEntryHi h).pc = s.pc := rfl
@[simp] theorem setEntryHi_delay (s : State) (h : EntryHi) : (s.setEntryHi h).delay = s.delay := rfl
@[simp] theorem setEntryHi_hi (s : State) (h : EntryHi) : (s.setEntryHi h).hi = s.hi := rfl
@[simp] theorem setEntryHi_lo (s : State) (h : EntryHi) : (s.setEntryHi h).lo = s.lo := rfl
@[simp] theorem setEntryHi_llBit (s : State) (h : EntryHi) : (s.setEntryHi h).llBit = s.llBit := rfl
@[simp] theorem setEntryHi_llPa (s : State) (h : EntryHi) : (s.setEntryHi h).llPa = s.llPa := rfl
@[simp] theorem setEntryHi_tlb (s : State) (h : EntryHi) : (s.setEntryHi h).tlb = s.tlb := rfl
@[simp] theorem setEntryHi_tlbWritten (s : State) (h : EntryHi) : (s.setEntryHi h).tlbWritten = s.tlbWritten := rfl
@[simp] theorem setEntryHi_fprs (s : State) (h : EntryHi) : (s.setEntryHi h).fprs = s.fprs := rfl
@[simp] theorem setEntryHi_fcsr (s : State) (h : EntryHi) : (s.setEntryHi h).fcsr = s.fcsr := rfl
@[simp] theorem setEntryHi_memory (s : State) (h : EntryHi) : (s.setEntryHi h).memory = s.memory := rfl
@[simp] theorem setEntryHi_caches (s : State) (h : EntryHi) : (s.setEntryHi h).caches = s.caches := rfl
@[simp] theorem setEntryHi_gather (s : State) (h : EntryHi) : (s.setEntryHi h).gather = s.gather := rfl
@[simp] theorem setEntryHi_raced (s : State) (h : EntryHi) : (s.setEntryHi h).raced = s.raced := rfl
@[simp] theorem setEntryHi_code (s : State) (h : EntryHi) : (s.setEntryHi h).code = s.code := rfl
@[simp] theorem setEntryHi_ramMap (s : State) (h : EntryHi) : (s.setEntryHi h).ramMap = s.ramMap := rfl
@[simp] theorem setEntryHi_ddrConfig (s : State) (h : EntryHi) : (s.setEntryHi h).ddrConfig = s.ddrConfig := rfl
@[simp] theorem setEntryHi_ddrSample (s : State) (h : EntryHi) : (s.setEntryHi h).ddrSample = s.ddrSample := rfl
@[simp] theorem setEntryHi_ddrReady (s : State) (h : EntryHi) : (s.setEntryHi h).ddrReady = s.ddrReady := rfl
@[simp] theorem setEntryHi_sampleReady (s : State) (h : EntryHi) : (s.setEntryHi h).sampleReady = s.sampleReady := rfl
@[simp] theorem setEntryHi_pins (s : State) (h : EntryHi) : (s.setEntryHi h).pins = s.pins := rfl
@[simp] theorem setEntryHi_timerIp (s : State) (h : EntryHi) : (s.setEntryHi h).timerIp = s.timerIp := rfl
@[simp] theorem setEntryHi_pendingWatch (s : State) (h : EntryHi) : (s.setEntryHi h).pendingWatch = s.pendingWatch := rfl
@[simp] theorem setEntryHi_randomHold (s : State) (h : EntryHi) : (s.setEntryHi h).randomHold = s.randomHold := rfl
@[simp] theorem setEntryHi_softDelay0 (s : State) (h : EntryHi) : (s.setEntryHi h).softDelay0 = s.softDelay0 := rfl
@[simp] theorem setEntryHi_softDelay1 (s : State) (h : EntryHi) : (s.setEntryHi h).softDelay1 = s.softDelay1 := rfl
@[simp] theorem setEntryHi_countIdle (s : State) (h : EntryHi) : (s.setEntryHi h).countIdle = s.countIdle := rfl
@[simp] theorem setEntryHi_free (s : State) (h : EntryHi) : (s.setEntryHi h).free = s.free := rfl

/-! ### recordException -/

@[simp] theorem recordException_gprs (s : State) (e : Exc) : (s.recordException e).gprs = s.gprs := by cases e <;> rfl
@[simp] theorem recordException_pc (s : State) (e : Exc) : (s.recordException e).pc = s.pc := by cases e <;> rfl
@[simp] theorem recordException_delay (s : State) (e : Exc) : (s.recordException e).delay = s.delay := by cases e <;> rfl
@[simp] theorem recordException_hi (s : State) (e : Exc) : (s.recordException e).hi = s.hi := by cases e <;> rfl
@[simp] theorem recordException_lo (s : State) (e : Exc) : (s.recordException e).lo = s.lo := by cases e <;> rfl
@[simp] theorem recordException_llBit (s : State) (e : Exc) : (s.recordException e).llBit = s.llBit := by cases e <;> rfl
@[simp] theorem recordException_llPa (s : State) (e : Exc) : (s.recordException e).llPa = s.llPa := by cases e <;> rfl
@[simp] theorem recordException_tlb (s : State) (e : Exc) : (s.recordException e).tlb = s.tlb := by cases e <;> rfl
@[simp] theorem recordException_tlbWritten (s : State) (e : Exc) : (s.recordException e).tlbWritten = s.tlbWritten := by cases e <;> rfl
@[simp] theorem recordException_fprs (s : State) (e : Exc) : (s.recordException e).fprs = s.fprs := by cases e <;> rfl
@[simp] theorem recordException_fcsr (s : State) (e : Exc) : (s.recordException e).fcsr = s.fcsr := by cases e <;> rfl
@[simp] theorem recordException_memory (s : State) (e : Exc) : (s.recordException e).memory = s.memory := by cases e <;> rfl
@[simp] theorem recordException_caches (s : State) (e : Exc) : (s.recordException e).caches = s.caches := by cases e <;> rfl
@[simp] theorem recordException_gather (s : State) (e : Exc) : (s.recordException e).gather = s.gather := by cases e <;> rfl
@[simp] theorem recordException_raced (s : State) (e : Exc) : (s.recordException e).raced = s.raced := by cases e <;> rfl
@[simp] theorem recordException_code (s : State) (e : Exc) : (s.recordException e).code = s.code := by cases e <;> rfl
@[simp] theorem recordException_ramMap (s : State) (e : Exc) : (s.recordException e).ramMap = s.ramMap := by cases e <;> rfl
@[simp] theorem recordException_ddrConfig (s : State) (e : Exc) : (s.recordException e).ddrConfig = s.ddrConfig := by cases e <;> rfl
@[simp] theorem recordException_ddrSample (s : State) (e : Exc) : (s.recordException e).ddrSample = s.ddrSample := by cases e <;> rfl
@[simp] theorem recordException_ddrReady (s : State) (e : Exc) : (s.recordException e).ddrReady = s.ddrReady := by cases e <;> rfl
@[simp] theorem recordException_sampleReady (s : State) (e : Exc) : (s.recordException e).sampleReady = s.sampleReady := by cases e <;> rfl
@[simp] theorem recordException_pins (s : State) (e : Exc) : (s.recordException e).pins = s.pins := by cases e <;> rfl
@[simp] theorem recordException_timerIp (s : State) (e : Exc) : (s.recordException e).timerIp = s.timerIp := by cases e <;> rfl
@[simp] theorem recordException_pendingWatch (s : State) (e : Exc) : (s.recordException e).pendingWatch = s.pendingWatch := by cases e <;> rfl
@[simp] theorem recordException_randomHold (s : State) (e : Exc) : (s.recordException e).randomHold = s.randomHold := by cases e <;> rfl
@[simp] theorem recordException_softDelay0 (s : State) (e : Exc) : (s.recordException e).softDelay0 = s.softDelay0 := by cases e <;> rfl
@[simp] theorem recordException_softDelay1 (s : State) (e : Exc) : (s.recordException e).softDelay1 = s.softDelay1 := by cases e <;> rfl
@[simp] theorem recordException_countIdle (s : State) (e : Exc) : (s.recordException e).countIdle = s.countIdle := by cases e <;> rfl
@[simp] theorem recordException_free (s : State) (e : Exc) : (s.recordException e).free = s.free := by cases e <;> rfl

/-! ### takeException -/

@[simp] theorem takeException_gprs (s : State) (e : Exc) : (s.takeException e).gprs = s.gprs := by cases e <;> rfl
@[simp] theorem takeException_hi (s : State) (e : Exc) : (s.takeException e).hi = s.hi := by cases e <;> rfl
@[simp] theorem takeException_lo (s : State) (e : Exc) : (s.takeException e).lo = s.lo := by cases e <;> rfl
@[simp] theorem takeException_llBit (s : State) (e : Exc) : (s.takeException e).llBit = s.llBit := by cases e <;> rfl
@[simp] theorem takeException_llPa (s : State) (e : Exc) : (s.takeException e).llPa = s.llPa := by cases e <;> rfl
@[simp] theorem takeException_tlb (s : State) (e : Exc) : (s.takeException e).tlb = s.tlb := by cases e <;> rfl
@[simp] theorem takeException_tlbWritten (s : State) (e : Exc) : (s.takeException e).tlbWritten = s.tlbWritten := by cases e <;> rfl
@[simp] theorem takeException_fprs (s : State) (e : Exc) : (s.takeException e).fprs = s.fprs := by cases e <;> rfl
@[simp] theorem takeException_fcsr (s : State) (e : Exc) : (s.takeException e).fcsr = s.fcsr := by cases e <;> rfl
@[simp] theorem takeException_memory (s : State) (e : Exc) : (s.takeException e).memory = s.memory := by cases e <;> rfl
@[simp] theorem takeException_caches (s : State) (e : Exc) : (s.takeException e).caches = s.caches := by cases e <;> rfl
@[simp] theorem takeException_gather (s : State) (e : Exc) : (s.takeException e).gather = s.gather := by cases e <;> rfl
@[simp] theorem takeException_raced (s : State) (e : Exc) : (s.takeException e).raced = s.raced := by cases e <;> rfl
@[simp] theorem takeException_code (s : State) (e : Exc) : (s.takeException e).code = s.code := by cases e <;> rfl
@[simp] theorem takeException_ramMap (s : State) (e : Exc) : (s.takeException e).ramMap = s.ramMap := by cases e <;> rfl
@[simp] theorem takeException_ddrConfig (s : State) (e : Exc) : (s.takeException e).ddrConfig = s.ddrConfig := by cases e <;> rfl
@[simp] theorem takeException_ddrSample (s : State) (e : Exc) : (s.takeException e).ddrSample = s.ddrSample := by cases e <;> rfl
@[simp] theorem takeException_ddrReady (s : State) (e : Exc) : (s.takeException e).ddrReady = s.ddrReady := by cases e <;> rfl
@[simp] theorem takeException_sampleReady (s : State) (e : Exc) : (s.takeException e).sampleReady = s.sampleReady := by cases e <;> rfl
@[simp] theorem takeException_pins (s : State) (e : Exc) : (s.takeException e).pins = s.pins := by cases e <;> rfl
@[simp] theorem takeException_timerIp (s : State) (e : Exc) : (s.takeException e).timerIp = s.timerIp := by cases e <;> rfl
@[simp] theorem takeException_pendingWatch (s : State) (e : Exc) : (s.takeException e).pendingWatch = s.pendingWatch := by cases e <;> rfl
@[simp] theorem takeException_randomHold (s : State) (e : Exc) : (s.takeException e).randomHold = s.randomHold := by cases e <;> rfl
@[simp] theorem takeException_softDelay0 (s : State) (e : Exc) : (s.takeException e).softDelay0 = s.softDelay0 := by cases e <;> rfl
@[simp] theorem takeException_softDelay1 (s : State) (e : Exc) : (s.takeException e).softDelay1 = s.softDelay1 := by cases e <;> rfl
@[simp] theorem takeException_countIdle (s : State) (e : Exc) : (s.takeException e).countIdle = s.countIdle := by cases e <;> rfl
@[simp] theorem takeException_free (s : State) (e : Exc) : (s.takeException e).free = s.free := by cases e <;> rfl

/-! ### exceptionReturn -/

@[simp] theorem exceptionReturn_gprs (s : State) : (s.exceptionReturn).gprs = s.gprs := by unfold State.exceptionReturn; split <;> rfl
@[simp] theorem exceptionReturn_hi (s : State) : (s.exceptionReturn).hi = s.hi := by unfold State.exceptionReturn; split <;> rfl
@[simp] theorem exceptionReturn_lo (s : State) : (s.exceptionReturn).lo = s.lo := by unfold State.exceptionReturn; split <;> rfl
@[simp] theorem exceptionReturn_llPa (s : State) : (s.exceptionReturn).llPa = s.llPa := by unfold State.exceptionReturn; split <;> rfl
@[simp] theorem exceptionReturn_tlb (s : State) : (s.exceptionReturn).tlb = s.tlb := by unfold State.exceptionReturn; split <;> rfl
@[simp] theorem exceptionReturn_tlbWritten (s : State) : (s.exceptionReturn).tlbWritten = s.tlbWritten := by unfold State.exceptionReturn; split <;> rfl
@[simp] theorem exceptionReturn_itlbStale (s : State) : (s.exceptionReturn).itlbStale = s.itlbStale := by unfold State.exceptionReturn; split <;> rfl
@[simp] theorem exceptionReturn_fprs (s : State) : (s.exceptionReturn).fprs = s.fprs := by unfold State.exceptionReturn; split <;> rfl
@[simp] theorem exceptionReturn_fcsr (s : State) : (s.exceptionReturn).fcsr = s.fcsr := by unfold State.exceptionReturn; split <;> rfl
@[simp] theorem exceptionReturn_memory (s : State) : (s.exceptionReturn).memory = s.memory := by unfold State.exceptionReturn; split <;> rfl
@[simp] theorem exceptionReturn_caches (s : State) : (s.exceptionReturn).caches = s.caches := by unfold State.exceptionReturn; split <;> rfl
@[simp] theorem exceptionReturn_gather (s : State) : (s.exceptionReturn).gather = s.gather := by unfold State.exceptionReturn; split <;> rfl
@[simp] theorem exceptionReturn_raced (s : State) : (s.exceptionReturn).raced = s.raced := by unfold State.exceptionReturn; split <;> rfl
@[simp] theorem exceptionReturn_code (s : State) : (s.exceptionReturn).code = s.code := by unfold State.exceptionReturn; split <;> rfl
@[simp] theorem exceptionReturn_ramMap (s : State) : (s.exceptionReturn).ramMap = s.ramMap := by unfold State.exceptionReturn; split <;> rfl
@[simp] theorem exceptionReturn_ddrConfig (s : State) : (s.exceptionReturn).ddrConfig = s.ddrConfig := by unfold State.exceptionReturn; split <;> rfl
@[simp] theorem exceptionReturn_ddrSample (s : State) : (s.exceptionReturn).ddrSample = s.ddrSample := by unfold State.exceptionReturn; split <;> rfl
@[simp] theorem exceptionReturn_ddrReady (s : State) : (s.exceptionReturn).ddrReady = s.ddrReady := by unfold State.exceptionReturn; split <;> rfl
@[simp] theorem exceptionReturn_sampleReady (s : State) : (s.exceptionReturn).sampleReady = s.sampleReady := by unfold State.exceptionReturn; split <;> rfl
@[simp] theorem exceptionReturn_pins (s : State) : (s.exceptionReturn).pins = s.pins := by unfold State.exceptionReturn; split <;> rfl
@[simp] theorem exceptionReturn_timerIp (s : State) : (s.exceptionReturn).timerIp = s.timerIp := by unfold State.exceptionReturn; split <;> rfl
@[simp] theorem exceptionReturn_pendingWatch (s : State) : (s.exceptionReturn).pendingWatch = s.pendingWatch := by unfold State.exceptionReturn; split <;> rfl
@[simp] theorem exceptionReturn_randomHold (s : State) : (s.exceptionReturn).randomHold = s.randomHold := by unfold State.exceptionReturn; split <;> rfl
@[simp] theorem exceptionReturn_softDelay0 (s : State) : (s.exceptionReturn).softDelay0 = s.softDelay0 := by unfold State.exceptionReturn; split <;> rfl
@[simp] theorem exceptionReturn_softDelay1 (s : State) : (s.exceptionReturn).softDelay1 = s.softDelay1 := by unfold State.exceptionReturn; split <;> rfl
@[simp] theorem exceptionReturn_countIdle (s : State) : (s.exceptionReturn).countIdle = s.countIdle := by unfold State.exceptionReturn; split <;> rfl
@[simp] theorem exceptionReturn_free (s : State) : (s.exceptionReturn).free = s.free := by unfold State.exceptionReturn; split <;> rfl

/-! ### errorEntry -/

@[simp] theorem errorEntry_gprs (s : State) : (s.errorEntry).gprs = s.gprs := rfl
@[simp] theorem errorEntry_hi (s : State) : (s.errorEntry).hi = s.hi := rfl
@[simp] theorem errorEntry_lo (s : State) : (s.errorEntry).lo = s.lo := rfl
@[simp] theorem errorEntry_llBit (s : State) : (s.errorEntry).llBit = s.llBit := rfl
@[simp] theorem errorEntry_llPa (s : State) : (s.errorEntry).llPa = s.llPa := rfl
@[simp] theorem errorEntry_tlb (s : State) : (s.errorEntry).tlb = s.tlb := rfl
@[simp] theorem errorEntry_tlbWritten (s : State) : (s.errorEntry).tlbWritten = s.tlbWritten := rfl
@[simp] theorem errorEntry_itlbStale (s : State) : (s.errorEntry).itlbStale = s.itlbStale := rfl
@[simp] theorem errorEntry_fprs (s : State) : (s.errorEntry).fprs = s.fprs := rfl
@[simp] theorem errorEntry_fcsr (s : State) : (s.errorEntry).fcsr = s.fcsr := rfl
@[simp] theorem errorEntry_memory (s : State) : (s.errorEntry).memory = s.memory := rfl
@[simp] theorem errorEntry_caches (s : State) : (s.errorEntry).caches = s.caches := rfl
@[simp] theorem errorEntry_gather (s : State) : (s.errorEntry).gather = s.gather := rfl
@[simp] theorem errorEntry_raced (s : State) : (s.errorEntry).raced = s.raced := rfl
@[simp] theorem errorEntry_code (s : State) : (s.errorEntry).code = s.code := rfl
@[simp] theorem errorEntry_ramMap (s : State) : (s.errorEntry).ramMap = s.ramMap := rfl
@[simp] theorem errorEntry_ddrConfig (s : State) : (s.errorEntry).ddrConfig = s.ddrConfig := rfl
@[simp] theorem errorEntry_ddrSample (s : State) : (s.errorEntry).ddrSample = s.ddrSample := rfl
@[simp] theorem errorEntry_ddrReady (s : State) : (s.errorEntry).ddrReady = s.ddrReady := rfl
@[simp] theorem errorEntry_sampleReady (s : State) : (s.errorEntry).sampleReady = s.sampleReady := rfl
@[simp] theorem errorEntry_pins (s : State) : (s.errorEntry).pins = s.pins := rfl
@[simp] theorem errorEntry_timerIp (s : State) : (s.errorEntry).timerIp = s.timerIp := rfl
@[simp] theorem errorEntry_pendingWatch (s : State) : (s.errorEntry).pendingWatch = s.pendingWatch := rfl
@[simp] theorem errorEntry_randomHold (s : State) : (s.errorEntry).randomHold = s.randomHold := rfl
@[simp] theorem errorEntry_softDelay0 (s : State) : (s.errorEntry).softDelay0 = s.softDelay0 := rfl
@[simp] theorem errorEntry_softDelay1 (s : State) : (s.errorEntry).softDelay1 = s.softDelay1 := rfl
@[simp] theorem errorEntry_countIdle (s : State) : (s.errorEntry).countIdle = s.countIdle := rfl
@[simp] theorem errorEntry_free (s : State) : (s.errorEntry).free = s.free := rfl

/-! ### setTlb -/

@[simp] theorem setTlb_gprs (s : State) (i : BitVec 6) (e : TlbEntry) : (s.setTlb i e).gprs = s.gprs := rfl
@[simp] theorem setTlb_pc (s : State) (i : BitVec 6) (e : TlbEntry) : (s.setTlb i e).pc = s.pc := rfl
@[simp] theorem setTlb_delay (s : State) (i : BitVec 6) (e : TlbEntry) : (s.setTlb i e).delay = s.delay := rfl
@[simp] theorem setTlb_hi (s : State) (i : BitVec 6) (e : TlbEntry) : (s.setTlb i e).hi = s.hi := rfl
@[simp] theorem setTlb_lo (s : State) (i : BitVec 6) (e : TlbEntry) : (s.setTlb i e).lo = s.lo := rfl
@[simp] theorem setTlb_llBit (s : State) (i : BitVec 6) (e : TlbEntry) : (s.setTlb i e).llBit = s.llBit := rfl
@[simp] theorem setTlb_llPa (s : State) (i : BitVec 6) (e : TlbEntry) : (s.setTlb i e).llPa = s.llPa := rfl
@[simp] theorem setTlb_cp0 (s : State) (i : BitVec 6) (e : TlbEntry) : (s.setTlb i e).cp0 = s.cp0 := rfl
@[simp] theorem setTlb_fprs (s : State) (i : BitVec 6) (e : TlbEntry) : (s.setTlb i e).fprs = s.fprs := rfl
@[simp] theorem setTlb_fcsr (s : State) (i : BitVec 6) (e : TlbEntry) : (s.setTlb i e).fcsr = s.fcsr := rfl
@[simp] theorem setTlb_memory (s : State) (i : BitVec 6) (e : TlbEntry) : (s.setTlb i e).memory = s.memory := rfl
@[simp] theorem setTlb_caches (s : State) (i : BitVec 6) (e : TlbEntry) : (s.setTlb i e).caches = s.caches := rfl
@[simp] theorem setTlb_gather (s : State) (i : BitVec 6) (e : TlbEntry) : (s.setTlb i e).gather = s.gather := rfl
@[simp] theorem setTlb_raced (s : State) (i : BitVec 6) (e : TlbEntry) : (s.setTlb i e).raced = s.raced := rfl
@[simp] theorem setTlb_code (s : State) (i : BitVec 6) (e : TlbEntry) : (s.setTlb i e).code = s.code := rfl
@[simp] theorem setTlb_ramMap (s : State) (i : BitVec 6) (e : TlbEntry) : (s.setTlb i e).ramMap = s.ramMap := rfl
@[simp] theorem setTlb_ddrConfig (s : State) (i : BitVec 6) (e : TlbEntry) : (s.setTlb i e).ddrConfig = s.ddrConfig := rfl
@[simp] theorem setTlb_ddrSample (s : State) (i : BitVec 6) (e : TlbEntry) : (s.setTlb i e).ddrSample = s.ddrSample := rfl
@[simp] theorem setTlb_ddrReady (s : State) (i : BitVec 6) (e : TlbEntry) : (s.setTlb i e).ddrReady = s.ddrReady := rfl
@[simp] theorem setTlb_sampleReady (s : State) (i : BitVec 6) (e : TlbEntry) : (s.setTlb i e).sampleReady = s.sampleReady := rfl
@[simp] theorem setTlb_pins (s : State) (i : BitVec 6) (e : TlbEntry) : (s.setTlb i e).pins = s.pins := rfl
@[simp] theorem setTlb_timerIp (s : State) (i : BitVec 6) (e : TlbEntry) : (s.setTlb i e).timerIp = s.timerIp := rfl
@[simp] theorem setTlb_pendingWatch (s : State) (i : BitVec 6) (e : TlbEntry) : (s.setTlb i e).pendingWatch = s.pendingWatch := rfl
@[simp] theorem setTlb_randomHold (s : State) (i : BitVec 6) (e : TlbEntry) : (s.setTlb i e).randomHold = s.randomHold := rfl
@[simp] theorem setTlb_softDelay0 (s : State) (i : BitVec 6) (e : TlbEntry) : (s.setTlb i e).softDelay0 = s.softDelay0 := rfl
@[simp] theorem setTlb_softDelay1 (s : State) (i : BitVec 6) (e : TlbEntry) : (s.setTlb i e).softDelay1 = s.softDelay1 := rfl
@[simp] theorem setTlb_countIdle (s : State) (i : BitVec 6) (e : TlbEntry) : (s.setTlb i e).countIdle = s.countIdle := rfl
@[simp] theorem setTlb_free (s : State) (i : BitVec 6) (e : TlbEntry) : (s.setTlb i e).free = s.free := rfl

/-! ### tickTime -/

@[simp] theorem tickTime_gprs (s : State) (c : Bool) : (s.tickTime c).gprs = s.gprs := rfl
@[simp] theorem tickTime_pc (s : State) (c : Bool) : (s.tickTime c).pc = s.pc := rfl
@[simp] theorem tickTime_delay (s : State) (c : Bool) : (s.tickTime c).delay = s.delay := rfl
@[simp] theorem tickTime_hi (s : State) (c : Bool) : (s.tickTime c).hi = s.hi := rfl
@[simp] theorem tickTime_lo (s : State) (c : Bool) : (s.tickTime c).lo = s.lo := rfl
@[simp] theorem tickTime_llBit (s : State) (c : Bool) : (s.tickTime c).llBit = s.llBit := rfl
@[simp] theorem tickTime_llPa (s : State) (c : Bool) : (s.tickTime c).llPa = s.llPa := rfl
@[simp] theorem tickTime_tlb (s : State) (c : Bool) : (s.tickTime c).tlb = s.tlb := rfl
@[simp] theorem tickTime_tlbWritten (s : State) (c : Bool) : (s.tickTime c).tlbWritten = s.tlbWritten := rfl
@[simp] theorem tickTime_itlbStale (s : State) (c : Bool) : (s.tickTime c).itlbStale = s.itlbStale := rfl
@[simp] theorem tickTime_fprs (s : State) (c : Bool) : (s.tickTime c).fprs = s.fprs := rfl
@[simp] theorem tickTime_fcsr (s : State) (c : Bool) : (s.tickTime c).fcsr = s.fcsr := rfl
@[simp] theorem tickTime_memory (s : State) (c : Bool) : (s.tickTime c).memory = s.memory := rfl
@[simp] theorem tickTime_caches (s : State) (c : Bool) : (s.tickTime c).caches = s.caches := rfl
@[simp] theorem tickTime_gather (s : State) (c : Bool) : (s.tickTime c).gather = s.gather := rfl
@[simp] theorem tickTime_raced (s : State) (c : Bool) : (s.tickTime c).raced = s.raced := rfl
@[simp] theorem tickTime_code (s : State) (c : Bool) : (s.tickTime c).code = s.code := rfl
@[simp] theorem tickTime_ramMap (s : State) (c : Bool) : (s.tickTime c).ramMap = s.ramMap := rfl
@[simp] theorem tickTime_ddrConfig (s : State) (c : Bool) : (s.tickTime c).ddrConfig = s.ddrConfig := rfl
@[simp] theorem tickTime_ddrSample (s : State) (c : Bool) : (s.tickTime c).ddrSample = s.ddrSample := rfl
@[simp] theorem tickTime_ddrReady (s : State) (c : Bool) : (s.tickTime c).ddrReady = s.ddrReady := rfl
@[simp] theorem tickTime_sampleReady (s : State) (c : Bool) : (s.tickTime c).sampleReady = s.sampleReady := rfl
@[simp] theorem tickTime_pins (s : State) (c : Bool) : (s.tickTime c).pins = s.pins := rfl
@[simp] theorem tickTime_pendingWatch (s : State) (c : Bool) : (s.tickTime c).pendingWatch = s.pendingWatch := rfl
@[simp] theorem tickTime_randomHold (s : State) (c : Bool) : (s.tickTime c).randomHold = s.randomHold := rfl

/-! ### tickRandom -/

@[simp] theorem tickRandom_gprs (s : State) : (s.tickRandom).gprs = s.gprs := by unfold State.tickRandom; split <;> rfl
@[simp] theorem tickRandom_pc (s : State) : (s.tickRandom).pc = s.pc := by unfold State.tickRandom; split <;> rfl
@[simp] theorem tickRandom_delay (s : State) : (s.tickRandom).delay = s.delay := by unfold State.tickRandom; split <;> rfl
@[simp] theorem tickRandom_hi (s : State) : (s.tickRandom).hi = s.hi := by unfold State.tickRandom; split <;> rfl
@[simp] theorem tickRandom_lo (s : State) : (s.tickRandom).lo = s.lo := by unfold State.tickRandom; split <;> rfl
@[simp] theorem tickRandom_llBit (s : State) : (s.tickRandom).llBit = s.llBit := by unfold State.tickRandom; split <;> rfl
@[simp] theorem tickRandom_llPa (s : State) : (s.tickRandom).llPa = s.llPa := by unfold State.tickRandom; split <;> rfl
@[simp] theorem tickRandom_tlb (s : State) : (s.tickRandom).tlb = s.tlb := by unfold State.tickRandom; split <;> rfl
@[simp] theorem tickRandom_tlbWritten (s : State) : (s.tickRandom).tlbWritten = s.tlbWritten := by unfold State.tickRandom; split <;> rfl
@[simp] theorem tickRandom_itlbStale (s : State) : (s.tickRandom).itlbStale = s.itlbStale := by unfold State.tickRandom; split <;> rfl
@[simp] theorem tickRandom_fprs (s : State) : (s.tickRandom).fprs = s.fprs := by unfold State.tickRandom; split <;> rfl
@[simp] theorem tickRandom_fcsr (s : State) : (s.tickRandom).fcsr = s.fcsr := by unfold State.tickRandom; split <;> rfl
@[simp] theorem tickRandom_memory (s : State) : (s.tickRandom).memory = s.memory := by unfold State.tickRandom; split <;> rfl
@[simp] theorem tickRandom_caches (s : State) : (s.tickRandom).caches = s.caches := by unfold State.tickRandom; split <;> rfl
@[simp] theorem tickRandom_gather (s : State) : (s.tickRandom).gather = s.gather := by unfold State.tickRandom; split <;> rfl
@[simp] theorem tickRandom_raced (s : State) : (s.tickRandom).raced = s.raced := by unfold State.tickRandom; split <;> rfl
@[simp] theorem tickRandom_code (s : State) : (s.tickRandom).code = s.code := by unfold State.tickRandom; split <;> rfl
@[simp] theorem tickRandom_ramMap (s : State) : (s.tickRandom).ramMap = s.ramMap := by unfold State.tickRandom; split <;> rfl
@[simp] theorem tickRandom_ddrConfig (s : State) : (s.tickRandom).ddrConfig = s.ddrConfig := by unfold State.tickRandom; split <;> rfl
@[simp] theorem tickRandom_ddrSample (s : State) : (s.tickRandom).ddrSample = s.ddrSample := by unfold State.tickRandom; split <;> rfl
@[simp] theorem tickRandom_ddrReady (s : State) : (s.tickRandom).ddrReady = s.ddrReady := by unfold State.tickRandom; split <;> rfl
@[simp] theorem tickRandom_sampleReady (s : State) : (s.tickRandom).sampleReady = s.sampleReady := by unfold State.tickRandom; split <;> rfl
@[simp] theorem tickRandom_pins (s : State) : (s.tickRandom).pins = s.pins := by unfold State.tickRandom; split <;> rfl
@[simp] theorem tickRandom_timerIp (s : State) : (s.tickRandom).timerIp = s.timerIp := by unfold State.tickRandom; split <;> rfl
@[simp] theorem tickRandom_pendingWatch (s : State) : (s.tickRandom).pendingWatch = s.pendingWatch := by unfold State.tickRandom; split <;> rfl
@[simp] theorem tickRandom_softDelay0 (s : State) : (s.tickRandom).softDelay0 = s.softDelay0 := by unfold State.tickRandom; split <;> rfl
@[simp] theorem tickRandom_softDelay1 (s : State) : (s.tickRandom).softDelay1 = s.softDelay1 := by unfold State.tickRandom; split <;> rfl
@[simp] theorem tickRandom_countIdle (s : State) : (s.tickRandom).countIdle = s.countIdle := by unfold State.tickRandom; split <;> rfl
@[simp] theorem tickRandom_free (s : State) : (s.tickRandom).free = s.free := by unfold State.tickRandom; split <;> rfl

/-! ### The fields that an update writes -/

@[simp] theorem setHiLo_hi (s : State) (hi lo : Word) : (s.setHiLo hi lo).hi = hi := rfl
@[simp] theorem setHiLo_lo (s : State) (hi lo : Word) : (s.setHiLo hi lo).lo = lo := rfl
@[simp] theorem stepped_pc (s : State) : s.stepped.pc = s.nextPc := rfl
@[simp] theorem stepped_delay (s : State) : s.stepped.delay = .none := rfl
@[simp] theorem takeException_delay (s : State) (e : Exc) : (s.takeException e).delay = .none := rfl
@[simp] theorem takeException_pc (s : State) (e : Exc) : (s.takeException e).pc = s.vectorBase + s.vectorOffset e := rfl
@[simp] theorem setTlb_tlb (s : State) (i : BitVec 6) (e : TlbEntry) : (s.setTlb i e).tlb = s.tlb.set i.toNat e i.isLt := rfl
@[simp] theorem setTlb_tlbWritten (s : State) (i : BitVec 6) (e : TlbEntry) :
    (s.setTlb i e).tlbWritten = s.tlbWritten.set i.toNat true i.isLt := rfl
@[simp] theorem errorEntry_pc (s : State) : s.errorEntry.pc = resetVector := rfl
@[simp] theorem errorEntry_delay (s : State) : s.errorEntry.delay = .none := rfl
@[simp] theorem setFpCause_fcsr (s : State) (c : BitVec 6) : (s.setFpCause c).fcsr = { s.fcsr with cause := c } := rfl
@[simp] theorem recordFp_fcsr (s : State) (c : BitVec 6) :
    (s.recordFp c).fcsr = { s.fcsr with cause := c, flags := s.fcsr.flags ||| c.extractLsb' 0 5 } := rfl

/-! ### General registers -/

@[simp] theorem gpr_zero (s : State) : s.gpr 0 = 0 := rfl

theorem gpr_eq_of_gprs (s t : State) (h : t.gprs = s.gprs) (r : RegNum) : t.gpr r = s.gpr r := by
  simp [State.gpr, h]

@[simp] theorem setGpr_zero (s : State) (v : Word) : s.setGpr 0 v = s := rfl

theorem setGpr_gpr (s : State) (r q : RegNum) (v : Word) :
    (s.setGpr r v).gpr q = if q = r then (if r = 0 then 0 else v) else s.gpr q := by
  by_cases hr : r = 0
  · subst hr
    by_cases hq : q = 0
    · subst hq; rfl
    · rw [if_neg hq]; rfl
  · unfold State.setGpr
    rw [if_neg hr]
    by_cases hq : q = r
    · subst hq
      unfold State.gpr
      rw [if_neg hr, if_pos rfl, if_neg hr]
      exact Vector.getElem_set_self q.isLt
    · have hne : r.toNat ≠ q.toNat := fun h => hq (BitVec.eq_of_toNat_eq h.symm)
      rw [if_neg hq]
      unfold State.gpr
      split
      · rfl
      · exact Vector.getElem_set_ne r.isLt q.isLt hne

@[simp] theorem setGpr_gpr_self (s : State) (r : RegNum) (v : Word) :
    (s.setGpr r v).gpr r = if r = 0 then 0 else v := by simp [setGpr_gpr]

theorem setGpr_gpr_ne (s : State) (r q : RegNum) (v : Word) (h : q ≠ r) : (s.setGpr r v).gpr q = s.gpr q := by
  simp [setGpr_gpr, h]

/-- A register write is a change of the register file only. -/
theorem setGpr_eta (s : State) (r : RegNum) (v : Word) : s.setGpr r v = { s with gprs := (s.setGpr r v).gprs } := by
  unfold State.setGpr; split <;> rfl

@[simp] theorem stepped_gpr (s : State) (r : RegNum) : s.stepped.gpr r = s.gpr r := rfl
@[simp] theorem setHiLo_gpr (s : State) (hi lo : Word) (r : RegNum) : (s.setHiLo hi lo).gpr r = s.gpr r := rfl
@[simp] theorem setFprRaw_gpr (s : State) (n r : RegNum) (v : Word) : (s.setFprRaw n v).gpr r = s.gpr r := rfl
@[simp] theorem recordFp_gpr (s : State) (c : BitVec 6) (r : RegNum) : (s.recordFp c).gpr r = s.gpr r := rfl

@[simp] theorem takeException_gpr (s : State) (e : Exc) (r : RegNum) : (s.takeException e).gpr r = s.gpr r :=
  gpr_eq_of_gprs _ _ (takeException_gprs s e) r

/-! ### Floating-point registers -/

theorem setFprRaw_fprRaw (s : State) (n r : RegNum) (v : Word) :
    (s.setFprRaw n v).fprRaw r = if r = n then v else s.fprRaw r := by
  unfold State.setFprRaw State.fprRaw
  by_cases h : r = n
  · subst h; simp
  · have : n.toNat ≠ r.toNat := fun e => h (BitVec.eq_of_toNat_eq e.symm)
    simp [h, this]

@[simp] theorem setFprRaw_fprRaw_self (s : State) (n : RegNum) (v : Word) : (s.setFprRaw n v).fprRaw n = v := by
  simp [setFprRaw_fprRaw]

theorem setFprRaw_fprRaw_ne (s : State) (n r : RegNum) (v : Word) (h : r ≠ n) :
    (s.setFprRaw n v).fprRaw r = s.fprRaw r := by simp [setFprRaw_fprRaw, h]

/-! ### The end of an instruction -/

theorem advance_next (s : State) (h : s.leavesSegment = false) : s.advance = .next s.stepped := by
  simp [State.advance, h]

theorem advance_refused (s : State) (h : s.leavesSegment = true) : s.advance = .refused .leavesSegment := by
  simp [State.advance, h]

/-- When the flow stays in its segment. -/
theorem leavesAfter_eq_false (s : State) (n : Nat) :
    s.leavesAfter n = false ↔ segmentName (s.pc + BitVec.ofNat 64 n) = segmentName s.pc := by
  simp [State.leavesAfter]

/-- What TLBWI and TLBWR do where nothing stops them. -/
theorem writeTlb_next (s : State) (i : BitVec 6) (hu : s.cp0Usable = true) (hm : pageMaskLegal s.cp0.pageMask = true)
    (hs : (s.setTlb i s.cp0.tlbEntry).writtenSizesAgree = true) (hl : s.leavesSegment = false) :
    s.writeTlb i = .next (s.setTlb i s.cp0.tlbEntry).stepped := by
  have h : (s.setTlb i s.cp0.tlbEntry).leavesSegment = false := hl
  simp [State.writeTlb, State.whenCp0, hu, hm, hs, advance_next _ h]

@[simp] theorem setGpr_nextPc (s : State) (r : RegNum) (v : Word) : (s.setGpr r v).nextPc = s.nextPc := by
  simp [State.nextPc]

@[simp] theorem setGpr_leavesSegment (s : State) (r : RegNum) (v : Word) : (s.setGpr r v).leavesSegment = s.leavesSegment := by
  simp [State.leavesSegment, State.leavesAfter]

@[simp] theorem setHiLo_nextPc (s : State) (hi lo : Word) : (s.setHiLo hi lo).nextPc = s.nextPc := rfl

@[simp] theorem setHiLo_leavesSegment (s : State) (hi lo : Word) : (s.setHiLo hi lo).leavesSegment = s.leavesSegment := rfl

/-- What `writeGpr` does: the completion, the result and the frame of an instruction with a general register result. -/
theorem writeGpr_result (s : State) (r : RegNum) (v : Word) (h : s.leavesSegment = false) : GprResult s (s.writeGpr r v) r v := by
  refine ⟨(s.setGpr r v).stepped, ?_, ⟨by simp, by simp⟩, by simp, ?_, ?_, ?_⟩
  · exact advance_next _ (by simpa using h)
  · intro q hq; simpa using setGpr_gpr_ne s r q v hq
  · intro a; simp [State.byteAt]
  · unfold State.setGpr State.stepped; split <;> rfl

/-- What `writeHiLo` does. -/
theorem writeHiLo_result (s : State) (hi lo : Word) (h : s.leavesSegment = false) : HiLoResult s (s.writeHiLo hi lo) hi lo :=
  ⟨(s.setHiLo hi lo).stepped, advance_next _ (by simpa using h), ⟨rfl, rfl⟩, rfl, rfl, fun _ => rfl, fun _ => rfl, rfl⟩

/-- What an advance does. -/
theorem advance_noEffect (s : State) (h : s.leavesSegment = false) : NoEffect s s.advance :=
  ⟨s.stepped, advance_next _ h, ⟨rfl, rfl⟩, fun _ => rfl, fun _ => rfl, rfl⟩

/-- What entering a delay slot does. -/
theorem enterSlot_enters (s : State) (target : Option Word) (h : s.leavesAfter 4 = false) : EntersSlot s (s.enterSlot target) target := by
  refine ⟨{ s with pc := s.pc + 4, delay := .slot target }, ?_, rfl, rfl, fun _ => rfl, fun _ => rfl, rfl⟩
  simp [State.enterSlot, h]

end Machine
end Sys2Proof
end

