-- ==== Sys2Proof/Laws/Access.lean ====
section
/-! SUPPORT. What loads, stores and the gather buffer can do: one lemma per shared operation. -/

namespace Sys2Proof
namespace Machine

/-! ### Free choices -/

@[simp] theorem drawBelow_one (s : State) (d : Draw) : s.drawBelow 1 d = 0 := rfl

theorem drawBelow_lt (s : State) (n : Nat) (d : Draw) (h : 0 < n) : s.drawBelow n d < n := by
  unfold State.drawBelow
  split
  · exact h
  · exact Nat.mod_lt _ h

/-- With no other copy there is nothing to choose. -/
@[simp] theorem pickCopy_nil (s : State) (read own : Nat) : s.pickCopy read own [] = own := rfl

@[simp] theorem oneOf_one (s : State) (lookup k : Nat) : s.oneOf lookup [k] = some k := by
  simp [State.oneOf]

/-- A choice among copies is one of them. -/
theorem pickCopy_mem (s : State) (read own : Nat) (others : List Nat) :
    s.pickCopy read own others = own ∨ s.pickCopy read own others ∈ others := by
  unfold State.pickCopy
  split
  · exact .inl rfl
  · next h =>
    have hpos : 0 < (own :: others).dedup.length := List.length_pos_iff.mpr (by simp [List.dedup_eq_nil])
    have hlt := drawBelow_lt s _ (.copy read) hpos
    have hmem := List.mem_dedup.mp (List.getElem_mem hlt)
    rw [List.getD_eq_getElem _ _ hlt]
    exact List.mem_cons.mp hmem

/-- What a fetch through a view may return beside its own copy: the versions of the word that are not settled for the view. -/
theorem mem_versionsFor (s : State) (view : View) (pa : PAddr) (n : Nat) :
    n ∈ s.versionsFor view pa ↔ ∃ v ∈ s.code, v.word = pa.toNat / 4 ∧ view ∉ v.settled ∧ v.value.toNat = n := by
  simp [State.versionsFor, and_assoc]

/-- The versions after a store: those known before, the sequence begun again for the words stored to, and for each of these the old
contents and the new one. -/
theorem mem_noteCode (t s : State) (past : Bool) (ws : List Nat) (found after : Nat → Nat) (v : CodeVersion) :
    v ∈ (t.noteCode s past ws found after).code ↔
      (∃ u ∈ t.code, v = if ws.contains u.word then { u with past := past, pushed := false, invalidated := [] } else u) ∨
      ∃ w ∈ ws, v ∈ s.oldVersions past found w ∨ v = versionOf past [] w (after w) := by
  have h : ∀ known added : List CodeVersion,
      v ∈ known ++ added.filter (fun u => !known.contains u) ↔ v ∈ known ∨ v ∈ added := by
    intro known added
    by_cases hk : v ∈ known <;> simp [hk]
  simp only [State.noteCode, h, List.mem_map, List.mem_flatMap, List.mem_append, List.mem_singleton, eq_comm (a := v)]

/-- Settled code is no race. -/
theorem versionsFor_settled (s : State) (view : View) (pa : PAddr) (h : s.codeSettled view pa) : s.versionsFor view pa = [] := by
  refine List.eq_nil_iff_forall_not_mem.mpr fun n hn => ?_
  obtain ⟨v, hv, hw, hs, -⟩ := (mem_versionsFor s view pa n).mp hn
  exact hs (h v hv hw)

/-! ### The pieces of an access -/

/-- The checks of an access that passes them and is not watched. -/
theorem prepare_pass (s : State) (kind : Access) (va : Word) (align : Nat) (r : PAddr × BitVec 3)
    (h : s.translateAligned kind va align = .pass r) (hw : s.watched kind r.1 = false) : s.prepare kind va align = .ok r s := by
  simp [State.prepare, h, Chk.run, State.watchCheck, hw, Run.bind]

/-- A misaligned access raises its address error at once (20_memory.md R135, R137). -/
theorem prepare_misaligned (s : State) (kind : Access) (va : Word) (align : Nat) (h : va.toNat % align ≠ 0) :
    s.prepare kind va align = .raise (.addressError kind.isStore va) s := by
  simp [State.prepare, State.translateAligned, h, Chk.run]

/-! ### Bytes of memory -/

/-- A read of a byte that memory answers gives what memory holds. -/
theorem physicalByte_memory (s : State) (a : Nat) (h : s.isMemory a = true) : s.physicalByte a = s.storedByte a := by
  unfold State.isMemory at h
  unfold State.physicalByte
  split
  · next hr => simp [State.kindAt, hr] at h
  · split
    · next hr => simp [State.kindAt, hr] at h
    · split at h <;> simp_all

/-- A read of bytes that memory answers gives what memory holds. -/
theorem readBytes_memory (s : State) (pa : PAddr) (n : Nat) (h : s.inMemory pa n) : s.readBytes pa n = s.storedLE pa n := by
  induction n generalizing pa with
  | zero => rfl
  | succ n ih =>
    have h0 := h 0 (by omega)
    rw [show pa + BitVec.ofNat 40 0 = pa by simp] at h0
    rw [State.readBytes, State.storedLE, physicalByte_memory s _ h0, ih]
    intro i hi
    have := h (i + 1) (by omega)
    rwa [show pa + 1 + BitVec.ofNat 40 i = pa + BitVec.ofNat 40 (i + 1) by
      rw [Nat.add_comm i 1, BitVec.ofNat_add, ← BitVec.add_assoc]; rfl]

theorem kindAt_of_isMemory (s : State) (a : Nat) (h : s.isMemory a = true) : s.kindAt a ≠ none ∧ s.kindAt a ≠ some .absent := by
  unfold State.isMemory at h
  split at h <;> simp_all

/-- Memory answers a read of it. -/
theorem answers_memory (s : State) (pa : PAddr) (n : Nat) (fetch : Bool) (h : s.inMemory pa n) :
    s.answers pa n fetch = .pass () := by
  have hk : ∀ k, k ∈ s.kindsOf pa n → k ≠ none ∧ k ≠ some .absent := by
    intro k hk
    obtain ⟨i, hi, rfl⟩ := List.mem_map.mp hk
    exact kindAt_of_isMemory s _ (h i (List.mem_range.mp hi))
  have h1 : (s.kindsOf pa n).contains (some .absent) = false := by
    rw [List.contains_eq_mem, decide_eq_false_iff_not]; exact fun hm => (hk _ hm).2 rfl
  have h2 : (s.kindsOf pa n).contains none = false := by
    rw [List.contains_eq_mem, decide_eq_false_iff_not]; exact fun hm => (hk _ hm).1 rfl
  simp only [State.answers, h1, h2]; rfl

/-! ### Loads and fetches -/

/-- Where no modified copy is known there is none to race with. -/
theorem inModified_nil (s : State) (pa : PAddr) (n : Nat) (h : s.unmodified pa) : s.inModified pa n = [] := by
  have h1 : (s.touchedD pa).filter (fun k => (s.dline k).dirty) = [] := by
    simpa [List.filter_eq_nil_iff] using h.1
  have h2 : (s.touchedL2 pa).filter (fun k => (s.l2line k).state.isDirty) = [] := by
    simpa [List.filter_eq_nil_iff] using h.2
  simp [State.inModified, h1, h2, State.inD, State.inL2]

/-- A read past the caches of memory of which no modified copy is known. -/
theorem uncachedValue_memory (s : State) (read : Nat) (pa : PAddr) (n : Nat) (hm : s.inMemory pa n) (hu : s.unmodified pa) :
    s.uncachedValue read pa n [] = s.storedLE pa n := by
  simp [State.uncachedValue, inModified_nil s pa n hu, readBytes_memory s pa n hm]

/-- A load past the caches of memory of which no modified copy is known (20_memory.md R161). -/
theorem loadUncached_memory (s : State) (pa : PAddr) (n : Nat) (hm : s.inMemory pa n) (hu : s.unmodified pa) :
    s.loadUncached pa n = .ok (s.storedLE pa n) s := by
  simp [State.loadUncached, answers_memory s pa n false hm, Chk.run, uncachedValue_memory s 1 pa n hm hu]

theorem prepare_uncached (s : State) (kind : Access) (va : Word) (align : Nat) (pa : PAddr)
    (h : s.passesUncached kind va align pa) (hw : s.watched kind pa = false) :
    ∃ attr : BitVec 3, attr ≠ 3 ∧ s.prepare kind va align = .ok (pa, attr) s := by
  rcases h with h | h
  · exact ⟨2, by decide, prepare_pass s kind va align (pa, 2) h hw⟩
  · exact ⟨7, by decide, prepare_pass s kind va align (pa, 7) h hw⟩

/-- A load with an attribute other than 3 of memory of which no modified copy is known. -/
theorem memRead_uncached (s : State) (va : Word) (pa : PAddr) (attr : BitVec 3) (n : Nat) (ha : attr ≠ 3)
    (hg : s.gathered pa n = false) (hm : s.inMemory pa n) (hu : s.unmodified pa) :
    s.memRead va pa attr n = .ok (s.storedLE pa n) s := by
  rw [State.memRead, if_neg (by simp [hg]), if_neg ha, loadUncached_memory s pa n hm hu]

/-- What a load past the caches answers (20_memory.md R161). -/
theorem loadVirt_uncached (s : State) (va : Word) (n : Nat) (pa : PAddr) (h : UncachedLoad s va n pa) :
    s.loadVirt va n = .ok (s.ramDatum pa n) s := by
  obtain ⟨attr, ha, hp⟩ := prepare_uncached s .load va n pa h.translates h.notWatched
  simp only [State.loadVirt, hp, Run.bind, memRead_uncached s va pa attr n ha h.notGathered h.memory h.unmodified, State.ramDatum]

/-- What the load of a part of a datum past the caches answers. -/
theorem loadPart_uncached (s : State) (va : Word) (size skip n : Nat) (pa : PAddr) (h : UncachedPart s va size skip n pa) :
    s.loadPart va size skip n = .ok (BitVec.ofNat 64 (s.storedLE (pa + BitVec.ofNat 40 skip) n * 2 ^ (8 * skip))) s := by
  obtain ⟨attr, ha, hp⟩ := prepare_uncached s .load va size pa h.translates h.notWatched
  simp only [State.loadPart, hp, Run.bind, memRead_uncached s _ _ attr n ha h.notGathered h.memory h.unmodified]

/-- A cached read that is no race is the line's own. -/
theorem cachedValue_own (s : State) (va : Word) (pa : PAddr) (n own : Nat) (h : s.notRaced va pa n) :
    s.cachedValue va pa n own = own := by
  rcases h with h | ⟨hu, ha⟩
  · simp [State.cachedValue, h]
  · simp [State.cachedValue, State.racingValues, State.inD, hu, ha]

/-- What a read of a cached line that hits answers (20_memory.md R162). -/
theorem memRead_cached (s : State) (va : Word) (pa : PAddr) (n k : Nat) (hg : s.gathered pa n = false)
    (hd : s.described pa n = .pass ()) (hh : s.dHits (l1Set va) pa = [k]) (hr : s.notRaced va pa n) :
    s.memRead va pa 3 n = .ok (lineGet (s.dline k).data (lineOffset pa) n) s := by
  simp [State.memRead, hg, State.loadCached, State.ensureD, hh, hd, Chk.run, Run.bind, cachedValue_own _ _ _ _ _ hr]

/-- What a load that hits the D-cache answers. -/
theorem loadVirt_cached (s : State) (va : Word) (n : Nat) (pa : PAddr) (k : Nat) (h : CachedLoad s va n pa k) :
    s.loadVirt va n = .ok (s.lineDatum k pa n) s := by
  have hm := memRead_cached s va pa n k h.notGathered h.described h.hit h.notRaced
  simp only [State.loadVirt, prepare_pass s .load va n (pa, 3) h.translates h.notWatched, Run.bind, hm, State.lineDatum]

/-- What the load of a part of a datum that hits the D-cache answers. -/
theorem loadPart_cached (s : State) (va : Word) (size skip n : Nat) (pa : PAddr) (k : Nat) (h : CachedPart s va size skip n pa k) :
    s.loadPart va size skip n =
      .ok (BitVec.ofNat 64 (lineGet (s.dline k).data (lineOffset (pa + BitVec.ofNat 40 skip)) n * 2 ^ (8 * skip))) s := by
  have hm := memRead_cached s (va + BitVec.ofNat 64 skip) (pa + BitVec.ofNat 40 skip) n k h.notGathered
    h.described h.hit h.notRaced
  simp only [State.loadPart, prepare_pass s .load va size (pa, 3) h.translates h.notWatched, Run.bind, hm]

/-! ### Stores past the caches -/

/-- `t` differs from `s` in what the issue of stores past the caches changes: main memory and the registers of the DDR
controller. -/
def State.StoredPast (s t : State) : Prop :=
  t = { s with memory := t.memory, ddrConfig := t.ddrConfig, ddrSample := t.ddrSample, ddrReady := t.ddrReady,
               sampleReady := t.sampleReady }

theorem StoredPast_trans (s t u : State) (h1 : s.StoredPast t) (h2 : t.StoredPast u) : s.StoredPast u := by
  unfold State.StoredPast at *
  exact h2.trans (by rw [h1])

/-- What the store of one byte past the caches can change. -/
theorem writeByte_frame (s : State) (a : Nat) (b : Byte) : s.StoredPast (s.writeByte a b) := by
  unfold State.StoredPast State.writeByte
  split
  · rfl
  · split
    · rfl
    · split <;> rfl

/-- The store of one byte past the caches keeps memory canonical. -/
theorem writeByte_wf (s : State) (a : Nat) (b : Byte) (ha : a < 2 ^ 40) (h : Memory.wf s.memory = true) :
    Memory.wf (s.writeByte a b).memory = true := by
  unfold State.writeByte
  split
  · exact h
  · split
    · exact h
    · split
      · exact Memory.write_wf _ _ _ ha h
      · dsimp only
        split
        · exact Memory.write_wf _ _ _ ha h
        · exact Memory.erase_wf _ _ h
      · exact h

/-- The store of a byte that memory takes. -/
theorem writeByte_ram (s : State) (a : Nat) (b : Byte) (h : s.takesStores a = true) :
    s.writeByte a b = { s with memory := Memory.write s.memory a b } := by
  unfold State.takesStores at h
  unfold State.writeByte
  split
  · next hr => simp [State.kindAt, hr] at h
  · split
    · next hr => simp [State.kindAt, hr] at h
    · split at h <;> simp_all

/-- What a store past the caches can change. -/
theorem writeBytes_frame (s : State) (pa : PAddr) (n v : Nat) : s.StoredPast (s.writeBytes pa n v) := by
  induction n generalizing s pa v with
  | zero => rfl
  | succ n ih => exact StoredPast_trans _ _ _ (writeByte_frame s _ _) (ih _ _ _)

/-- A store past the caches keeps memory canonical. -/
theorem writeBytes_wf (s : State) (pa : PAddr) (n v : Nat) (h : Memory.wf s.memory = true) :
    Memory.wf (s.writeBytes pa n v).memory = true := by
  induction n generalizing s pa v with
  | zero => exact h
  | succ n ih => exact ih _ _ _ (writeByte_wf s _ _ pa.isLt h)

/-- The next address of a datum. -/
theorem paddr_succ (pa : PAddr) (i : Nat) : pa + 1 + BitVec.ofNat 40 i = pa + BitVec.ofNat 40 (i + 1) := by
  rw [Nat.add_comm i 1, BitVec.ofNat_add, ← BitVec.add_assoc]; rfl

theorem inRam_next (s : State) (pa : PAddr) (n : Nat) (m : List Host.Cell) (h : s.inRam pa (n + 1)) :
    ({ s with memory := m } : State).inRam (pa + 1) n := by
  intro i hi
  rw [paddr_succ]
  exact h (i + 1) (by omega)

/-- A store past the caches to RAM changes memory only. -/
theorem writeBytes_ram (s : State) (pa : PAddr) (n v : Nat) (h : s.inRam pa n) :
    s.writeBytes pa n v = { s with memory := (s.writeBytes pa n v).memory } := by
  induction n generalizing s pa v with
  | zero => rfl
  | succ n ih =>
    have h0 := h 0 (by omega)
    rw [show pa + BitVec.ofNat 40 0 = pa by simp] at h0
    have := ih { s with memory := Memory.write s.memory pa.toNat (BitVec.ofNat 8 v) } (pa + 1) (v / 256) (inRam_next s pa n _ h)
    rw [State.writeBytes, writeByte_ram s _ _ h0, this]

/-- A store past the caches leaves every byte outside its addresses as it was. -/
theorem read_writeBytes_other (s : State) (pa : PAddr) (n v a : Nat) (h : ∀ i, i < n → a ≠ (pa + BitVec.ofNat 40 i).toNat)
    (hr : s.inRam pa n) : (s.writeBytes pa n v).byteAt a = s.byteAt a := by
  induction n generalizing s pa v with
  | zero => rfl
  | succ n ih =>
    have h0 := hr 0 (by omega)
    rw [show pa + BitVec.ofNat 40 0 = pa by simp] at h0
    rw [State.writeBytes, writeByte_ram s _ _ h0, ih _ _ _ _ (inRam_next s pa n _ hr)]
    · exact Memory.read_write_other _ _ _ _ (by simpa using h 0 (by omega))
    · intro i hi
      rw [paddr_succ]
      exact h (i + 1) (by omega)

/-- Byte `i` of a store past the caches to RAM is byte `i` of its datum. -/
theorem read_writeBytes_same (s : State) (pa : PAddr) (n v i : Nat) (hn : n ≤ 32) (hi : i < n) (hr : s.inRam pa n) :
    (s.writeBytes pa n v).byteAt (pa + BitVec.ofNat 40 i).toNat = some (BitVec.ofNat 8 (v / 256 ^ i)) := by
  induction n generalizing s pa v i with
  | zero => omega
  | succ n ih =>
    have h0 := hr 0 (by omega)
    rw [show pa + BitVec.ofNat 40 0 = pa by simp] at h0
    rw [State.writeBytes, writeByte_ram s _ _ h0]
    have hnext := inRam_next s pa n (Memory.write s.memory pa.toNat (BitVec.ofNat 8 v)) hr
    cases i with
    | zero =>
      rw [read_writeBytes_other _ _ _ _ _ ?_ hnext]
      · simp [State.byteAt, Memory.read_write_same]
      · intro j hj
        simp only [BitVec.toNat_add, BitVec.toNat_ofNat]
        have := pa.isLt
        have h1 : (1 : BitVec 40).toNat = 1 := rfl
        omega
    | succ i =>
      have := ih { s with memory := Memory.write s.memory pa.toNat (BitVec.ofNat 8 v) } (pa + 1) (v / 256) i (by omega)
        (by omega) hnext
      rw [paddr_succ] at this
      rw [this, Nat.div_div_eq_div_mul, ← Nat.pow_succ']

/-- The bytes after a store past the caches to RAM. -/
theorem writeBytes_stores (s : State) (pa : PAddr) (n : Nat) (v : Word) (hn8 : n ≤ 8) (hr : s.inRam pa n) :
    StoresBytes s (s.writeBytes pa n v.toNat) pa n v := by
  constructor
  · intro i hi
    rw [read_writeBytes_same _ _ _ _ _ (by omega) hi hr]
    congr 1
    apply BitVec.eq_of_toNat_eq
    simp only [BitVec.toNat_ofNat, BitVec.extractLsb'_toNat, Nat.shiftRight_eq_div_pow]
    rw [show (256 : Nat) = 2 ^ 8 by rfl, ← Nat.pow_mul]
  · intro a ha
    exact read_writeBytes_other _ _ _ _ _ ha hr

/-! ### The gather buffer -/

/-- Issuing a list of gathered stores is a row of stores past the caches. -/
theorem foldl_writeBytes (l : List GatheredStore) (s : State) :
    s.StoredPast (l.foldl (fun t g => t.writeBytes g.pa g.size g.value.toNat) s) ∧
    (Memory.wf s.memory = true →
      Memory.wf (l.foldl (fun t g => t.writeBytes g.pa g.size g.value.toNat) s).memory = true) := by
  induction l generalizing s with
  | nil => exact ⟨rfl, id⟩
  | cons g l ih =>
    obtain ⟨h1, h2⟩ := ih (s.writeBytes g.pa g.size g.value.toNat)
    exact ⟨StoredPast_trans _ _ _ (writeBytes_frame s g.pa g.size g.value.toNat) h1,
      fun h => h2 (writeBytes_wf s _ _ _ h)⟩

/-- Issuing the gathered stores changes main memory, the registers of the DDR controller and the gather buffer only. -/
theorem drainGather_frame (s : State) :
    s.drainGather = { s with
      memory := s.drainGather.memory
      ddrConfig := s.drainGather.ddrConfig
      ddrSample := s.drainGather.ddrSample
      ddrReady := s.drainGather.ddrReady
      sampleReady := s.drainGather.sampleReady
      gather := [] } := by
  have h := (foldl_writeBytes s.gather s).1
  unfold State.StoredPast at h
  unfold State.drainGather
  generalize s.gather.foldl (fun t g => t.writeBytes g.pa g.size g.value.toNat) s = u at h ⊢
  rw [h]

/-- Issuing the gathered stores keeps memory canonical. -/
theorem drainGather_wf (s : State) (h : Memory.wf s.memory = true) : Memory.wf s.drainGather.memory = true :=
  (foldl_writeBytes s.gather s).2 h

/-- With nothing pending there is nothing to issue. -/
theorem drainGather_empty (s : State) (h : s.gather = []) : s.drainGather = s := by
  cases s; simp_all [State.drainGather]

theorem kindsOf_congr (s t : State) (h : t.ramMap = s.ramMap) (pa : PAddr) (n : Nat) : t.kindsOf pa n = s.kindsOf pa n := by
  simp [State.kindsOf, State.kindAt, h]

/-- RAM is described by RAM_MAP, so a store to it is not refused. -/
theorem described_ram (s : State) (pa : PAddr) (n : Nat) (h : s.inRam pa n) : s.described pa n = .pass () := by
  have h2 : (s.kindsOf pa n).contains none = false := by
    rw [List.contains_eq_mem, decide_eq_false_iff_not]
    intro hm
    obtain ⟨i, hi, hk⟩ := List.mem_map.mp hm
    have := h i (List.mem_range.mp hi)
    simp only [State.takesStores, hk] at this
    cases this
  simp only [State.described, h2]; rfl

/-- What a store past the caches to RAM does (20_memory.md R161, R163). -/
theorem storeVirt_uncached (s : State) (va : Word) (align n : Nat) (pa : PAddr) (v : Word)
    (h : UncachedStore s va align n pa) : s.storeVirt va align n v = .ok () (s.storeUncached pa n v.toNat) := by
  simp [State.storeVirt, prepare_pass s .store va align (pa, 2) h.translates h.notWatched, Run.bind, State.memWrite,
    described_ram s pa n h.ram, Chk.run]

/-- What an uncached-accelerated store does (20_memory.md R163). -/
theorem storeVirt_accelerated (s : State) (va : Word) (align n : Nat) (pa : PAddr) (v : Word)
    (h : AcceleratedStore s va align n pa) : s.storeVirt va align n v = .ok () (s.storeAccelerated pa n v) := by
  simp [State.storeVirt, prepare_pass s .store va align (pa, 7) h.translates h.notWatched, Run.bind, State.memWrite,
    h.described, Chk.run]

/-- What a store that hits the D-cache does (20_memory.md R162). -/
theorem storeVirt_cached (s : State) (va : Word) (align n : Nat) (pa : PAddr) (k : Nat) (v : Word)
    (h : CachedStore s va align n pa k) : s.storeVirt va align n v = .ok () (s.storeLine va pa k n v.toNat) := by
  simp [State.storeVirt, prepare_pass s .store va align (pa, 3) h.translates h.notWatched, Run.bind, State.memWrite,
    State.storeCached, State.ensureD, h.hit, h.described, Chk.run]

/-- The lines of the D-cache after a store that hits. -/
theorem storeLine_dline (s : State) (va : Word) (pa : PAddr) (k n v j : Nat) :
    (s.storeLine va pa k n v).dline j =
      if j = k then
        { s.dline k with state := .stored, dirty := true, data := lineSet (s.dline k).data (lineOffset pa) n v }
      else s.dline j := by
  let l : DLine := { s.dline k with state := .stored, dirty := true, data := lineSet (s.dline k).data (lineOffset pa) n v }
  have he : (s.storeLine va pa k n v).caches = { s.caches with dcache := Lines.put s.caches.dcache k l } := rfl
  have hl : (s.storeLine va pa k n v).dline j = (Lines.get? (Lines.put s.caches.dcache k l) j).getD (s.caches.untouchedD j) := by
    rw [State.dline, he]; rfl
  rw [hl]
  by_cases h : j = k
  · subst h; simp [l]
  · simp only [h, if_false, Lines.get?_put_other _ _ _ _ h]; rfl

end Machine
end Sys2Proof
end

