-- ==== Sys2Proof/Laws/Encoding.lean ====
section
/-! SUPPORT. The fields of the five word formats, read back: 30_encoding.md R201, R202. -/

namespace Sys2Proof
namespace Laws

/-- A field that ends where the lower part of a word begins. -/
theorem extractLsb'_append_high {k m n : Nat} (a : BitVec m) (b : BitVec n) (start : Nat) (h : n ≤ start) :
    (a ++ b).extractLsb' start k = a.extractLsb' (start - n) k := by
  apply BitVec.eq_of_getLsbD_eq
  intro i hi
  simp only [BitVec.getLsbD_extractLsb', BitVec.getLsbD_append, hi, decide_true, Bool.true_and]
  rw [if_neg (by omega)]
  congr 1
  omega

/-- A field within the lower part of a word. -/
theorem extractLsb'_append_low {k m n : Nat} (a : BitVec m) (b : BitVec n) (start : Nat) (h : start + k ≤ n) :
    (a ++ b).extractLsb' start k = b.extractLsb' start k := by
  apply BitVec.eq_of_getLsbD_eq
  intro i hi
  simp only [BitVec.getLsbD_extractLsb', BitVec.getLsbD_append, hi, decide_true, Bool.true_and]
  rw [if_pos (by omega)]

/-- The lower part of a word, whole. -/
theorem extractLsb'_append_all {m n : Nat} (a : BitVec m) (b : BitVec n) : (a ++ b).extractLsb' 0 n = b := by
  apply BitVec.eq_of_getLsbD_eq
  intro i hi
  simp [BitVec.getLsbD_append, hi]

@[simp] theorem opOf_iWord (op : BitVec 6) (rs : BitVec 5) (rt : BitVec 5) (imm : BitVec 16) : opOf (iWord op rs rt imm) =
    op :=
  (extractLsb'_append_high _ _ 26 (by decide)).trans ((extractLsb'_append_high _ _ 10 (by decide)).trans
    ((extractLsb'_append_high _ _ 5 (by decide)).trans BitVec.extractLsb'_eq_self))
@[simp] theorem rsOf_iWord (op : BitVec 6) (rs : BitVec 5) (rt : BitVec 5) (imm : BitVec 16) : rsOf (iWord op rs rt imm) =
    rs :=
  (extractLsb'_append_high _ _ 21 (by decide)).trans ((extractLsb'_append_high _ _ 5 (by decide)).trans
    (extractLsb'_append_all _ _))
@[simp] theorem rtOf_iWord (op : BitVec 6) (rs : BitVec 5) (rt : BitVec 5) (imm : BitVec 16) : rtOf (iWord op rs rt imm) =
    rt :=
  (extractLsb'_append_high _ _ 16 (by decide)).trans (extractLsb'_append_all _ _)
@[simp] theorem immOf_iWord (op : BitVec 6) (rs : BitVec 5) (rt : BitVec 5) (imm : BitVec 16) : immOf (iWord op rs rt imm) =
    imm :=
  (extractLsb'_append_all _ _)

@[simp] theorem opOf_rWord (op : BitVec 6) (rs : BitVec 5) (rt : BitVec 5) (rd : BitVec 5) (sa : BitVec 5) (funct : BitVec
    6) : opOf (rWord op rs rt rd sa funct) = op :=
  (extractLsb'_append_high _ _ 26 (by decide)).trans ((extractLsb'_append_high _ _ 20 (by decide)).trans
    ((extractLsb'_append_high _ _ 15 (by decide)).trans ((extractLsb'_append_high _ _ 10 (by decide)).trans
    ((extractLsb'_append_high _ _ 5 (by decide)).trans BitVec.extractLsb'_eq_self))))
@[simp] theorem rsOf_rWord (op : BitVec 6) (rs : BitVec 5) (rt : BitVec 5) (rd : BitVec 5) (sa : BitVec 5) (funct : BitVec
    6) : rsOf (rWord op rs rt rd sa funct) = rs :=
  (extractLsb'_append_high _ _ 21 (by decide)).trans ((extractLsb'_append_high _ _ 15 (by decide)).trans
    ((extractLsb'_append_high _ _ 10 (by decide)).trans ((extractLsb'_append_high _ _ 5 (by decide)).trans
    (extractLsb'_append_all _ _))))
@[simp] theorem rtOf_rWord (op : BitVec 6) (rs : BitVec 5) (rt : BitVec 5) (rd : BitVec 5) (sa : BitVec 5) (funct : BitVec
    6) : rtOf (rWord op rs rt rd sa funct) = rt :=
  (extractLsb'_append_high _ _ 16 (by decide)).trans ((extractLsb'_append_high _ _ 10 (by decide)).trans
    ((extractLsb'_append_high _ _ 5 (by decide)).trans (extractLsb'_append_all _ _)))
@[simp] theorem rdOf_rWord (op : BitVec 6) (rs : BitVec 5) (rt : BitVec 5) (rd : BitVec 5) (sa : BitVec 5) (funct : BitVec
    6) : rdOf (rWord op rs rt rd sa funct) = rd :=
  (extractLsb'_append_high _ _ 11 (by decide)).trans ((extractLsb'_append_high _ _ 5 (by decide)).trans
    (extractLsb'_append_all _ _))
@[simp] theorem saOf_rWord (op : BitVec 6) (rs : BitVec 5) (rt : BitVec 5) (rd : BitVec 5) (sa : BitVec 5) (funct : BitVec
    6) : saOf (rWord op rs rt rd sa funct) = sa :=
  (extractLsb'_append_high _ _ 6 (by decide)).trans (extractLsb'_append_all _ _)
@[simp] theorem functOf_rWord (op : BitVec 6) (rs : BitVec 5) (rt : BitVec 5) (rd : BitVec 5) (sa : BitVec 5) (funct :
    BitVec 6) : functOf (rWord op rs rt rd sa funct) = funct :=
  (extractLsb'_append_all _ _)

@[simp] theorem opOf_jWord (op : BitVec 6) (target : BitVec 26) : opOf (jWord op target) = op :=
  (extractLsb'_append_high _ _ 26 (by decide)).trans BitVec.extractLsb'_eq_self
@[simp] theorem targetOf_jWord (op : BitVec 6) (target : BitVec 26) : targetOf (jWord op target) = target :=
  (extractLsb'_append_all _ _)

@[simp] theorem opOf_codeWord (op : BitVec 6) (code : BitVec 20) (funct : BitVec 6) : opOf (codeWord op code funct) = op :=
  (extractLsb'_append_high _ _ 26 (by decide)).trans ((extractLsb'_append_high _ _ 20 (by decide)).trans
    BitVec.extractLsb'_eq_self)
@[simp] theorem codeOf_codeWord (op : BitVec 6) (code : BitVec 20) (funct : BitVec 6) : codeOf (codeWord op code funct) =
    code :=
  (extractLsb'_append_high _ _ 6 (by decide)).trans (extractLsb'_append_all _ _)
@[simp] theorem functOf_codeWord (op : BitVec 6) (code : BitVec 20) (funct : BitVec 6) : functOf (codeWord op code funct) =
    funct :=
  (extractLsb'_append_all _ _)

@[simp] theorem opOf_trapWord (op : BitVec 6) (rs : BitVec 5) (rt : BitVec 5) (trapCode : BitVec 10) (funct : BitVec 6) :
    opOf (trapWord op rs rt trapCode funct) = op :=
  (extractLsb'_append_high _ _ 26 (by decide)).trans ((extractLsb'_append_high _ _ 20 (by decide)).trans
    ((extractLsb'_append_high _ _ 10 (by decide)).trans ((extractLsb'_append_high _ _ 5 (by decide)).trans
    BitVec.extractLsb'_eq_self)))
@[simp] theorem rsOf_trapWord (op : BitVec 6) (rs : BitVec 5) (rt : BitVec 5) (trapCode : BitVec 10) (funct : BitVec 6) :
    rsOf (trapWord op rs rt trapCode funct) = rs :=
  (extractLsb'_append_high _ _ 21 (by decide)).trans ((extractLsb'_append_high _ _ 15 (by decide)).trans
    ((extractLsb'_append_high _ _ 5 (by decide)).trans (extractLsb'_append_all _ _)))
@[simp] theorem rtOf_trapWord (op : BitVec 6) (rs : BitVec 5) (rt : BitVec 5) (trapCode : BitVec 10) (funct : BitVec 6) :
    rtOf (trapWord op rs rt trapCode funct) = rt :=
  (extractLsb'_append_high _ _ 16 (by decide)).trans ((extractLsb'_append_high _ _ 10 (by decide)).trans
    (extractLsb'_append_all _ _))
@[simp] theorem trapCodeOf_trapWord (op : BitVec 6) (rs : BitVec 5) (rt : BitVec 5) (trapCode : BitVec 10) (funct : BitVec
    6) : trapCodeOf (trapWord op rs rt trapCode funct) = trapCode :=
  (extractLsb'_append_high _ _ 6 (by decide)).trans (extractLsb'_append_all _ _)
@[simp] theorem functOf_trapWord (op : BitVec 6) (rs : BitVec 5) (rt : BitVec 5) (trapCode : BitVec 10) (funct : BitVec 6) :
    functOf (trapWord op rs rt trapCode funct) = funct :=
  (extractLsb'_append_all _ _)

/-! ## A word from its fields -/

theorem extractLsb'_split {k : Nat} (w : BitVec k) (start m n : Nat) :
    w.extractLsb' (start + n) m ++ w.extractLsb' start n = w.extractLsb' start (m + n) := by
  apply BitVec.eq_of_getLsbD_eq
  intro i hi
  simp only [BitVec.getLsbD_append, BitVec.getLsbD_extractLsb']
  split
  · rename_i h
    simp [h, hi]
  · rename_i h
    have e : start + n + (i - n) = start + i := by omega
    have l : i - n < m := by omega
    simp [hi, e, l]

theorem append_fields {m n : Nat} (w : BitVec (m + n)) : w.extractLsb' n m ++ w.extractLsb' 0 n = w := by
  have h := extractLsb'_split w 0 m n
  rw [Nat.zero_add] at h
  exact h.trans BitVec.extractLsb'_eq_self

theorem iWord_fields (w : Word32) : iWord (opOf w) (rsOf w) (rtOf w) (immOf w) = w :=
  (congrArg (· ++ w.extractLsb' 0 16) ((congrArg (· ++ w.extractLsb' 16 5) (extractLsb'_split w 21 6 5)).trans
    (extractLsb'_split w 16 11 5))).trans (append_fields (m := 16) (n := 16) w)

theorem jWord_fields (w : Word32) : jWord (opOf w) (targetOf w) = w := append_fields (m := 6) (n := 26) w

theorem codeWord_fields (w : Word32) : codeWord (opOf w) (codeOf w) (functOf w) = w :=
  (congrArg (· ++ w.extractLsb' 0 6) (extractLsb'_split w 6 6 20)).trans (append_fields (m := 26) (n := 6) w)

theorem trapWord_fields (w : Word32) : trapWord (opOf w) (rsOf w) (rtOf w) (trapCodeOf w) (functOf w) = w :=
  (congrArg (· ++ w.extractLsb' 0 6) ((congrArg (· ++ w.extractLsb' 6 10) ((congrArg (· ++ w.extractLsb' 16 5)
    (extractLsb'_split w 21 6 5)).trans (extractLsb'_split w 16 11 5))).trans (extractLsb'_split w 6 16 10))).trans
    (append_fields (m := 26) (n := 6) w)

theorem rWord_fields (w : Word32) : rWord (opOf w) (rsOf w) (rtOf w) (rdOf w) (saOf w) (functOf w) = w :=
  (congrArg (· ++ w.extractLsb' 0 6) ((congrArg (· ++ w.extractLsb' 6 5) ((congrArg (· ++ w.extractLsb' 11 5)
    ((congrArg (· ++ w.extractLsb' 16 5) (extractLsb'_split w 21 6 5)).trans (extractLsb'_split w 16 11 5))).trans
    (extractLsb'_split w 11 16 5))).trans (extractLsb'_split w 6 21 5))).trans (append_fields (m := 26) (n := 6) w)

end Laws
end Sys2Proof
end

