-- ==== Sys2Proof/Laws/PerInstr.lean ====
section
/-! SUPPORT. Statements made per instruction: the fixed bits of every encoding are those of the opcode table. -/

namespace Sys2Proof
namespace Laws

/-! ## The formats under a mask -/

theorem append_and_append {m n : Nat} (a c : BitVec m) (b d : BitVec n) :
    (a ++ b) &&& (c ++ d) = (a &&& c) ++ (b &&& d) := BitVec.and_append

theorem iWord_and (op mop : BitVec 6) (rs rt mrs mrt : BitVec 5) (imm mimm : BitVec 16) :
    iWord op rs rt imm &&& iWord mop mrs mrt mimm = iWord (op &&& mop) (rs &&& mrs) (rt &&& mrt) (imm &&& mimm) := by
  refine (append_and_append _ _ _ _).trans (congrArg (· ++ (imm &&& mimm)) ?_)
  exact (append_and_append _ _ _ _).trans (congrArg (· ++ (rt &&& mrt)) (append_and_append _ _ _ _))

theorem jWord_and (op mop : BitVec 6) (target mtarget : BitVec 26) :
    jWord op target &&& jWord mop mtarget = jWord (op &&& mop) (target &&& mtarget) := append_and_append _ _ _ _

theorem codeWord_and (op mop : BitVec 6) (code mcode : BitVec 20) (funct mfunct : BitVec 6) :
    codeWord op code funct &&& codeWord mop mcode mfunct = codeWord (op &&& mop) (code &&& mcode) (funct &&& mfunct) :=
  (append_and_append _ _ _ _).trans (congrArg (· ++ (funct &&& mfunct)) (append_and_append _ _ _ _))

theorem trapWord_and (op mop : BitVec 6) (rs rt mrs mrt : BitVec 5) (code mcode : BitVec 10) (funct mfunct : BitVec 6) :
    trapWord op rs rt code funct &&& trapWord mop mrs mrt mcode mfunct =
      trapWord (op &&& mop) (rs &&& mrs) (rt &&& mrt) (code &&& mcode) (funct &&& mfunct) := by
  refine (append_and_append _ _ _ _).trans (congrArg (· ++ (funct &&& mfunct)) ?_)
  refine (append_and_append _ _ _ _).trans (congrArg (· ++ (code &&& mcode)) ?_)
  exact (append_and_append _ _ _ _).trans (congrArg (· ++ (rt &&& mrt)) (append_and_append _ _ _ _))

theorem rWord_and (op mop : BitVec 6) (rs rt rd sa mrs mrt mrd msa : BitVec 5) (funct mfunct : BitVec 6) :
    rWord op rs rt rd sa funct &&& rWord mop mrs mrt mrd msa mfunct =
      rWord (op &&& mop) (rs &&& mrs) (rt &&& mrt) (rd &&& mrd) (sa &&& msa) (funct &&& mfunct) := by
  refine (append_and_append _ _ _ _).trans (congrArg (· ++ (funct &&& mfunct)) ?_)
  refine (append_and_append _ _ _ _).trans (congrArg (· ++ (sa &&& msa)) ?_)
  refine (append_and_append _ _ _ _).trans (congrArg (· ++ (rd &&& mrd)) ?_)
  exact (append_and_append _ _ _ _).trans (congrArg (· ++ (rt &&& mrt)) (append_and_append _ _ _ _))

/-! ## The opcode table -/

noncomputable section

/-- The mask and the match of an instruction's row of spec/opcode_table.json. -/
def fixedBits (i : Instr) : Word32 × Word32 :=
  match i with
  | .lb _ _ _ => (0xFC000000, 0x80000000)
  | .lbu _ _ _ => (0xFC000000, 0x90000000)
  | .lh _ _ _ => (0xFC000000, 0x84000000)
  | .lhu _ _ _ => (0xFC000000, 0x94000000)
  | .lw _ _ _ => (0xFC000000, 0x8C000000)
  | .lwu _ _ _ => (0xFC000000, 0x9C000000)
  | .ld _ _ _ => (0xFC000000, 0xDC000000)
  | .lwl _ _ _ => (0xFC000000, 0x88000000)
  | .lwr _ _ _ => (0xFC000000, 0x98000000)
  | .ldl _ _ _ => (0xFC000000, 0x68000000)
  | .ldr _ _ _ => (0xFC000000, 0x6C000000)
  | .ll _ _ _ => (0xFC000000, 0xC0000000)
  | .lld _ _ _ => (0xFC000000, 0xD0000000)
  | .sb _ _ _ => (0xFC000000, 0xA0000000)
  | .sh _ _ _ => (0xFC000000, 0xA4000000)
  | .sw _ _ _ => (0xFC000000, 0xAC000000)
  | .sd _ _ _ => (0xFC000000, 0xFC000000)
  | .swl _ _ _ => (0xFC000000, 0xA8000000)
  | .swr _ _ _ => (0xFC000000, 0xB8000000)
  | .sdl _ _ _ => (0xFC000000, 0xB0000000)
  | .sdr _ _ _ => (0xFC000000, 0xB4000000)
  | .sc _ _ _ => (0xFC000000, 0xE0000000)
  | .scd _ _ _ => (0xFC000000, 0xF0000000)
  | .sync => (0xFFFFFFFF, 0x0000000F)
  | .addi _ _ _ => (0xFC000000, 0x20000000)
  | .daddi _ _ _ => (0xFC000000, 0x60000000)
  | .addiu _ _ _ => (0xFC000000, 0x24000000)
  | .daddiu _ _ _ => (0xFC000000, 0x64000000)
  | .slti _ _ _ => (0xFC000000, 0x28000000)
  | .sltiu _ _ _ => (0xFC000000, 0x2C000000)
  | .andi _ _ _ => (0xFC000000, 0x30000000)
  | .ori _ _ _ => (0xFC000000, 0x34000000)
  | .xori _ _ _ => (0xFC000000, 0x38000000)
  | .lui _ _ => (0xFFE00000, 0x3C000000)
  | .add _ _ _ => (0xFC0007FF, 0x00000020)
  | .dadd _ _ _ => (0xFC0007FF, 0x0000002C)
  | .addu _ _ _ => (0xFC0007FF, 0x00000021)
  | .daddu _ _ _ => (0xFC0007FF, 0x0000002D)
  | .sub _ _ _ => (0xFC0007FF, 0x00000022)
  | .dsub _ _ _ => (0xFC0007FF, 0x0000002E)
  | .subu _ _ _ => (0xFC0007FF, 0x00000023)
  | .dsubu _ _ _ => (0xFC0007FF, 0x0000002F)
  | .slt _ _ _ => (0xFC0007FF, 0x0000002A)
  | .sltu _ _ _ => (0xFC0007FF, 0x0000002B)
  | .and _ _ _ => (0xFC0007FF, 0x00000024)
  | .or _ _ _ => (0xFC0007FF, 0x00000025)
  | .xor _ _ _ => (0xFC0007FF, 0x00000026)
  | .nor _ _ _ => (0xFC0007FF, 0x00000027)
  | .mult _ _ => (0xFC00FFFF, 0x00000018)
  | .dmult _ _ => (0xFC00FFFF, 0x0000001C)
  | .multu _ _ => (0xFC00FFFF, 0x00000019)
  | .dmultu _ _ => (0xFC00FFFF, 0x0000001D)
  | .div _ _ => (0xFC00FFFF, 0x0000001A)
  | .ddiv _ _ => (0xFC00FFFF, 0x0000001E)
  | .divu _ _ => (0xFC00FFFF, 0x0000001B)
  | .ddivu _ _ => (0xFC00FFFF, 0x0000001F)
  | .mfhi _ => (0xFFFF07FF, 0x00000010)
  | .mthi _ => (0xFC1FFFFF, 0x00000011)
  | .mflo _ => (0xFFFF07FF, 0x00000012)
  | .mtlo _ => (0xFC1FFFFF, 0x00000013)
  | .multG _ _ _ => (0xFC0007FF, 0x7C000018)
  | .multuG _ _ _ => (0xFC0007FF, 0x7C000019)
  | .dmultG _ _ _ => (0xFC0007FF, 0x7C00001C)
  | .dmultuG _ _ _ => (0xFC0007FF, 0x7C00001D)
  | .divG _ _ _ => (0xFC0007FF, 0x7C00001A)
  | .divuG _ _ _ => (0xFC0007FF, 0x7C00001B)
  | .ddivG _ _ _ => (0xFC0007FF, 0x7C00001E)
  | .ddivuG _ _ _ => (0xFC0007FF, 0x7C00001F)
  | .modG _ _ _ => (0xFC0007FF, 0x7C000022)
  | .moduG _ _ _ => (0xFC0007FF, 0x7C000023)
  | .dmodG _ _ _ => (0xFC0007FF, 0x7C000026)
  | .dmoduG _ _ _ => (0xFC0007FF, 0x7C000027)
  | .j _ => (0xFC000000, 0x08000000)
  | .jal _ => (0xFC000000, 0x0C000000)
  | .jalr _ _ => (0xFC1F07FF, 0x00000009)
  | .jr _ => (0xFC1FFFFF, 0x00000008)
  | .beq _ _ _ => (0xFC000000, 0x10000000)
  | .bne _ _ _ => (0xFC000000, 0x14000000)
  | .blez _ _ => (0xFC1F0000, 0x18000000)
  | .bgtz _ _ => (0xFC1F0000, 0x1C000000)
  | .bltz _ _ => (0xFC1F0000, 0x04000000)
  | .bgez _ _ => (0xFC1F0000, 0x04010000)
  | .bltzal _ _ => (0xFC1F0000, 0x04100000)
  | .bgezal _ _ => (0xFC1F0000, 0x04110000)
  | .beql _ _ _ => (0xFC000000, 0x50000000)
  | .bnel _ _ _ => (0xFC000000, 0x54000000)
  | .blezl _ _ => (0xFC1F0000, 0x58000000)
  | .bgtzl _ _ => (0xFC1F0000, 0x5C000000)
  | .bltzl _ _ => (0xFC1F0000, 0x04020000)
  | .bgezl _ _ => (0xFC1F0000, 0x04030000)
  | .bltzall _ _ => (0xFC1F0000, 0x04120000)
  | .bgezall _ _ => (0xFC1F0000, 0x04130000)
  | .sll _ _ _ => (0xFFE0003F, 0x00000000)
  | .srl _ _ _ => (0xFFE0003F, 0x00000002)
  | .sra _ _ _ => (0xFFE0003F, 0x00000003)
  | .sllv _ _ _ => (0xFC0007FF, 0x00000004)
  | .srlv _ _ _ => (0xFC0007FF, 0x00000006)
  | .srav _ _ _ => (0xFC0007FF, 0x00000007)
  | .dsll _ _ _ => (0xFFE0003F, 0x00000038)
  | .dsrl _ _ _ => (0xFFE0003F, 0x0000003A)
  | .dsra _ _ _ => (0xFFE0003F, 0x0000003B)
  | .dsllv _ _ _ => (0xFC0007FF, 0x00000014)
  | .dsrlv _ _ _ => (0xFC0007FF, 0x00000016)
  | .dsrav _ _ _ => (0xFC0007FF, 0x00000017)
  | .dsll32 _ _ _ => (0xFFE0003F, 0x0000003C)
  | .dsrl32 _ _ _ => (0xFFE0003F, 0x0000003E)
  | .dsra32 _ _ _ => (0xFFE0003F, 0x0000003F)
  | .syscall _ => (0xFC00003F, 0x0000000C)
  | .break_ _ => (0xFC00003F, 0x0000000D)
  | .tge _ _ _ => (0xFC00003F, 0x00000030)
  | .tgeu _ _ _ => (0xFC00003F, 0x00000031)
  | .tlt _ _ _ => (0xFC00003F, 0x00000032)
  | .tltu _ _ _ => (0xFC00003F, 0x00000033)
  | .teq _ _ _ => (0xFC00003F, 0x00000034)
  | .tne _ _ _ => (0xFC00003F, 0x00000036)
  | .tgei _ _ => (0xFC1F0000, 0x04080000)
  | .tgeiu _ _ => (0xFC1F0000, 0x04090000)
  | .tlti _ _ => (0xFC1F0000, 0x040A0000)
  | .tltiu _ _ => (0xFC1F0000, 0x040B0000)
  | .teqi _ _ => (0xFC1F0000, 0x040C0000)
  | .tnei _ _ => (0xFC1F0000, 0x040E0000)
  | .mfc0 _ _ => (0xFFE007FF, 0x40000000)
  | .mtc0 _ _ => (0xFFE007FF, 0x40800000)
  | .dmfc0 _ _ => (0xFFE007FF, 0x40200000)
  | .dmtc0 _ _ => (0xFFE007FF, 0x40A00000)
  | .tlbp => (0xFFFFFFFF, 0x42000008)
  | .tlbr => (0xFFFFFFFF, 0x42000001)
  | .tlbwi => (0xFFFFFFFF, 0x42000002)
  | .tlbwr => (0xFFFFFFFF, 0x42000006)
  | .eret => (0xFFFFFFFF, 0x42000018)
  | .cache _ _ _ => (0xFC000000, 0xBC000000)
  | .mfc1 _ _ => (0xFFE007FF, 0x44000000)
  | .mtc1 _ _ => (0xFFE007FF, 0x44800000)
  | .dmfc1 _ _ => (0xFFE007FF, 0x44200000)
  | .dmtc1 _ _ => (0xFFE007FF, 0x44A00000)
  | .cfc1 _ _ => (0xFFE007FF, 0x44400000)
  | .ctc1 _ _ => (0xFFE007FF, 0x44C00000)
  | .lwc1 _ _ _ => (0xFC000000, 0xC4000000)
  | .ldc1 _ _ _ => (0xFC000000, 0xD4000000)
  | .swc1 _ _ _ => (0xFC000000, 0xE4000000)
  | .sdc1 _ _ _ => (0xFC000000, 0xF4000000)
  | .bc1f _ => (0xFFFF0000, 0x45000000)
  | .bc1t _ => (0xFFFF0000, 0x45010000)
  | .bc1fl _ => (0xFFFF0000, 0x45020000)
  | .bc1tl _ => (0xFFFF0000, 0x45030000)
  | .movS _ _ => (0xFFFF003F, 0x46000006)
  | .movD _ _ => (0xFFFF003F, 0x46200006)
  | .movPs _ _ => (0xFFFF003F, 0x45600006)
  | .cFS _ _ => (0xFFE007FF, 0x46000030)
  | .cFD _ _ => (0xFFE007FF, 0x46200030)
  | .cFPs _ _ => (0xFFE007FF, 0x45600030)
  | .cUnS _ _ => (0xFFE007FF, 0x46000031)
  | .cUnD _ _ => (0xFFE007FF, 0x46200031)
  | .cUnPs _ _ => (0xFFE007FF, 0x45600031)
  | .cEqS _ _ => (0xFFE007FF, 0x46000032)
  | .cEqD _ _ => (0xFFE007FF, 0x46200032)
  | .cEqPs _ _ => (0xFFE007FF, 0x45600032)
  | .cUeqS _ _ => (0xFFE007FF, 0x46000033)
  | .cUeqD _ _ => (0xFFE007FF, 0x46200033)
  | .cUeqPs _ _ => (0xFFE007FF, 0x45600033)
  | .cOltS _ _ => (0xFFE007FF, 0x46000034)
  | .cOltD _ _ => (0xFFE007FF, 0x46200034)
  | .cOltPs _ _ => (0xFFE007FF, 0x45600034)
  | .cUltS _ _ => (0xFFE007FF, 0x46000035)
  | .cUltD _ _ => (0xFFE007FF, 0x46200035)
  | .cUltPs _ _ => (0xFFE007FF, 0x45600035)
  | .cOleS _ _ => (0xFFE007FF, 0x46000036)
  | .cOleD _ _ => (0xFFE007FF, 0x46200036)
  | .cOlePs _ _ => (0xFFE007FF, 0x45600036)
  | .cUleS _ _ => (0xFFE007FF, 0x46000037)
  | .cUleD _ _ => (0xFFE007FF, 0x46200037)
  | .cUlePs _ _ => (0xFFE007FF, 0x45600037)
  | .cSfS _ _ => (0xFFE007FF, 0x46000038)
  | .cSfD _ _ => (0xFFE007FF, 0x46200038)
  | .cSfPs _ _ => (0xFFE007FF, 0x45600038)
  | .cNgleS _ _ => (0xFFE007FF, 0x46000039)
  | .cNgleD _ _ => (0xFFE007FF, 0x46200039)
  | .cNglePs _ _ => (0xFFE007FF, 0x45600039)
  | .cSeqS _ _ => (0xFFE007FF, 0x4600003A)
  | .cSeqD _ _ => (0xFFE007FF, 0x4620003A)
  | .cSeqPs _ _ => (0xFFE007FF, 0x4560003A)
  | .cNglS _ _ => (0xFFE007FF, 0x4600003B)
  | .cNglD _ _ => (0xFFE007FF, 0x4620003B)
  | .cNglPs _ _ => (0xFFE007FF, 0x4560003B)
  | .cLtS _ _ => (0xFFE007FF, 0x4600003C)
  | .cLtD _ _ => (0xFFE007FF, 0x4620003C)
  | .cLtPs _ _ => (0xFFE007FF, 0x4560003C)
  | .cNgeS _ _ => (0xFFE007FF, 0x4600003D)
  | .cNgeD _ _ => (0xFFE007FF, 0x4620003D)
  | .cNgePs _ _ => (0xFFE007FF, 0x4560003D)
  | .cLeS _ _ => (0xFFE007FF, 0x4600003E)
  | .cLeD _ _ => (0xFFE007FF, 0x4620003E)
  | .cLePs _ _ => (0xFFE007FF, 0x4560003E)
  | .cNgtS _ _ => (0xFFE007FF, 0x4600003F)
  | .cNgtD _ _ => (0xFFE007FF, 0x4620003F)
  | .cNgtPs _ _ => (0xFFE007FF, 0x4560003F)
  | .addS _ _ _ => (0xFFE0003F, 0x46000000)
  | .addD _ _ _ => (0xFFE0003F, 0x46200000)
  | .addPs _ _ _ => (0xFFE0003F, 0x45600000)
  | .subS _ _ _ => (0xFFE0003F, 0x46000001)
  | .subD _ _ _ => (0xFFE0003F, 0x46200001)
  | .subPs _ _ _ => (0xFFE0003F, 0x45600001)
  | .mulS _ _ _ => (0xFFE0003F, 0x46000002)
  | .mulD _ _ _ => (0xFFE0003F, 0x46200002)
  | .mulPs _ _ _ => (0xFFE0003F, 0x45600002)
  | .divS _ _ _ => (0xFFE0003F, 0x46000003)
  | .divD _ _ _ => (0xFFE0003F, 0x46200003)
  | .sqrtS _ _ => (0xFFFF003F, 0x46000004)
  | .sqrtD _ _ => (0xFFFF003F, 0x46200004)
  | .absS _ _ => (0xFFFF003F, 0x46000005)
  | .absD _ _ => (0xFFFF003F, 0x46200005)
  | .absPs _ _ => (0xFFFF003F, 0x45600005)
  | .negS _ _ => (0xFFFF003F, 0x46000007)
  | .negD _ _ => (0xFFFF003F, 0x46200007)
  | .negPs _ _ => (0xFFFF003F, 0x45600007)
  | .roundLS _ _ => (0xFFFF003F, 0x46000008)
  | .roundLD _ _ => (0xFFFF003F, 0x46200008)
  | .truncLS _ _ => (0xFFFF003F, 0x46000009)
  | .truncLD _ _ => (0xFFFF003F, 0x46200009)
  | .ceilLS _ _ => (0xFFFF003F, 0x4600000A)
  | .ceilLD _ _ => (0xFFFF003F, 0x4620000A)
  | .floorLS _ _ => (0xFFFF003F, 0x4600000B)
  | .floorLD _ _ => (0xFFFF003F, 0x4620000B)
  | .roundWS _ _ => (0xFFFF003F, 0x4600000C)
  | .roundWD _ _ => (0xFFFF003F, 0x4620000C)
  | .truncWS _ _ => (0xFFFF003F, 0x4600000D)
  | .truncWD _ _ => (0xFFFF003F, 0x4620000D)
  | .ceilWS _ _ => (0xFFFF003F, 0x4600000E)
  | .ceilWD _ _ => (0xFFFF003F, 0x4620000E)
  | .floorWS _ _ => (0xFFFF003F, 0x4600000F)
  | .floorWD _ _ => (0xFFFF003F, 0x4620000F)
  | .cvtSD _ _ => (0xFFFF003F, 0x46200020)
  | .cvtSW _ _ => (0xFFFF003F, 0x46800020)
  | .cvtSL _ _ => (0xFFFF003F, 0x46A00020)
  | .cvtDS _ _ => (0xFFFF003F, 0x46000021)
  | .cvtDW _ _ => (0xFFFF003F, 0x46800021)
  | .cvtDL _ _ => (0xFFFF003F, 0x46A00021)
  | .cvtWS _ _ => (0xFFFF003F, 0x46000024)
  | .cvtWD _ _ => (0xFFFF003F, 0x46200024)
  | .cvtLS _ _ => (0xFFFF003F, 0x46000025)
  | .cvtLD _ _ => (0xFFFF003F, 0x46200025)
  | .maddS _ _ _ => (0xFFE0003F, 0x46000018)
  | .maddD _ _ _ => (0xFFE0003F, 0x46200018)
  | .maddPs _ _ _ => (0xFFE0003F, 0x45600018)
  | .msubS _ _ _ => (0xFFE0003F, 0x46000019)
  | .msubD _ _ _ => (0xFFE0003F, 0x46200019)
  | .msubPs _ _ _ => (0xFFE0003F, 0x45600019)
  | .nmaddS _ _ _ => (0xFFE0003F, 0x4600001A)
  | .nmaddD _ _ _ => (0xFFE0003F, 0x4620001A)
  | .nmaddPs _ _ _ => (0xFFE0003F, 0x4560001A)
  | .nmsubS _ _ _ => (0xFFE0003F, 0x4600001B)
  | .nmsubD _ _ _ => (0xFFE0003F, 0x4620001B)
  | .nmsubPs _ _ _ => (0xFFE0003F, 0x4560001B)

/-- The fixed bits of the encoding are the ones of the opcode table. -/
def EncodeFixedBits.Statement (i : Instr) : Prop := encode i &&& (fixedBits i).1 = (fixedBits i).2

end

/-! ## One lemma per instruction -/

theorem EncodeFixedBits.lb (rt : RegNum) (offset : BitVec 16) (base : RegNum) : EncodeFixedBits.Statement (.lb rt offset base) :=
  show iWord 32#6 base rt offset &&& iWord 63#6 0#5 0#5 0#16 = _ by rw [iWord_and]; simp; rfl
theorem EncodeFixedBits.lbu (rt : RegNum) (offset : BitVec 16) (base : RegNum) : EncodeFixedBits.Statement (.lbu rt offset base) :=
  show iWord 36#6 base rt offset &&& iWord 63#6 0#5 0#5 0#16 = _ by rw [iWord_and]; simp; rfl
theorem EncodeFixedBits.lh (rt : RegNum) (offset : BitVec 16) (base : RegNum) : EncodeFixedBits.Statement (.lh rt offset base) :=
  show iWord 33#6 base rt offset &&& iWord 63#6 0#5 0#5 0#16 = _ by rw [iWord_and]; simp; rfl
theorem EncodeFixedBits.lhu (rt : RegNum) (offset : BitVec 16) (base : RegNum) : EncodeFixedBits.Statement (.lhu rt offset base) :=
  show iWord 37#6 base rt offset &&& iWord 63#6 0#5 0#5 0#16 = _ by rw [iWord_and]; simp; rfl
theorem EncodeFixedBits.lw (rt : RegNum) (offset : BitVec 16) (base : RegNum) : EncodeFixedBits.Statement (.lw rt offset base) :=
  show iWord 35#6 base rt offset &&& iWord 63#6 0#5 0#5 0#16 = _ by rw [iWord_and]; simp; rfl
theorem EncodeFixedBits.lwu (rt : RegNum) (offset : BitVec 16) (base : RegNum) : EncodeFixedBits.Statement (.lwu rt offset base) :=
  show iWord 39#6 base rt offset &&& iWord 63#6 0#5 0#5 0#16 = _ by rw [iWord_and]; simp; rfl
theorem EncodeFixedBits.ld (rt : RegNum) (offset : BitVec 16) (base : RegNum) : EncodeFixedBits.Statement (.ld rt offset base) :=
  show iWord 55#6 base rt offset &&& iWord 63#6 0#5 0#5 0#16 = _ by rw [iWord_and]; simp; rfl
theorem EncodeFixedBits.lwl (rt : RegNum) (offset : BitVec 16) (base : RegNum) : EncodeFixedBits.Statement (.lwl rt offset base) :=
  show iWord 34#6 base rt offset &&& iWord 63#6 0#5 0#5 0#16 = _ by rw [iWord_and]; simp; rfl
theorem EncodeFixedBits.lwr (rt : RegNum) (offset : BitVec 16) (base : RegNum) : EncodeFixedBits.Statement (.lwr rt offset base) :=
  show iWord 38#6 base rt offset &&& iWord 63#6 0#5 0#5 0#16 = _ by rw [iWord_and]; simp; rfl
theorem EncodeFixedBits.ldl (rt : RegNum) (offset : BitVec 16) (base : RegNum) : EncodeFixedBits.Statement (.ldl rt offset base) :=
  show iWord 26#6 base rt offset &&& iWord 63#6 0#5 0#5 0#16 = _ by rw [iWord_and]; simp; rfl
theorem EncodeFixedBits.ldr (rt : RegNum) (offset : BitVec 16) (base : RegNum) : EncodeFixedBits.Statement (.ldr rt offset base) :=
  show iWord 27#6 base rt offset &&& iWord 63#6 0#5 0#5 0#16 = _ by rw [iWord_and]; simp; rfl
theorem EncodeFixedBits.ll (rt : RegNum) (offset : BitVec 16) (base : RegNum) : EncodeFixedBits.Statement (.ll rt offset base) :=
  show iWord 48#6 base rt offset &&& iWord 63#6 0#5 0#5 0#16 = _ by rw [iWord_and]; simp; rfl
theorem EncodeFixedBits.lld (rt : RegNum) (offset : BitVec 16) (base : RegNum) : EncodeFixedBits.Statement (.lld rt offset base) :=
  show iWord 52#6 base rt offset &&& iWord 63#6 0#5 0#5 0#16 = _ by rw [iWord_and]; simp; rfl
theorem EncodeFixedBits.sb (rt : RegNum) (offset : BitVec 16) (base : RegNum) : EncodeFixedBits.Statement (.sb rt offset base) :=
  show iWord 40#6 base rt offset &&& iWord 63#6 0#5 0#5 0#16 = _ by rw [iWord_and]; simp; rfl
theorem EncodeFixedBits.sh (rt : RegNum) (offset : BitVec 16) (base : RegNum) : EncodeFixedBits.Statement (.sh rt offset base) :=
  show iWord 41#6 base rt offset &&& iWord 63#6 0#5 0#5 0#16 = _ by rw [iWord_and]; simp; rfl
theorem EncodeFixedBits.sw (rt : RegNum) (offset : BitVec 16) (base : RegNum) : EncodeFixedBits.Statement (.sw rt offset base) :=
  show iWord 43#6 base rt offset &&& iWord 63#6 0#5 0#5 0#16 = _ by rw [iWord_and]; simp; rfl
theorem EncodeFixedBits.sd (rt : RegNum) (offset : BitVec 16) (base : RegNum) : EncodeFixedBits.Statement (.sd rt offset base) :=
  show iWord 63#6 base rt offset &&& iWord 63#6 0#5 0#5 0#16 = _ by rw [iWord_and]; simp; rfl
theorem EncodeFixedBits.swl (rt : RegNum) (offset : BitVec 16) (base : RegNum) : EncodeFixedBits.Statement (.swl rt offset base) :=
  show iWord 42#6 base rt offset &&& iWord 63#6 0#5 0#5 0#16 = _ by rw [iWord_and]; simp; rfl
theorem EncodeFixedBits.swr (rt : RegNum) (offset : BitVec 16) (base : RegNum) : EncodeFixedBits.Statement (.swr rt offset base) :=
  show iWord 46#6 base rt offset &&& iWord 63#6 0#5 0#5 0#16 = _ by rw [iWord_and]; simp; rfl
theorem EncodeFixedBits.sdl (rt : RegNum) (offset : BitVec 16) (base : RegNum) : EncodeFixedBits.Statement (.sdl rt offset base) :=
  show iWord 44#6 base rt offset &&& iWord 63#6 0#5 0#5 0#16 = _ by rw [iWord_and]; simp; rfl
theorem EncodeFixedBits.sdr (rt : RegNum) (offset : BitVec 16) (base : RegNum) : EncodeFixedBits.Statement (.sdr rt offset base) :=
  show iWord 45#6 base rt offset &&& iWord 63#6 0#5 0#5 0#16 = _ by rw [iWord_and]; simp; rfl
theorem EncodeFixedBits.sc (rt : RegNum) (offset : BitVec 16) (base : RegNum) : EncodeFixedBits.Statement (.sc rt offset base) :=
  show iWord 56#6 base rt offset &&& iWord 63#6 0#5 0#5 0#16 = _ by rw [iWord_and]; simp; rfl
theorem EncodeFixedBits.scd (rt : RegNum) (offset : BitVec 16) (base : RegNum) : EncodeFixedBits.Statement (.scd rt offset base) :=
  show iWord 60#6 base rt offset &&& iWord 63#6 0#5 0#5 0#16 = _ by rw [iWord_and]; simp; rfl
theorem EncodeFixedBits.sync : EncodeFixedBits.Statement .sync :=
  rfl
theorem EncodeFixedBits.addi (rt rs : RegNum) (imm : BitVec 16) : EncodeFixedBits.Statement (.addi rt rs imm) :=
  show iWord 8#6 rs rt imm &&& iWord 63#6 0#5 0#5 0#16 = _ by rw [iWord_and]; simp; rfl
theorem EncodeFixedBits.daddi (rt rs : RegNum) (imm : BitVec 16) : EncodeFixedBits.Statement (.daddi rt rs imm) :=
  show iWord 24#6 rs rt imm &&& iWord 63#6 0#5 0#5 0#16 = _ by rw [iWord_and]; simp; rfl
theorem EncodeFixedBits.addiu (rt rs : RegNum) (imm : BitVec 16) : EncodeFixedBits.Statement (.addiu rt rs imm) :=
  show iWord 9#6 rs rt imm &&& iWord 63#6 0#5 0#5 0#16 = _ by rw [iWord_and]; simp; rfl
theorem EncodeFixedBits.daddiu (rt rs : RegNum) (imm : BitVec 16) : EncodeFixedBits.Statement (.daddiu rt rs imm) :=
  show iWord 25#6 rs rt imm &&& iWord 63#6 0#5 0#5 0#16 = _ by rw [iWord_and]; simp; rfl
theorem EncodeFixedBits.slti (rt rs : RegNum) (imm : BitVec 16) : EncodeFixedBits.Statement (.slti rt rs imm) :=
  show iWord 10#6 rs rt imm &&& iWord 63#6 0#5 0#5 0#16 = _ by rw [iWord_and]; simp; rfl
theorem EncodeFixedBits.sltiu (rt rs : RegNum) (imm : BitVec 16) : EncodeFixedBits.Statement (.sltiu rt rs imm) :=
  show iWord 11#6 rs rt imm &&& iWord 63#6 0#5 0#5 0#16 = _ by rw [iWord_and]; simp; rfl
theorem EncodeFixedBits.andi (rt rs : RegNum) (imm : BitVec 16) : EncodeFixedBits.Statement (.andi rt rs imm) :=
  show iWord 12#6 rs rt imm &&& iWord 63#6 0#5 0#5 0#16 = _ by rw [iWord_and]; simp; rfl
theorem EncodeFixedBits.ori (rt rs : RegNum) (imm : BitVec 16) : EncodeFixedBits.Statement (.ori rt rs imm) :=
  show iWord 13#6 rs rt imm &&& iWord 63#6 0#5 0#5 0#16 = _ by rw [iWord_and]; simp; rfl
theorem EncodeFixedBits.xori (rt rs : RegNum) (imm : BitVec 16) : EncodeFixedBits.Statement (.xori rt rs imm) :=
  show iWord 14#6 rs rt imm &&& iWord 63#6 0#5 0#5 0#16 = _ by rw [iWord_and]; simp; rfl
theorem EncodeFixedBits.lui (rt : RegNum) (imm : BitVec 16) : EncodeFixedBits.Statement (.lui rt imm) :=
  show iWord 15#6 0#5 rt imm &&& iWord 63#6 31#5 0#5 0#16 = _ by rw [iWord_and]; simp; rfl
theorem EncodeFixedBits.add (rd rs rt : RegNum) : EncodeFixedBits.Statement (.add rd rs rt) :=
  show rWord 0#6 rs rt rd 0#5 32#6 &&& rWord 63#6 0#5 0#5 0#5 31#5 63#6 = _ by rw [rWord_and]; simp; rfl
theorem EncodeFixedBits.dadd (rd rs rt : RegNum) : EncodeFixedBits.Statement (.dadd rd rs rt) :=
  show rWord 0#6 rs rt rd 0#5 44#6 &&& rWord 63#6 0#5 0#5 0#5 31#5 63#6 = _ by rw [rWord_and]; simp; rfl
theorem EncodeFixedBits.addu (rd rs rt : RegNum) : EncodeFixedBits.Statement (.addu rd rs rt) :=
  show rWord 0#6 rs rt rd 0#5 33#6 &&& rWord 63#6 0#5 0#5 0#5 31#5 63#6 = _ by rw [rWord_and]; simp; rfl
theorem EncodeFixedBits.daddu (rd rs rt : RegNum) : EncodeFixedBits.Statement (.daddu rd rs rt) :=
  show rWord 0#6 rs rt rd 0#5 45#6 &&& rWord 63#6 0#5 0#5 0#5 31#5 63#6 = _ by rw [rWord_and]; simp; rfl
theorem EncodeFixedBits.sub (rd rs rt : RegNum) : EncodeFixedBits.Statement (.sub rd rs rt) :=
  show rWord 0#6 rs rt rd 0#5 34#6 &&& rWord 63#6 0#5 0#5 0#5 31#5 63#6 = _ by rw [rWord_and]; simp; rfl
theorem EncodeFixedBits.dsub (rd rs rt : RegNum) : EncodeFixedBits.Statement (.dsub rd rs rt) :=
  show rWord 0#6 rs rt rd 0#5 46#6 &&& rWord 63#6 0#5 0#5 0#5 31#5 63#6 = _ by rw [rWord_and]; simp; rfl
theorem EncodeFixedBits.subu (rd rs rt : RegNum) : EncodeFixedBits.Statement (.subu rd rs rt) :=
  show rWord 0#6 rs rt rd 0#5 35#6 &&& rWord 63#6 0#5 0#5 0#5 31#5 63#6 = _ by rw [rWord_and]; simp; rfl
theorem EncodeFixedBits.dsubu (rd rs rt : RegNum) : EncodeFixedBits.Statement (.dsubu rd rs rt) :=
  show rWord 0#6 rs rt rd 0#5 47#6 &&& rWord 63#6 0#5 0#5 0#5 31#5 63#6 = _ by rw [rWord_and]; simp; rfl
theorem EncodeFixedBits.slt (rd rs rt : RegNum) : EncodeFixedBits.Statement (.slt rd rs rt) :=
  show rWord 0#6 rs rt rd 0#5 42#6 &&& rWord 63#6 0#5 0#5 0#5 31#5 63#6 = _ by rw [rWord_and]; simp; rfl
theorem EncodeFixedBits.sltu (rd rs rt : RegNum) : EncodeFixedBits.Statement (.sltu rd rs rt) :=
  show rWord 0#6 rs rt rd 0#5 43#6 &&& rWord 63#6 0#5 0#5 0#5 31#5 63#6 = _ by rw [rWord_and]; simp; rfl
theorem EncodeFixedBits.and (rd rs rt : RegNum) : EncodeFixedBits.Statement (.and rd rs rt) :=
  show rWord 0#6 rs rt rd 0#5 36#6 &&& rWord 63#6 0#5 0#5 0#5 31#5 63#6 = _ by rw [rWord_and]; simp; rfl
theorem EncodeFixedBits.or (rd rs rt : RegNum) : EncodeFixedBits.Statement (.or rd rs rt) :=
  show rWord 0#6 rs rt rd 0#5 37#6 &&& rWord 63#6 0#5 0#5 0#5 31#5 63#6 = _ by rw [rWord_and]; simp; rfl
theorem EncodeFixedBits.xor (rd rs rt : RegNum) : EncodeFixedBits.Statement (.xor rd rs rt) :=
  show rWord 0#6 rs rt rd 0#5 38#6 &&& rWord 63#6 0#5 0#5 0#5 31#5 63#6 = _ by rw [rWord_and]; simp; rfl
theorem EncodeFixedBits.nor (rd rs rt : RegNum) : EncodeFixedBits.Statement (.nor rd rs rt) :=
  show rWord 0#6 rs rt rd 0#5 39#6 &&& rWord 63#6 0#5 0#5 0#5 31#5 63#6 = _ by rw [rWord_and]; simp; rfl
theorem EncodeFixedBits.mult (rs rt : RegNum) : EncodeFixedBits.Statement (.mult rs rt) :=
  show rWord 0#6 rs rt 0#5 0#5 24#6 &&& rWord 63#6 0#5 0#5 31#5 31#5 63#6 = _ by rw [rWord_and]; simp; rfl
theorem EncodeFixedBits.dmult (rs rt : RegNum) : EncodeFixedBits.Statement (.dmult rs rt) :=
  show rWord 0#6 rs rt 0#5 0#5 28#6 &&& rWord 63#6 0#5 0#5 31#5 31#5 63#6 = _ by rw [rWord_and]; simp; rfl
theorem EncodeFixedBits.multu (rs rt : RegNum) : EncodeFixedBits.Statement (.multu rs rt) :=
  show rWord 0#6 rs rt 0#5 0#5 25#6 &&& rWord 63#6 0#5 0#5 31#5 31#5 63#6 = _ by rw [rWord_and]; simp; rfl
theorem EncodeFixedBits.dmultu (rs rt : RegNum) : EncodeFixedBits.Statement (.dmultu rs rt) :=
  show rWord 0#6 rs rt 0#5 0#5 29#6 &&& rWord 63#6 0#5 0#5 31#5 31#5 63#6 = _ by rw [rWord_and]; simp; rfl
theorem EncodeFixedBits.div (rs rt : RegNum) : EncodeFixedBits.Statement (.div rs rt) :=
  show rWord 0#6 rs rt 0#5 0#5 26#6 &&& rWord 63#6 0#5 0#5 31#5 31#5 63#6 = _ by rw [rWord_and]; simp; rfl
theorem EncodeFixedBits.ddiv (rs rt : RegNum) : EncodeFixedBits.Statement (.ddiv rs rt) :=
  show rWord 0#6 rs rt 0#5 0#5 30#6 &&& rWord 63#6 0#5 0#5 31#5 31#5 63#6 = _ by rw [rWord_and]; simp; rfl
theorem EncodeFixedBits.divu (rs rt : RegNum) : EncodeFixedBits.Statement (.divu rs rt) :=
  show rWord 0#6 rs rt 0#5 0#5 27#6 &&& rWord 63#6 0#5 0#5 31#5 31#5 63#6 = _ by rw [rWord_and]; simp; rfl
theorem EncodeFixedBits.ddivu (rs rt : RegNum) : EncodeFixedBits.Statement (.ddivu rs rt) :=
  show rWord 0#6 rs rt 0#5 0#5 31#6 &&& rWord 63#6 0#5 0#5 31#5 31#5 63#6 = _ by rw [rWord_and]; simp; rfl
theorem EncodeFixedBits.mfhi (rd : RegNum) : EncodeFixedBits.Statement (.mfhi rd) :=
  show rWord 0#6 0#5 0#5 rd 0#5 16#6 &&& rWord 63#6 31#5 31#5 0#5 31#5 63#6 = _ by rw [rWord_and]; simp; rfl
theorem EncodeFixedBits.mthi (rs : RegNum) : EncodeFixedBits.Statement (.mthi rs) :=
  show rWord 0#6 rs 0#5 0#5 0#5 17#6 &&& rWord 63#6 0#5 31#5 31#5 31#5 63#6 = _ by rw [rWord_and]; simp; rfl
theorem EncodeFixedBits.mflo (rd : RegNum) : EncodeFixedBits.Statement (.mflo rd) :=
  show rWord 0#6 0#5 0#5 rd 0#5 18#6 &&& rWord 63#6 31#5 31#5 0#5 31#5 63#6 = _ by rw [rWord_and]; simp; rfl
theorem EncodeFixedBits.mtlo (rs : RegNum) : EncodeFixedBits.Statement (.mtlo rs) :=
  show rWord 0#6 rs 0#5 0#5 0#5 19#6 &&& rWord 63#6 0#5 31#5 31#5 31#5 63#6 = _ by rw [rWord_and]; simp; rfl
theorem EncodeFixedBits.multG (rd rs rt : RegNum) : EncodeFixedBits.Statement (.multG rd rs rt) :=
  show rWord 31#6 rs rt rd 0#5 24#6 &&& rWord 63#6 0#5 0#5 0#5 31#5 63#6 = _ by rw [rWord_and]; simp; rfl
theorem EncodeFixedBits.multuG (rd rs rt : RegNum) : EncodeFixedBits.Statement (.multuG rd rs rt) :=
  show rWord 31#6 rs rt rd 0#5 25#6 &&& rWord 63#6 0#5 0#5 0#5 31#5 63#6 = _ by rw [rWord_and]; simp; rfl
theorem EncodeFixedBits.dmultG (rd rs rt : RegNum) : EncodeFixedBits.Statement (.dmultG rd rs rt) :=
  show rWord 31#6 rs rt rd 0#5 28#6 &&& rWord 63#6 0#5 0#5 0#5 31#5 63#6 = _ by rw [rWord_and]; simp; rfl
theorem EncodeFixedBits.dmultuG (rd rs rt : RegNum) : EncodeFixedBits.Statement (.dmultuG rd rs rt) :=
  show rWord 31#6 rs rt rd 0#5 29#6 &&& rWord 63#6 0#5 0#5 0#5 31#5 63#6 = _ by rw [rWord_and]; simp; rfl
theorem EncodeFixedBits.divG (rd rs rt : RegNum) : EncodeFixedBits.Statement (.divG rd rs rt) :=
  show rWord 31#6 rs rt rd 0#5 26#6 &&& rWord 63#6 0#5 0#5 0#5 31#5 63#6 = _ by rw [rWord_and]; simp; rfl
theorem EncodeFixedBits.divuG (rd rs rt : RegNum) : EncodeFixedBits.Statement (.divuG rd rs rt) :=
  show rWord 31#6 rs rt rd 0#5 27#6 &&& rWord 63#6 0#5 0#5 0#5 31#5 63#6 = _ by rw [rWord_and]; simp; rfl
theorem EncodeFixedBits.ddivG (rd rs rt : RegNum) : EncodeFixedBits.Statement (.ddivG rd rs rt) :=
  show rWord 31#6 rs rt rd 0#5 30#6 &&& rWord 63#6 0#5 0#5 0#5 31#5 63#6 = _ by rw [rWord_and]; simp; rfl
theorem EncodeFixedBits.ddivuG (rd rs rt : RegNum) : EncodeFixedBits.Statement (.ddivuG rd rs rt) :=
  show rWord 31#6 rs rt rd 0#5 31#6 &&& rWord 63#6 0#5 0#5 0#5 31#5 63#6 = _ by rw [rWord_and]; simp; rfl
theorem EncodeFixedBits.modG (rd rs rt : RegNum) : EncodeFixedBits.Statement (.modG rd rs rt) :=
  show rWord 31#6 rs rt rd 0#5 34#6 &&& rWord 63#6 0#5 0#5 0#5 31#5 63#6 = _ by rw [rWord_and]; simp; rfl
theorem EncodeFixedBits.moduG (rd rs rt : RegNum) : EncodeFixedBits.Statement (.moduG rd rs rt) :=
  show rWord 31#6 rs rt rd 0#5 35#6 &&& rWord 63#6 0#5 0#5 0#5 31#5 63#6 = _ by rw [rWord_and]; simp; rfl
theorem EncodeFixedBits.dmodG (rd rs rt : RegNum) : EncodeFixedBits.Statement (.dmodG rd rs rt) :=
  show rWord 31#6 rs rt rd 0#5 38#6 &&& rWord 63#6 0#5 0#5 0#5 31#5 63#6 = _ by rw [rWord_and]; simp; rfl
theorem EncodeFixedBits.dmoduG (rd rs rt : RegNum) : EncodeFixedBits.Statement (.dmoduG rd rs rt) :=
  show rWord 31#6 rs rt rd 0#5 39#6 &&& rWord 63#6 0#5 0#5 0#5 31#5 63#6 = _ by rw [rWord_and]; simp; rfl
theorem EncodeFixedBits.j (target : BitVec 26) : EncodeFixedBits.Statement (.j target) :=
  show jWord 2#6 target &&& jWord 63#6 0#26 = _ by rw [jWord_and]; simp; rfl
theorem EncodeFixedBits.jal (target : BitVec 26) : EncodeFixedBits.Statement (.jal target) :=
  show jWord 3#6 target &&& jWord 63#6 0#26 = _ by rw [jWord_and]; simp; rfl
theorem EncodeFixedBits.jalr (rd rs : RegNum) : EncodeFixedBits.Statement (.jalr rd rs) :=
  show rWord 0#6 rs 0#5 rd 0#5 9#6 &&& rWord 63#6 0#5 31#5 0#5 31#5 63#6 = _ by rw [rWord_and]; simp; rfl
theorem EncodeFixedBits.jr (rs : RegNum) : EncodeFixedBits.Statement (.jr rs) :=
  show rWord 0#6 rs 0#5 0#5 0#5 8#6 &&& rWord 63#6 0#5 31#5 31#5 31#5 63#6 = _ by rw [rWord_and]; simp; rfl
theorem EncodeFixedBits.beq (rs rt : RegNum) (offset : BitVec 16) : EncodeFixedBits.Statement (.beq rs rt offset) :=
  show iWord 4#6 rs rt offset &&& iWord 63#6 0#5 0#5 0#16 = _ by rw [iWord_and]; simp; rfl
theorem EncodeFixedBits.bne (rs rt : RegNum) (offset : BitVec 16) : EncodeFixedBits.Statement (.bne rs rt offset) :=
  show iWord 5#6 rs rt offset &&& iWord 63#6 0#5 0#5 0#16 = _ by rw [iWord_and]; simp; rfl
theorem EncodeFixedBits.blez (rs : RegNum) (offset : BitVec 16) : EncodeFixedBits.Statement (.blez rs offset) :=
  show iWord 6#6 rs 0#5 offset &&& iWord 63#6 0#5 31#5 0#16 = _ by rw [iWord_and]; simp; rfl
theorem EncodeFixedBits.bgtz (rs : RegNum) (offset : BitVec 16) : EncodeFixedBits.Statement (.bgtz rs offset) :=
  show iWord 7#6 rs 0#5 offset &&& iWord 63#6 0#5 31#5 0#16 = _ by rw [iWord_and]; simp; rfl
theorem EncodeFixedBits.bltz (rs : RegNum) (offset : BitVec 16) : EncodeFixedBits.Statement (.bltz rs offset) :=
  show iWord 1#6 rs 0#5 offset &&& iWord 63#6 0#5 31#5 0#16 = _ by rw [iWord_and]; simp; rfl
theorem EncodeFixedBits.bgez (rs : RegNum) (offset : BitVec 16) : EncodeFixedBits.Statement (.bgez rs offset) :=
  show iWord 1#6 rs 1#5 offset &&& iWord 63#6 0#5 31#5 0#16 = _ by rw [iWord_and]; simp; rfl
theorem EncodeFixedBits.bltzal (rs : RegNum) (offset : BitVec 16) : EncodeFixedBits.Statement (.bltzal rs offset) :=
  show iWord 1#6 rs 16#5 offset &&& iWord 63#6 0#5 31#5 0#16 = _ by rw [iWord_and]; simp; rfl
theorem EncodeFixedBits.bgezal (rs : RegNum) (offset : BitVec 16) : EncodeFixedBits.Statement (.bgezal rs offset) :=
  show iWord 1#6 rs 17#5 offset &&& iWord 63#6 0#5 31#5 0#16 = _ by rw [iWord_and]; simp; rfl
theorem EncodeFixedBits.beql (rs rt : RegNum) (offset : BitVec 16) : EncodeFixedBits.Statement (.beql rs rt offset) :=
  show iWord 20#6 rs rt offset &&& iWord 63#6 0#5 0#5 0#16 = _ by rw [iWord_and]; simp; rfl
theorem EncodeFixedBits.bnel (rs rt : RegNum) (offset : BitVec 16) : EncodeFixedBits.Statement (.bnel rs rt offset) :=
  show iWord 21#6 rs rt offset &&& iWord 63#6 0#5 0#5 0#16 = _ by rw [iWord_and]; simp; rfl
theorem EncodeFixedBits.blezl (rs : RegNum) (offset : BitVec 16) : EncodeFixedBits.Statement (.blezl rs offset) :=
  show iWord 22#6 rs 0#5 offset &&& iWord 63#6 0#5 31#5 0#16 = _ by rw [iWord_and]; simp; rfl
theorem EncodeFixedBits.bgtzl (rs : RegNum) (offset : BitVec 16) : EncodeFixedBits.Statement (.bgtzl rs offset) :=
  show iWord 23#6 rs 0#5 offset &&& iWord 63#6 0#5 31#5 0#16 = _ by rw [iWord_and]; simp; rfl
theorem EncodeFixedBits.bltzl (rs : RegNum) (offset : BitVec 16) : EncodeFixedBits.Statement (.bltzl rs offset) :=
  show iWord 1#6 rs 2#5 offset &&& iWord 63#6 0#5 31#5 0#16 = _ by rw [iWord_and]; simp; rfl
theorem EncodeFixedBits.bgezl (rs : RegNum) (offset : BitVec 16) : EncodeFixedBits.Statement (.bgezl rs offset) :=
  show iWord 1#6 rs 3#5 offset &&& iWord 63#6 0#5 31#5 0#16 = _ by rw [iWord_and]; simp; rfl
theorem EncodeFixedBits.bltzall (rs : RegNum) (offset : BitVec 16) : EncodeFixedBits.Statement (.bltzall rs offset) :=
  show iWord 1#6 rs 18#5 offset &&& iWord 63#6 0#5 31#5 0#16 = _ by rw [iWord_and]; simp; rfl
theorem EncodeFixedBits.bgezall (rs : RegNum) (offset : BitVec 16) : EncodeFixedBits.Statement (.bgezall rs offset) :=
  show iWord 1#6 rs 19#5 offset &&& iWord 63#6 0#5 31#5 0#16 = _ by rw [iWord_and]; simp; rfl
theorem EncodeFixedBits.sll (rd rt : RegNum) (sa : BitVec 5) : EncodeFixedBits.Statement (.sll rd rt sa) :=
  show rWord 0#6 0#5 rt rd sa 0#6 &&& rWord 63#6 31#5 0#5 0#5 0#5 63#6 = _ by rw [rWord_and]; simp; rfl
theorem EncodeFixedBits.srl (rd rt : RegNum) (sa : BitVec 5) : EncodeFixedBits.Statement (.srl rd rt sa) :=
  show rWord 0#6 0#5 rt rd sa 2#6 &&& rWord 63#6 31#5 0#5 0#5 0#5 63#6 = _ by rw [rWord_and]; simp; rfl
theorem EncodeFixedBits.sra (rd rt : RegNum) (sa : BitVec 5) : EncodeFixedBits.Statement (.sra rd rt sa) :=
  show rWord 0#6 0#5 rt rd sa 3#6 &&& rWord 63#6 31#5 0#5 0#5 0#5 63#6 = _ by rw [rWord_and]; simp; rfl
theorem EncodeFixedBits.sllv (rd rt rs : RegNum) : EncodeFixedBits.Statement (.sllv rd rt rs) :=
  show rWord 0#6 rs rt rd 0#5 4#6 &&& rWord 63#6 0#5 0#5 0#5 31#5 63#6 = _ by rw [rWord_and]; simp; rfl
theorem EncodeFixedBits.srlv (rd rt rs : RegNum) : EncodeFixedBits.Statement (.srlv rd rt rs) :=
  show rWord 0#6 rs rt rd 0#5 6#6 &&& rWord 63#6 0#5 0#5 0#5 31#5 63#6 = _ by rw [rWord_and]; simp; rfl
theorem EncodeFixedBits.srav (rd rt rs : RegNum) : EncodeFixedBits.Statement (.srav rd rt rs) :=
  show rWord 0#6 rs rt rd 0#5 7#6 &&& rWord 63#6 0#5 0#5 0#5 31#5 63#6 = _ by rw [rWord_and]; simp; rfl
theorem EncodeFixedBits.dsll (rd rt : RegNum) (sa : BitVec 5) : EncodeFixedBits.Statement (.dsll rd rt sa) :=
  show rWord 0#6 0#5 rt rd sa 56#6 &&& rWord 63#6 31#5 0#5 0#5 0#5 63#6 = _ by rw [rWord_and]; simp; rfl
theorem EncodeFixedBits.dsrl (rd rt : RegNum) (sa : BitVec 5) : EncodeFixedBits.Statement (.dsrl rd rt sa) :=
  show rWord 0#6 0#5 rt rd sa 58#6 &&& rWord 63#6 31#5 0#5 0#5 0#5 63#6 = _ by rw [rWord_and]; simp; rfl
theorem EncodeFixedBits.dsra (rd rt : RegNum) (sa : BitVec 5) : EncodeFixedBits.Statement (.dsra rd rt sa) :=
  show rWord 0#6 0#5 rt rd sa 59#6 &&& rWord 63#6 31#5 0#5 0#5 0#5 63#6 = _ by rw [rWord_and]; simp; rfl
theorem EncodeFixedBits.dsllv (rd rt rs : RegNum) : EncodeFixedBits.Statement (.dsllv rd rt rs) :=
  show rWord 0#6 rs rt rd 0#5 20#6 &&& rWord 63#6 0#5 0#5 0#5 31#5 63#6 = _ by rw [rWord_and]; simp; rfl
theorem EncodeFixedBits.dsrlv (rd rt rs : RegNum) : EncodeFixedBits.Statement (.dsrlv rd rt rs) :=
  show rWord 0#6 rs rt rd 0#5 22#6 &&& rWord 63#6 0#5 0#5 0#5 31#5 63#6 = _ by rw [rWord_and]; simp; rfl
theorem EncodeFixedBits.dsrav (rd rt rs : RegNum) : EncodeFixedBits.Statement (.dsrav rd rt rs) :=
  show rWord 0#6 rs rt rd 0#5 23#6 &&& rWord 63#6 0#5 0#5 0#5 31#5 63#6 = _ by rw [rWord_and]; simp; rfl
theorem EncodeFixedBits.dsll32 (rd rt : RegNum) (sa : BitVec 5) : EncodeFixedBits.Statement (.dsll32 rd rt sa) :=
  show rWord 0#6 0#5 rt rd sa 60#6 &&& rWord 63#6 31#5 0#5 0#5 0#5 63#6 = _ by rw [rWord_and]; simp; rfl
theorem EncodeFixedBits.dsrl32 (rd rt : RegNum) (sa : BitVec 5) : EncodeFixedBits.Statement (.dsrl32 rd rt sa) :=
  show rWord 0#6 0#5 rt rd sa 62#6 &&& rWord 63#6 31#5 0#5 0#5 0#5 63#6 = _ by rw [rWord_and]; simp; rfl
theorem EncodeFixedBits.dsra32 (rd rt : RegNum) (sa : BitVec 5) : EncodeFixedBits.Statement (.dsra32 rd rt sa) :=
  show rWord 0#6 0#5 rt rd sa 63#6 &&& rWord 63#6 31#5 0#5 0#5 0#5 63#6 = _ by rw [rWord_and]; simp; rfl
theorem EncodeFixedBits.syscall (code : BitVec 20) : EncodeFixedBits.Statement (.syscall code) :=
  show codeWord 0#6 code 12#6 &&& codeWord 63#6 0#20 63#6 = _ by rw [codeWord_and]; simp; rfl
theorem EncodeFixedBits.break_ (code : BitVec 20) : EncodeFixedBits.Statement (.break_ code) :=
  show codeWord 0#6 code 13#6 &&& codeWord 63#6 0#20 63#6 = _ by rw [codeWord_and]; simp; rfl
theorem EncodeFixedBits.tge (rs rt : RegNum) (code : BitVec 10) : EncodeFixedBits.Statement (.tge rs rt code) :=
  show trapWord 0#6 rs rt code 48#6 &&& trapWord 63#6 0#5 0#5 0#10 63#6 = _ by rw [trapWord_and]; simp; rfl
theorem EncodeFixedBits.tgeu (rs rt : RegNum) (code : BitVec 10) : EncodeFixedBits.Statement (.tgeu rs rt code) :=
  show trapWord 0#6 rs rt code 49#6 &&& trapWord 63#6 0#5 0#5 0#10 63#6 = _ by rw [trapWord_and]; simp; rfl
theorem EncodeFixedBits.tlt (rs rt : RegNum) (code : BitVec 10) : EncodeFixedBits.Statement (.tlt rs rt code) :=
  show trapWord 0#6 rs rt code 50#6 &&& trapWord 63#6 0#5 0#5 0#10 63#6 = _ by rw [trapWord_and]; simp; rfl
theorem EncodeFixedBits.tltu (rs rt : RegNum) (code : BitVec 10) : EncodeFixedBits.Statement (.tltu rs rt code) :=
  show trapWord 0#6 rs rt code 51#6 &&& trapWord 63#6 0#5 0#5 0#10 63#6 = _ by rw [trapWord_and]; simp; rfl
theorem EncodeFixedBits.teq (rs rt : RegNum) (code : BitVec 10) : EncodeFixedBits.Statement (.teq rs rt code) :=
  show trapWord 0#6 rs rt code 52#6 &&& trapWord 63#6 0#5 0#5 0#10 63#6 = _ by rw [trapWord_and]; simp; rfl
theorem EncodeFixedBits.tne (rs rt : RegNum) (code : BitVec 10) : EncodeFixedBits.Statement (.tne rs rt code) :=
  show trapWord 0#6 rs rt code 54#6 &&& trapWord 63#6 0#5 0#5 0#10 63#6 = _ by rw [trapWord_and]; simp; rfl
theorem EncodeFixedBits.tgei (rs : RegNum) (imm : BitVec 16) : EncodeFixedBits.Statement (.tgei rs imm) :=
  show iWord 1#6 rs 8#5 imm &&& iWord 63#6 0#5 31#5 0#16 = _ by rw [iWord_and]; simp; rfl
theorem EncodeFixedBits.tgeiu (rs : RegNum) (imm : BitVec 16) : EncodeFixedBits.Statement (.tgeiu rs imm) :=
  show iWord 1#6 rs 9#5 imm &&& iWord 63#6 0#5 31#5 0#16 = _ by rw [iWord_and]; simp; rfl
theorem EncodeFixedBits.tlti (rs : RegNum) (imm : BitVec 16) : EncodeFixedBits.Statement (.tlti rs imm) :=
  show iWord 1#6 rs 10#5 imm &&& iWord 63#6 0#5 31#5 0#16 = _ by rw [iWord_and]; simp; rfl
theorem EncodeFixedBits.tltiu (rs : RegNum) (imm : BitVec 16) : EncodeFixedBits.Statement (.tltiu rs imm) :=
  show iWord 1#6 rs 11#5 imm &&& iWord 63#6 0#5 31#5 0#16 = _ by rw [iWord_and]; simp; rfl
theorem EncodeFixedBits.teqi (rs : RegNum) (imm : BitVec 16) : EncodeFixedBits.Statement (.teqi rs imm) :=
  show iWord 1#6 rs 12#5 imm &&& iWord 63#6 0#5 31#5 0#16 = _ by rw [iWord_and]; simp; rfl
theorem EncodeFixedBits.tnei (rs : RegNum) (imm : BitVec 16) : EncodeFixedBits.Statement (.tnei rs imm) :=
  show iWord 1#6 rs 14#5 imm &&& iWord 63#6 0#5 31#5 0#16 = _ by rw [iWord_and]; simp; rfl
theorem EncodeFixedBits.mfc0 (rt rd : RegNum) : EncodeFixedBits.Statement (.mfc0 rt rd) :=
  show rWord 16#6 0#5 rt rd 0#5 0#6 &&& rWord 63#6 31#5 0#5 0#5 31#5 63#6 = _ by rw [rWord_and]; simp; rfl
theorem EncodeFixedBits.mtc0 (rt rd : RegNum) : EncodeFixedBits.Statement (.mtc0 rt rd) :=
  show rWord 16#6 4#5 rt rd 0#5 0#6 &&& rWord 63#6 31#5 0#5 0#5 31#5 63#6 = _ by rw [rWord_and]; simp; rfl
theorem EncodeFixedBits.dmfc0 (rt rd : RegNum) : EncodeFixedBits.Statement (.dmfc0 rt rd) :=
  show rWord 16#6 1#5 rt rd 0#5 0#6 &&& rWord 63#6 31#5 0#5 0#5 31#5 63#6 = _ by rw [rWord_and]; simp; rfl
theorem EncodeFixedBits.dmtc0 (rt rd : RegNum) : EncodeFixedBits.Statement (.dmtc0 rt rd) :=
  show rWord 16#6 5#5 rt rd 0#5 0#6 &&& rWord 63#6 31#5 0#5 0#5 31#5 63#6 = _ by rw [rWord_and]; simp; rfl
theorem EncodeFixedBits.tlbp : EncodeFixedBits.Statement .tlbp :=
  rfl
theorem EncodeFixedBits.tlbr : EncodeFixedBits.Statement .tlbr :=
  rfl
theorem EncodeFixedBits.tlbwi : EncodeFixedBits.Statement .tlbwi :=
  rfl
theorem EncodeFixedBits.tlbwr : EncodeFixedBits.Statement .tlbwr :=
  rfl
theorem EncodeFixedBits.eret : EncodeFixedBits.Statement .eret :=
  rfl
theorem EncodeFixedBits.cache (op : BitVec 5) (offset : BitVec 16) (base : RegNum) : EncodeFixedBits.Statement (.cache op offset base) :=
  show iWord 47#6 base op offset &&& iWord 63#6 0#5 0#5 0#16 = _ by rw [iWord_and]; simp; rfl
theorem EncodeFixedBits.mfc1 (rt fs : RegNum) : EncodeFixedBits.Statement (.mfc1 rt fs) :=
  show rWord 17#6 0#5 rt fs 0#5 0#6 &&& rWord 63#6 31#5 0#5 0#5 31#5 63#6 = _ by rw [rWord_and]; simp; rfl
theorem EncodeFixedBits.mtc1 (rt fs : RegNum) : EncodeFixedBits.Statement (.mtc1 rt fs) :=
  show rWord 17#6 4#5 rt fs 0#5 0#6 &&& rWord 63#6 31#5 0#5 0#5 31#5 63#6 = _ by rw [rWord_and]; simp; rfl
theorem EncodeFixedBits.dmfc1 (rt fs : RegNum) : EncodeFixedBits.Statement (.dmfc1 rt fs) :=
  show rWord 17#6 1#5 rt fs 0#5 0#6 &&& rWord 63#6 31#5 0#5 0#5 31#5 63#6 = _ by rw [rWord_and]; simp; rfl
theorem EncodeFixedBits.dmtc1 (rt fs : RegNum) : EncodeFixedBits.Statement (.dmtc1 rt fs) :=
  show rWord 17#6 5#5 rt fs 0#5 0#6 &&& rWord 63#6 31#5 0#5 0#5 31#5 63#6 = _ by rw [rWord_and]; simp; rfl
theorem EncodeFixedBits.cfc1 (rt fs : RegNum) : EncodeFixedBits.Statement (.cfc1 rt fs) :=
  show rWord 17#6 2#5 rt fs 0#5 0#6 &&& rWord 63#6 31#5 0#5 0#5 31#5 63#6 = _ by rw [rWord_and]; simp; rfl
theorem EncodeFixedBits.ctc1 (rt fs : RegNum) : EncodeFixedBits.Statement (.ctc1 rt fs) :=
  show rWord 17#6 6#5 rt fs 0#5 0#6 &&& rWord 63#6 31#5 0#5 0#5 31#5 63#6 = _ by rw [rWord_and]; simp; rfl
theorem EncodeFixedBits.lwc1 (ft : RegNum) (offset : BitVec 16) (base : RegNum) : EncodeFixedBits.Statement (.lwc1 ft offset base) :=
  show iWord 49#6 base ft offset &&& iWord 63#6 0#5 0#5 0#16 = _ by rw [iWord_and]; simp; rfl
theorem EncodeFixedBits.ldc1 (ft : RegNum) (offset : BitVec 16) (base : RegNum) : EncodeFixedBits.Statement (.ldc1 ft offset base) :=
  show iWord 53#6 base ft offset &&& iWord 63#6 0#5 0#5 0#16 = _ by rw [iWord_and]; simp; rfl
theorem EncodeFixedBits.swc1 (ft : RegNum) (offset : BitVec 16) (base : RegNum) : EncodeFixedBits.Statement (.swc1 ft offset base) :=
  show iWord 57#6 base ft offset &&& iWord 63#6 0#5 0#5 0#16 = _ by rw [iWord_and]; simp; rfl
theorem EncodeFixedBits.sdc1 (ft : RegNum) (offset : BitVec 16) (base : RegNum) : EncodeFixedBits.Statement (.sdc1 ft offset base) :=
  show iWord 61#6 base ft offset &&& iWord 63#6 0#5 0#5 0#16 = _ by rw [iWord_and]; simp; rfl
theorem EncodeFixedBits.bc1f (offset : BitVec 16) : EncodeFixedBits.Statement (.bc1f offset) :=
  show iWord 17#6 8#5 0#5 offset &&& iWord 63#6 31#5 31#5 0#16 = _ by rw [iWord_and]; simp; rfl
theorem EncodeFixedBits.bc1t (offset : BitVec 16) : EncodeFixedBits.Statement (.bc1t offset) :=
  show iWord 17#6 8#5 1#5 offset &&& iWord 63#6 31#5 31#5 0#16 = _ by rw [iWord_and]; simp; rfl
theorem EncodeFixedBits.bc1fl (offset : BitVec 16) : EncodeFixedBits.Statement (.bc1fl offset) :=
  show iWord 17#6 8#5 2#5 offset &&& iWord 63#6 31#5 31#5 0#16 = _ by rw [iWord_and]; simp; rfl
theorem EncodeFixedBits.bc1tl (offset : BitVec 16) : EncodeFixedBits.Statement (.bc1tl offset) :=
  show iWord 17#6 8#5 3#5 offset &&& iWord 63#6 31#5 31#5 0#16 = _ by rw [iWord_and]; simp; rfl
theorem EncodeFixedBits.movS (fd fs : RegNum) : EncodeFixedBits.Statement (.movS fd fs) :=
  show rWord 17#6 16#5 0#5 fs fd 6#6 &&& rWord 63#6 31#5 31#5 0#5 0#5 63#6 = _ by rw [rWord_and]; simp; rfl
theorem EncodeFixedBits.movD (fd fs : RegNum) : EncodeFixedBits.Statement (.movD fd fs) :=
  show rWord 17#6 17#5 0#5 fs fd 6#6 &&& rWord 63#6 31#5 31#5 0#5 0#5 63#6 = _ by rw [rWord_and]; simp; rfl
theorem EncodeFixedBits.movPs (fd fs : RegNum) : EncodeFixedBits.Statement (.movPs fd fs) :=
  show rWord 17#6 11#5 0#5 fs fd 6#6 &&& rWord 63#6 31#5 31#5 0#5 0#5 63#6 = _ by rw [rWord_and]; simp; rfl
theorem EncodeFixedBits.cFS (fs ft : RegNum) : EncodeFixedBits.Statement (.cFS fs ft) :=
  show rWord 17#6 16#5 ft fs 0#5 48#6 &&& rWord 63#6 31#5 0#5 0#5 31#5 63#6 = _ by rw [rWord_and]; simp; rfl
theorem EncodeFixedBits.cFD (fs ft : RegNum) : EncodeFixedBits.Statement (.cFD fs ft) :=
  show rWord 17#6 17#5 ft fs 0#5 48#6 &&& rWord 63#6 31#5 0#5 0#5 31#5 63#6 = _ by rw [rWord_and]; simp; rfl
theorem EncodeFixedBits.cFPs (fs ft : RegNum) : EncodeFixedBits.Statement (.cFPs fs ft) :=
  show rWord 17#6 11#5 ft fs 0#5 48#6 &&& rWord 63#6 31#5 0#5 0#5 31#5 63#6 = _ by rw [rWord_and]; simp; rfl
theorem EncodeFixedBits.cUnS (fs ft : RegNum) : EncodeFixedBits.Statement (.cUnS fs ft) :=
  show rWord 17#6 16#5 ft fs 0#5 49#6 &&& rWord 63#6 31#5 0#5 0#5 31#5 63#6 = _ by rw [rWord_and]; simp; rfl
theorem EncodeFixedBits.cUnD (fs ft : RegNum) : EncodeFixedBits.Statement (.cUnD fs ft) :=
  show rWord 17#6 17#5 ft fs 0#5 49#6 &&& rWord 63#6 31#5 0#5 0#5 31#5 63#6 = _ by rw [rWord_and]; simp; rfl
theorem EncodeFixedBits.cUnPs (fs ft : RegNum) : EncodeFixedBits.Statement (.cUnPs fs ft) :=
  show rWord 17#6 11#5 ft fs 0#5 49#6 &&& rWord 63#6 31#5 0#5 0#5 31#5 63#6 = _ by rw [rWord_and]; simp; rfl
theorem EncodeFixedBits.cEqS (fs ft : RegNum) : EncodeFixedBits.Statement (.cEqS fs ft) :=
  show rWord 17#6 16#5 ft fs 0#5 50#6 &&& rWord 63#6 31#5 0#5 0#5 31#5 63#6 = _ by rw [rWord_and]; simp; rfl
theorem EncodeFixedBits.cEqD (fs ft : RegNum) : EncodeFixedBits.Statement (.cEqD fs ft) :=
  show rWord 17#6 17#5 ft fs 0#5 50#6 &&& rWord 63#6 31#5 0#5 0#5 31#5 63#6 = _ by rw [rWord_and]; simp; rfl
theorem EncodeFixedBits.cEqPs (fs ft : RegNum) : EncodeFixedBits.Statement (.cEqPs fs ft) :=
  show rWord 17#6 11#5 ft fs 0#5 50#6 &&& rWord 63#6 31#5 0#5 0#5 31#5 63#6 = _ by rw [rWord_and]; simp; rfl
theorem EncodeFixedBits.cUeqS (fs ft : RegNum) : EncodeFixedBits.Statement (.cUeqS fs ft) :=
  show rWord 17#6 16#5 ft fs 0#5 51#6 &&& rWord 63#6 31#5 0#5 0#5 31#5 63#6 = _ by rw [rWord_and]; simp; rfl
theorem EncodeFixedBits.cUeqD (fs ft : RegNum) : EncodeFixedBits.Statement (.cUeqD fs ft) :=
  show rWord 17#6 17#5 ft fs 0#5 51#6 &&& rWord 63#6 31#5 0#5 0#5 31#5 63#6 = _ by rw [rWord_and]; simp; rfl
theorem EncodeFixedBits.cUeqPs (fs ft : RegNum) : EncodeFixedBits.Statement (.cUeqPs fs ft) :=
  show rWord 17#6 11#5 ft fs 0#5 51#6 &&& rWord 63#6 31#5 0#5 0#5 31#5 63#6 = _ by rw [rWord_and]; simp; rfl
theorem EncodeFixedBits.cOltS (fs ft : RegNum) : EncodeFixedBits.Statement (.cOltS fs ft) :=
  show rWord 17#6 16#5 ft fs 0#5 52#6 &&& rWord 63#6 31#5 0#5 0#5 31#5 63#6 = _ by rw [rWord_and]; simp; rfl
theorem EncodeFixedBits.cOltD (fs ft : RegNum) : EncodeFixedBits.Statement (.cOltD fs ft) :=
  show rWord 17#6 17#5 ft fs 0#5 52#6 &&& rWord 63#6 31#5 0#5 0#5 31#5 63#6 = _ by rw [rWord_and]; simp; rfl
theorem EncodeFixedBits.cOltPs (fs ft : RegNum) : EncodeFixedBits.Statement (.cOltPs fs ft) :=
  show rWord 17#6 11#5 ft fs 0#5 52#6 &&& rWord 63#6 31#5 0#5 0#5 31#5 63#6 = _ by rw [rWord_and]; simp; rfl
theorem EncodeFixedBits.cUltS (fs ft : RegNum) : EncodeFixedBits.Statement (.cUltS fs ft) :=
  show rWord 17#6 16#5 ft fs 0#5 53#6 &&& rWord 63#6 31#5 0#5 0#5 31#5 63#6 = _ by rw [rWord_and]; simp; rfl
theorem EncodeFixedBits.cUltD (fs ft : RegNum) : EncodeFixedBits.Statement (.cUltD fs ft) :=
  show rWord 17#6 17#5 ft fs 0#5 53#6 &&& rWord 63#6 31#5 0#5 0#5 31#5 63#6 = _ by rw [rWord_and]; simp; rfl
theorem EncodeFixedBits.cUltPs (fs ft : RegNum) : EncodeFixedBits.Statement (.cUltPs fs ft) :=
  show rWord 17#6 11#5 ft fs 0#5 53#6 &&& rWord 63#6 31#5 0#5 0#5 31#5 63#6 = _ by rw [rWord_and]; simp; rfl
theorem EncodeFixedBits.cOleS (fs ft : RegNum) : EncodeFixedBits.Statement (.cOleS fs ft) :=
  show rWord 17#6 16#5 ft fs 0#5 54#6 &&& rWord 63#6 31#5 0#5 0#5 31#5 63#6 = _ by rw [rWord_and]; simp; rfl
theorem EncodeFixedBits.cOleD (fs ft : RegNum) : EncodeFixedBits.Statement (.cOleD fs ft) :=
  show rWord 17#6 17#5 ft fs 0#5 54#6 &&& rWord 63#6 31#5 0#5 0#5 31#5 63#6 = _ by rw [rWord_and]; simp; rfl
theorem EncodeFixedBits.cOlePs (fs ft : RegNum) : EncodeFixedBits.Statement (.cOlePs fs ft) :=
  show rWord 17#6 11#5 ft fs 0#5 54#6 &&& rWord 63#6 31#5 0#5 0#5 31#5 63#6 = _ by rw [rWord_and]; simp; rfl
theorem EncodeFixedBits.cUleS (fs ft : RegNum) : EncodeFixedBits.Statement (.cUleS fs ft) :=
  show rWord 17#6 16#5 ft fs 0#5 55#6 &&& rWord 63#6 31#5 0#5 0#5 31#5 63#6 = _ by rw [rWord_and]; simp; rfl
theorem EncodeFixedBits.cUleD (fs ft : RegNum) : EncodeFixedBits.Statement (.cUleD fs ft) :=
  show rWord 17#6 17#5 ft fs 0#5 55#6 &&& rWord 63#6 31#5 0#5 0#5 31#5 63#6 = _ by rw [rWord_and]; simp; rfl
theorem EncodeFixedBits.cUlePs (fs ft : RegNum) : EncodeFixedBits.Statement (.cUlePs fs ft) :=
  show rWord 17#6 11#5 ft fs 0#5 55#6 &&& rWord 63#6 31#5 0#5 0#5 31#5 63#6 = _ by rw [rWord_and]; simp; rfl
theorem EncodeFixedBits.cSfS (fs ft : RegNum) : EncodeFixedBits.Statement (.cSfS fs ft) :=
  show rWord 17#6 16#5 ft fs 0#5 56#6 &&& rWord 63#6 31#5 0#5 0#5 31#5 63#6 = _ by rw [rWord_and]; simp; rfl
theorem EncodeFixedBits.cSfD (fs ft : RegNum) : EncodeFixedBits.Statement (.cSfD fs ft) :=
  show rWord 17#6 17#5 ft fs 0#5 56#6 &&& rWord 63#6 31#5 0#5 0#5 31#5 63#6 = _ by rw [rWord_and]; simp; rfl
theorem EncodeFixedBits.cSfPs (fs ft : RegNum) : EncodeFixedBits.Statement (.cSfPs fs ft) :=
  show rWord 17#6 11#5 ft fs 0#5 56#6 &&& rWord 63#6 31#5 0#5 0#5 31#5 63#6 = _ by rw [rWord_and]; simp; rfl
theorem EncodeFixedBits.cNgleS (fs ft : RegNum) : EncodeFixedBits.Statement (.cNgleS fs ft) :=
  show rWord 17#6 16#5 ft fs 0#5 57#6 &&& rWord 63#6 31#5 0#5 0#5 31#5 63#6 = _ by rw [rWord_and]; simp; rfl
theorem EncodeFixedBits.cNgleD (fs ft : RegNum) : EncodeFixedBits.Statement (.cNgleD fs ft) :=
  show rWord 17#6 17#5 ft fs 0#5 57#6 &&& rWord 63#6 31#5 0#5 0#5 31#5 63#6 = _ by rw [rWord_and]; simp; rfl
theorem EncodeFixedBits.cNglePs (fs ft : RegNum) : EncodeFixedBits.Statement (.cNglePs fs ft) :=
  show rWord 17#6 11#5 ft fs 0#5 57#6 &&& rWord 63#6 31#5 0#5 0#5 31#5 63#6 = _ by rw [rWord_and]; simp; rfl
theorem EncodeFixedBits.cSeqS (fs ft : RegNum) : EncodeFixedBits.Statement (.cSeqS fs ft) :=
  show rWord 17#6 16#5 ft fs 0#5 58#6 &&& rWord 63#6 31#5 0#5 0#5 31#5 63#6 = _ by rw [rWord_and]; simp; rfl
theorem EncodeFixedBits.cSeqD (fs ft : RegNum) : EncodeFixedBits.Statement (.cSeqD fs ft) :=
  show rWord 17#6 17#5 ft fs 0#5 58#6 &&& rWord 63#6 31#5 0#5 0#5 31#5 63#6 = _ by rw [rWord_and]; simp; rfl
theorem EncodeFixedBits.cSeqPs (fs ft : RegNum) : EncodeFixedBits.Statement (.cSeqPs fs ft) :=
  show rWord 17#6 11#5 ft fs 0#5 58#6 &&& rWord 63#6 31#5 0#5 0#5 31#5 63#6 = _ by rw [rWord_and]; simp; rfl
theorem EncodeFixedBits.cNglS (fs ft : RegNum) : EncodeFixedBits.Statement (.cNglS fs ft) :=
  show rWord 17#6 16#5 ft fs 0#5 59#6 &&& rWord 63#6 31#5 0#5 0#5 31#5 63#6 = _ by rw [rWord_and]; simp; rfl
theorem EncodeFixedBits.cNglD (fs ft : RegNum) : EncodeFixedBits.Statement (.cNglD fs ft) :=
  show rWord 17#6 17#5 ft fs 0#5 59#6 &&& rWord 63#6 31#5 0#5 0#5 31#5 63#6 = _ by rw [rWord_and]; simp; rfl
theorem EncodeFixedBits.cNglPs (fs ft : RegNum) : EncodeFixedBits.Statement (.cNglPs fs ft) :=
  show rWord 17#6 11#5 ft fs 0#5 59#6 &&& rWord 63#6 31#5 0#5 0#5 31#5 63#6 = _ by rw [rWord_and]; simp; rfl
theorem EncodeFixedBits.cLtS (fs ft : RegNum) : EncodeFixedBits.Statement (.cLtS fs ft) :=
  show rWord 17#6 16#5 ft fs 0#5 60#6 &&& rWord 63#6 31#5 0#5 0#5 31#5 63#6 = _ by rw [rWord_and]; simp; rfl
theorem EncodeFixedBits.cLtD (fs ft : RegNum) : EncodeFixedBits.Statement (.cLtD fs ft) :=
  show rWord 17#6 17#5 ft fs 0#5 60#6 &&& rWord 63#6 31#5 0#5 0#5 31#5 63#6 = _ by rw [rWord_and]; simp; rfl
theorem EncodeFixedBits.cLtPs (fs ft : RegNum) : EncodeFixedBits.Statement (.cLtPs fs ft) :=
  show rWord 17#6 11#5 ft fs 0#5 60#6 &&& rWord 63#6 31#5 0#5 0#5 31#5 63#6 = _ by rw [rWord_and]; simp; rfl
theorem EncodeFixedBits.cNgeS (fs ft : RegNum) : EncodeFixedBits.Statement (.cNgeS fs ft) :=
  show rWord 17#6 16#5 ft fs 0#5 61#6 &&& rWord 63#6 31#5 0#5 0#5 31#5 63#6 = _ by rw [rWord_and]; simp; rfl
theorem EncodeFixedBits.cNgeD (fs ft : RegNum) : EncodeFixedBits.Statement (.cNgeD fs ft) :=
  show rWord 17#6 17#5 ft fs 0#5 61#6 &&& rWord 63#6 31#5 0#5 0#5 31#5 63#6 = _ by rw [rWord_and]; simp; rfl
theorem EncodeFixedBits.cNgePs (fs ft : RegNum) : EncodeFixedBits.Statement (.cNgePs fs ft) :=
  show rWord 17#6 11#5 ft fs 0#5 61#6 &&& rWord 63#6 31#5 0#5 0#5 31#5 63#6 = _ by rw [rWord_and]; simp; rfl
theorem EncodeFixedBits.cLeS (fs ft : RegNum) : EncodeFixedBits.Statement (.cLeS fs ft) :=
  show rWord 17#6 16#5 ft fs 0#5 62#6 &&& rWord 63#6 31#5 0#5 0#5 31#5 63#6 = _ by rw [rWord_and]; simp; rfl
theorem EncodeFixedBits.cLeD (fs ft : RegNum) : EncodeFixedBits.Statement (.cLeD fs ft) :=
  show rWord 17#6 17#5 ft fs 0#5 62#6 &&& rWord 63#6 31#5 0#5 0#5 31#5 63#6 = _ by rw [rWord_and]; simp; rfl
theorem EncodeFixedBits.cLePs (fs ft : RegNum) : EncodeFixedBits.Statement (.cLePs fs ft) :=
  show rWord 17#6 11#5 ft fs 0#5 62#6 &&& rWord 63#6 31#5 0#5 0#5 31#5 63#6 = _ by rw [rWord_and]; simp; rfl
theorem EncodeFixedBits.cNgtS (fs ft : RegNum) : EncodeFixedBits.Statement (.cNgtS fs ft) :=
  show rWord 17#6 16#5 ft fs 0#5 63#6 &&& rWord 63#6 31#5 0#5 0#5 31#5 63#6 = _ by rw [rWord_and]; simp; rfl
theorem EncodeFixedBits.cNgtD (fs ft : RegNum) : EncodeFixedBits.Statement (.cNgtD fs ft) :=
  show rWord 17#6 17#5 ft fs 0#5 63#6 &&& rWord 63#6 31#5 0#5 0#5 31#5 63#6 = _ by rw [rWord_and]; simp; rfl
theorem EncodeFixedBits.cNgtPs (fs ft : RegNum) : EncodeFixedBits.Statement (.cNgtPs fs ft) :=
  show rWord 17#6 11#5 ft fs 0#5 63#6 &&& rWord 63#6 31#5 0#5 0#5 31#5 63#6 = _ by rw [rWord_and]; simp; rfl
theorem EncodeFixedBits.addS (fd fs ft : RegNum) : EncodeFixedBits.Statement (.addS fd fs ft) :=
  show rWord 17#6 16#5 ft fs fd 0#6 &&& rWord 63#6 31#5 0#5 0#5 0#5 63#6 = _ by rw [rWord_and]; simp; rfl
theorem EncodeFixedBits.addD (fd fs ft : RegNum) : EncodeFixedBits.Statement (.addD fd fs ft) :=
  show rWord 17#6 17#5 ft fs fd 0#6 &&& rWord 63#6 31#5 0#5 0#5 0#5 63#6 = _ by rw [rWord_and]; simp; rfl
theorem EncodeFixedBits.addPs (fd fs ft : RegNum) : EncodeFixedBits.Statement (.addPs fd fs ft) :=
  show rWord 17#6 11#5 ft fs fd 0#6 &&& rWord 63#6 31#5 0#5 0#5 0#5 63#6 = _ by rw [rWord_and]; simp; rfl
theorem EncodeFixedBits.subS (fd fs ft : RegNum) : EncodeFixedBits.Statement (.subS fd fs ft) :=
  show rWord 17#6 16#5 ft fs fd 1#6 &&& rWord 63#6 31#5 0#5 0#5 0#5 63#6 = _ by rw [rWord_and]; simp; rfl
theorem EncodeFixedBits.subD (fd fs ft : RegNum) : EncodeFixedBits.Statement (.subD fd fs ft) :=
  show rWord 17#6 17#5 ft fs fd 1#6 &&& rWord 63#6 31#5 0#5 0#5 0#5 63#6 = _ by rw [rWord_and]; simp; rfl
theorem EncodeFixedBits.subPs (fd fs ft : RegNum) : EncodeFixedBits.Statement (.subPs fd fs ft) :=
  show rWord 17#6 11#5 ft fs fd 1#6 &&& rWord 63#6 31#5 0#5 0#5 0#5 63#6 = _ by rw [rWord_and]; simp; rfl
theorem EncodeFixedBits.mulS (fd fs ft : RegNum) : EncodeFixedBits.Statement (.mulS fd fs ft) :=
  show rWord 17#6 16#5 ft fs fd 2#6 &&& rWord 63#6 31#5 0#5 0#5 0#5 63#6 = _ by rw [rWord_and]; simp; rfl
theorem EncodeFixedBits.mulD (fd fs ft : RegNum) : EncodeFixedBits.Statement (.mulD fd fs ft) :=
  show rWord 17#6 17#5 ft fs fd 2#6 &&& rWord 63#6 31#5 0#5 0#5 0#5 63#6 = _ by rw [rWord_and]; simp; rfl
theorem EncodeFixedBits.mulPs (fd fs ft : RegNum) : EncodeFixedBits.Statement (.mulPs fd fs ft) :=
  show rWord 17#6 11#5 ft fs fd 2#6 &&& rWord 63#6 31#5 0#5 0#5 0#5 63#6 = _ by rw [rWord_and]; simp; rfl
theorem EncodeFixedBits.divS (fd fs ft : RegNum) : EncodeFixedBits.Statement (.divS fd fs ft) :=
  show rWord 17#6 16#5 ft fs fd 3#6 &&& rWord 63#6 31#5 0#5 0#5 0#5 63#6 = _ by rw [rWord_and]; simp; rfl
theorem EncodeFixedBits.divD (fd fs ft : RegNum) : EncodeFixedBits.Statement (.divD fd fs ft) :=
  show rWord 17#6 17#5 ft fs fd 3#6 &&& rWord 63#6 31#5 0#5 0#5 0#5 63#6 = _ by rw [rWord_and]; simp; rfl
theorem EncodeFixedBits.sqrtS (fd fs : RegNum) : EncodeFixedBits.Statement (.sqrtS fd fs) :=
  show rWord 17#6 16#5 0#5 fs fd 4#6 &&& rWord 63#6 31#5 31#5 0#5 0#5 63#6 = _ by rw [rWord_and]; simp; rfl
theorem EncodeFixedBits.sqrtD (fd fs : RegNum) : EncodeFixedBits.Statement (.sqrtD fd fs) :=
  show rWord 17#6 17#5 0#5 fs fd 4#6 &&& rWord 63#6 31#5 31#5 0#5 0#5 63#6 = _ by rw [rWord_and]; simp; rfl
theorem EncodeFixedBits.absS (fd fs : RegNum) : EncodeFixedBits.Statement (.absS fd fs) :=
  show rWord 17#6 16#5 0#5 fs fd 5#6 &&& rWord 63#6 31#5 31#5 0#5 0#5 63#6 = _ by rw [rWord_and]; simp; rfl
theorem EncodeFixedBits.absD (fd fs : RegNum) : EncodeFixedBits.Statement (.absD fd fs) :=
  show rWord 17#6 17#5 0#5 fs fd 5#6 &&& rWord 63#6 31#5 31#5 0#5 0#5 63#6 = _ by rw [rWord_and]; simp; rfl
theorem EncodeFixedBits.absPs (fd fs : RegNum) : EncodeFixedBits.Statement (.absPs fd fs) :=
  show rWord 17#6 11#5 0#5 fs fd 5#6 &&& rWord 63#6 31#5 31#5 0#5 0#5 63#6 = _ by rw [rWord_and]; simp; rfl
theorem EncodeFixedBits.negS (fd fs : RegNum) : EncodeFixedBits.Statement (.negS fd fs) :=
  show rWord 17#6 16#5 0#5 fs fd 7#6 &&& rWord 63#6 31#5 31#5 0#5 0#5 63#6 = _ by rw [rWord_and]; simp; rfl
theorem EncodeFixedBits.negD (fd fs : RegNum) : EncodeFixedBits.Statement (.negD fd fs) :=
  show rWord 17#6 17#5 0#5 fs fd 7#6 &&& rWord 63#6 31#5 31#5 0#5 0#5 63#6 = _ by rw [rWord_and]; simp; rfl
theorem EncodeFixedBits.negPs (fd fs : RegNum) : EncodeFixedBits.Statement (.negPs fd fs) :=
  show rWord 17#6 11#5 0#5 fs fd 7#6 &&& rWord 63#6 31#5 31#5 0#5 0#5 63#6 = _ by rw [rWord_and]; simp; rfl
theorem EncodeFixedBits.roundLS (fd fs : RegNum) : EncodeFixedBits.Statement (.roundLS fd fs) :=
  show rWord 17#6 16#5 0#5 fs fd 8#6 &&& rWord 63#6 31#5 31#5 0#5 0#5 63#6 = _ by rw [rWord_and]; simp; rfl
theorem EncodeFixedBits.roundLD (fd fs : RegNum) : EncodeFixedBits.Statement (.roundLD fd fs) :=
  show rWord 17#6 17#5 0#5 fs fd 8#6 &&& rWord 63#6 31#5 31#5 0#5 0#5 63#6 = _ by rw [rWord_and]; simp; rfl
theorem EncodeFixedBits.truncLS (fd fs : RegNum) : EncodeFixedBits.Statement (.truncLS fd fs) :=
  show rWord 17#6 16#5 0#5 fs fd 9#6 &&& rWord 63#6 31#5 31#5 0#5 0#5 63#6 = _ by rw [rWord_and]; simp; rfl
theorem EncodeFixedBits.truncLD (fd fs : RegNum) : EncodeFixedBits.Statement (.truncLD fd fs) :=
  show rWord 17#6 17#5 0#5 fs fd 9#6 &&& rWord 63#6 31#5 31#5 0#5 0#5 63#6 = _ by rw [rWord_and]; simp; rfl
theorem EncodeFixedBits.ceilLS (fd fs : RegNum) : EncodeFixedBits.Statement (.ceilLS fd fs) :=
  show rWord 17#6 16#5 0#5 fs fd 10#6 &&& rWord 63#6 31#5 31#5 0#5 0#5 63#6 = _ by rw [rWord_and]; simp; rfl
theorem EncodeFixedBits.ceilLD (fd fs : RegNum) : EncodeFixedBits.Statement (.ceilLD fd fs) :=
  show rWord 17#6 17#5 0#5 fs fd 10#6 &&& rWord 63#6 31#5 31#5 0#5 0#5 63#6 = _ by rw [rWord_and]; simp; rfl
theorem EncodeFixedBits.floorLS (fd fs : RegNum) : EncodeFixedBits.Statement (.floorLS fd fs) :=
  show rWord 17#6 16#5 0#5 fs fd 11#6 &&& rWord 63#6 31#5 31#5 0#5 0#5 63#6 = _ by rw [rWord_and]; simp; rfl
theorem EncodeFixedBits.floorLD (fd fs : RegNum) : EncodeFixedBits.Statement (.floorLD fd fs) :=
  show rWord 17#6 17#5 0#5 fs fd 11#6 &&& rWord 63#6 31#5 31#5 0#5 0#5 63#6 = _ by rw [rWord_and]; simp; rfl
theorem EncodeFixedBits.roundWS (fd fs : RegNum) : EncodeFixedBits.Statement (.roundWS fd fs) :=
  show rWord 17#6 16#5 0#5 fs fd 12#6 &&& rWord 63#6 31#5 31#5 0#5 0#5 63#6 = _ by rw [rWord_and]; simp; rfl
theorem EncodeFixedBits.roundWD (fd fs : RegNum) : EncodeFixedBits.Statement (.roundWD fd fs) :=
  show rWord 17#6 17#5 0#5 fs fd 12#6 &&& rWord 63#6 31#5 31#5 0#5 0#5 63#6 = _ by rw [rWord_and]; simp; rfl
theorem EncodeFixedBits.truncWS (fd fs : RegNum) : EncodeFixedBits.Statement (.truncWS fd fs) :=
  show rWord 17#6 16#5 0#5 fs fd 13#6 &&& rWord 63#6 31#5 31#5 0#5 0#5 63#6 = _ by rw [rWord_and]; simp; rfl
theorem EncodeFixedBits.truncWD (fd fs : RegNum) : EncodeFixedBits.Statement (.truncWD fd fs) :=
  show rWord 17#6 17#5 0#5 fs fd 13#6 &&& rWord 63#6 31#5 31#5 0#5 0#5 63#6 = _ by rw [rWord_and]; simp; rfl
theorem EncodeFixedBits.ceilWS (fd fs : RegNum) : EncodeFixedBits.Statement (.ceilWS fd fs) :=
  show rWord 17#6 16#5 0#5 fs fd 14#6 &&& rWord 63#6 31#5 31#5 0#5 0#5 63#6 = _ by rw [rWord_and]; simp; rfl
theorem EncodeFixedBits.ceilWD (fd fs : RegNum) : EncodeFixedBits.Statement (.ceilWD fd fs) :=
  show rWord 17#6 17#5 0#5 fs fd 14#6 &&& rWord 63#6 31#5 31#5 0#5 0#5 63#6 = _ by rw [rWord_and]; simp; rfl
theorem EncodeFixedBits.floorWS (fd fs : RegNum) : EncodeFixedBits.Statement (.floorWS fd fs) :=
  show rWord 17#6 16#5 0#5 fs fd 15#6 &&& rWord 63#6 31#5 31#5 0#5 0#5 63#6 = _ by rw [rWord_and]; simp; rfl
theorem EncodeFixedBits.floorWD (fd fs : RegNum) : EncodeFixedBits.Statement (.floorWD fd fs) :=
  show rWord 17#6 17#5 0#5 fs fd 15#6 &&& rWord 63#6 31#5 31#5 0#5 0#5 63#6 = _ by rw [rWord_and]; simp; rfl
theorem EncodeFixedBits.cvtSD (fd fs : RegNum) : EncodeFixedBits.Statement (.cvtSD fd fs) :=
  show rWord 17#6 17#5 0#5 fs fd 32#6 &&& rWord 63#6 31#5 31#5 0#5 0#5 63#6 = _ by rw [rWord_and]; simp; rfl
theorem EncodeFixedBits.cvtSW (fd fs : RegNum) : EncodeFixedBits.Statement (.cvtSW fd fs) :=
  show rWord 17#6 20#5 0#5 fs fd 32#6 &&& rWord 63#6 31#5 31#5 0#5 0#5 63#6 = _ by rw [rWord_and]; simp; rfl
theorem EncodeFixedBits.cvtSL (fd fs : RegNum) : EncodeFixedBits.Statement (.cvtSL fd fs) :=
  show rWord 17#6 21#5 0#5 fs fd 32#6 &&& rWord 63#6 31#5 31#5 0#5 0#5 63#6 = _ by rw [rWord_and]; simp; rfl
theorem EncodeFixedBits.cvtDS (fd fs : RegNum) : EncodeFixedBits.Statement (.cvtDS fd fs) :=
  show rWord 17#6 16#5 0#5 fs fd 33#6 &&& rWord 63#6 31#5 31#5 0#5 0#5 63#6 = _ by rw [rWord_and]; simp; rfl
theorem EncodeFixedBits.cvtDW (fd fs : RegNum) : EncodeFixedBits.Statement (.cvtDW fd fs) :=
  show rWord 17#6 20#5 0#5 fs fd 33#6 &&& rWord 63#6 31#5 31#5 0#5 0#5 63#6 = _ by rw [rWord_and]; simp; rfl
theorem EncodeFixedBits.cvtDL (fd fs : RegNum) : EncodeFixedBits.Statement (.cvtDL fd fs) :=
  show rWord 17#6 21#5 0#5 fs fd 33#6 &&& rWord 63#6 31#5 31#5 0#5 0#5 63#6 = _ by rw [rWord_and]; simp; rfl
theorem EncodeFixedBits.cvtWS (fd fs : RegNum) : EncodeFixedBits.Statement (.cvtWS fd fs) :=
  show rWord 17#6 16#5 0#5 fs fd 36#6 &&& rWord 63#6 31#5 31#5 0#5 0#5 63#6 = _ by rw [rWord_and]; simp; rfl
theorem EncodeFixedBits.cvtWD (fd fs : RegNum) : EncodeFixedBits.Statement (.cvtWD fd fs) :=
  show rWord 17#6 17#5 0#5 fs fd 36#6 &&& rWord 63#6 31#5 31#5 0#5 0#5 63#6 = _ by rw [rWord_and]; simp; rfl
theorem EncodeFixedBits.cvtLS (fd fs : RegNum) : EncodeFixedBits.Statement (.cvtLS fd fs) :=
  show rWord 17#6 16#5 0#5 fs fd 37#6 &&& rWord 63#6 31#5 31#5 0#5 0#5 63#6 = _ by rw [rWord_and]; simp; rfl
theorem EncodeFixedBits.cvtLD (fd fs : RegNum) : EncodeFixedBits.Statement (.cvtLD fd fs) :=
  show rWord 17#6 17#5 0#5 fs fd 37#6 &&& rWord 63#6 31#5 31#5 0#5 0#5 63#6 = _ by rw [rWord_and]; simp; rfl
theorem EncodeFixedBits.maddS (fd fs ft : RegNum) : EncodeFixedBits.Statement (.maddS fd fs ft) :=
  show rWord 17#6 16#5 ft fs fd 24#6 &&& rWord 63#6 31#5 0#5 0#5 0#5 63#6 = _ by rw [rWord_and]; simp; rfl
theorem EncodeFixedBits.maddD (fd fs ft : RegNum) : EncodeFixedBits.Statement (.maddD fd fs ft) :=
  show rWord 17#6 17#5 ft fs fd 24#6 &&& rWord 63#6 31#5 0#5 0#5 0#5 63#6 = _ by rw [rWord_and]; simp; rfl
theorem EncodeFixedBits.maddPs (fd fs ft : RegNum) : EncodeFixedBits.Statement (.maddPs fd fs ft) :=
  show rWord 17#6 11#5 ft fs fd 24#6 &&& rWord 63#6 31#5 0#5 0#5 0#5 63#6 = _ by rw [rWord_and]; simp; rfl
theorem EncodeFixedBits.msubS (fd fs ft : RegNum) : EncodeFixedBits.Statement (.msubS fd fs ft) :=
  show rWord 17#6 16#5 ft fs fd 25#6 &&& rWord 63#6 31#5 0#5 0#5 0#5 63#6 = _ by rw [rWord_and]; simp; rfl
theorem EncodeFixedBits.msubD (fd fs ft : RegNum) : EncodeFixedBits.Statement (.msubD fd fs ft) :=
  show rWord 17#6 17#5 ft fs fd 25#6 &&& rWord 63#6 31#5 0#5 0#5 0#5 63#6 = _ by rw [rWord_and]; simp; rfl
theorem EncodeFixedBits.msubPs (fd fs ft : RegNum) : EncodeFixedBits.Statement (.msubPs fd fs ft) :=
  show rWord 17#6 11#5 ft fs fd 25#6 &&& rWord 63#6 31#5 0#5 0#5 0#5 63#6 = _ by rw [rWord_and]; simp; rfl
theorem EncodeFixedBits.nmaddS (fd fs ft : RegNum) : EncodeFixedBits.Statement (.nmaddS fd fs ft) :=
  show rWord 17#6 16#5 ft fs fd 26#6 &&& rWord 63#6 31#5 0#5 0#5 0#5 63#6 = _ by rw [rWord_and]; simp; rfl
theorem EncodeFixedBits.nmaddD (fd fs ft : RegNum) : EncodeFixedBits.Statement (.nmaddD fd fs ft) :=
  show rWord 17#6 17#5 ft fs fd 26#6 &&& rWord 63#6 31#5 0#5 0#5 0#5 63#6 = _ by rw [rWord_and]; simp; rfl
theorem EncodeFixedBits.nmaddPs (fd fs ft : RegNum) : EncodeFixedBits.Statement (.nmaddPs fd fs ft) :=
  show rWord 17#6 11#5 ft fs fd 26#6 &&& rWord 63#6 31#5 0#5 0#5 0#5 63#6 = _ by rw [rWord_and]; simp; rfl
theorem EncodeFixedBits.nmsubS (fd fs ft : RegNum) : EncodeFixedBits.Statement (.nmsubS fd fs ft) :=
  show rWord 17#6 16#5 ft fs fd 27#6 &&& rWord 63#6 31#5 0#5 0#5 0#5 63#6 = _ by rw [rWord_and]; simp; rfl
theorem EncodeFixedBits.nmsubD (fd fs ft : RegNum) : EncodeFixedBits.Statement (.nmsubD fd fs ft) :=
  show rWord 17#6 17#5 ft fs fd 27#6 &&& rWord 63#6 31#5 0#5 0#5 0#5 63#6 = _ by rw [rWord_and]; simp; rfl
theorem EncodeFixedBits.nmsubPs (fd fs ft : RegNum) : EncodeFixedBits.Statement (.nmsubPs fd fs ft) :=
  show rWord 17#6 11#5 ft fs fd 27#6 &&& rWord 63#6 31#5 0#5 0#5 0#5 63#6 = _ by rw [rWord_and]; simp; rfl

end Laws
end Sys2Proof
end

