-- ==== Sys2Proof/Tests/Slice0.lean ====
section
/-! SUPPORT. Tests of the model: every word of the opcode table decoded, the checks of WellFormed, one-step results taken from
the vectors of spec/95_test_vectors.md (V-…), and for every statement of Certificates/Slice0/Obligations.lean that has
hypotheses a concrete state and operands that meet them. -/

namespace Sys2Proof
namespace Tests

open Machine

/-! ## Decoding: every row of the opcode table, its fixed bits from the table's encoding, every field a value of its own -/

theorem test_decode_loads_and_stores :
  decode 0b100000_11101_10010_1000000100100101#32 = .instr (.lb 18 0x8125 29) ∧
  decode 0b100100_11101_10010_1000000100100101#32 = .instr (.lbu 18 0x8125 29) ∧
  decode 0b100001_11101_10010_1000000100100101#32 = .instr (.lh 18 0x8125 29) ∧
  decode 0b100101_11101_10010_1000000100100101#32 = .instr (.lhu 18 0x8125 29) ∧
  decode 0b100011_11101_10010_1000000100100101#32 = .instr (.lw 18 0x8125 29) ∧
  decode 0b100111_11101_10010_1000000100100101#32 = .instr (.lwu 18 0x8125 29) ∧
  decode 0b110111_11101_10010_1000000100100101#32 = .instr (.ld 18 0x8125 29) ∧
  decode 0b100010_11101_10010_1000000100100101#32 = .instr (.lwl 18 0x8125 29) ∧
  decode 0b100110_11101_10010_1000000100100101#32 = .instr (.lwr 18 0x8125 29) ∧
  decode 0b011010_11101_10010_1000000100100101#32 = .instr (.ldl 18 0x8125 29) ∧
  decode 0b011011_11101_10010_1000000100100101#32 = .instr (.ldr 18 0x8125 29) ∧
  decode 0b110000_11101_10010_1000000100100101#32 = .instr (.ll 18 0x8125 29) ∧
  decode 0b110100_11101_10010_1000000100100101#32 = .instr (.lld 18 0x8125 29) ∧
  decode 0b101000_11101_10010_1000000100100101#32 = .instr (.sb 18 0x8125 29) ∧
  decode 0b101001_11101_10010_1000000100100101#32 = .instr (.sh 18 0x8125 29) ∧
  decode 0b101011_11101_10010_1000000100100101#32 = .instr (.sw 18 0x8125 29) ∧
  decode 0b111111_11101_10010_1000000100100101#32 = .instr (.sd 18 0x8125 29) ∧
  decode 0b101010_11101_10010_1000000100100101#32 = .instr (.swl 18 0x8125 29) ∧
  decode 0b101110_11101_10010_1000000100100101#32 = .instr (.swr 18 0x8125 29) ∧
  decode 0b101100_11101_10010_1000000100100101#32 = .instr (.sdl 18 0x8125 29) ∧
  decode 0b101101_11101_10010_1000000100100101#32 = .instr (.sdr 18 0x8125 29) ∧
  decode 0b111000_11101_10010_1000000100100101#32 = .instr (.sc 18 0x8125 29) ∧
  decode 0b111100_11101_10010_1000000100100101#32 = .instr (.scd 18 0x8125 29) ∧
  decode 0b000000_00000_00000_00000_00000_001111#32 = .instr .sync :=
  by and_intros <;> rfl

theorem test_decode_integer :
  decode 0b001000_01001_10010_1000000100100101#32 = .instr (.addi 18 9 0x8125) ∧
  decode 0b011000_01001_10010_1000000100100101#32 = .instr (.daddi 18 9 0x8125) ∧
  decode 0b001001_01001_10010_1000000100100101#32 = .instr (.addiu 18 9 0x8125) ∧
  decode 0b011001_01001_10010_1000000100100101#32 = .instr (.daddiu 18 9 0x8125) ∧
  decode 0b001010_01001_10010_1000000100100101#32 = .instr (.slti 18 9 0x8125) ∧
  decode 0b001011_01001_10010_1000000100100101#32 = .instr (.sltiu 18 9 0x8125) ∧
  decode 0b001100_01001_10010_1000000100100101#32 = .instr (.andi 18 9 0x8125) ∧
  decode 0b001101_01001_10010_1000000100100101#32 = .instr (.ori 18 9 0x8125) ∧
  decode 0b001110_01001_10010_1000000100100101#32 = .instr (.xori 18 9 0x8125) ∧
  decode 0b001111_00000_10010_1000000100100101#32 = .instr (.lui 18 0x8125) ∧
  decode 0b000000_01001_10010_00111_00000_100000#32 = .instr (.add 7 9 18) ∧
  decode 0b000000_01001_10010_00111_00000_101100#32 = .instr (.dadd 7 9 18) ∧
  decode 0b000000_01001_10010_00111_00000_100001#32 = .instr (.addu 7 9 18) ∧
  decode 0b000000_01001_10010_00111_00000_101101#32 = .instr (.daddu 7 9 18) ∧
  decode 0b000000_01001_10010_00111_00000_100010#32 = .instr (.sub 7 9 18) ∧
  decode 0b000000_01001_10010_00111_00000_101110#32 = .instr (.dsub 7 9 18) ∧
  decode 0b000000_01001_10010_00111_00000_100011#32 = .instr (.subu 7 9 18) ∧
  decode 0b000000_01001_10010_00111_00000_101111#32 = .instr (.dsubu 7 9 18) ∧
  decode 0b000000_01001_10010_00111_00000_101010#32 = .instr (.slt 7 9 18) ∧
  decode 0b000000_01001_10010_00111_00000_101011#32 = .instr (.sltu 7 9 18) ∧
  decode 0b000000_01001_10010_00111_00000_100100#32 = .instr (.and 7 9 18) ∧
  decode 0b000000_01001_10010_00111_00000_100101#32 = .instr (.or 7 9 18) ∧
  decode 0b000000_01001_10010_00111_00000_100110#32 = .instr (.xor 7 9 18) ∧
  decode 0b000000_01001_10010_00111_00000_100111#32 = .instr (.nor 7 9 18) :=
  by and_intros <;> rfl

theorem test_decode_muldiv :
  decode 0b000000_01001_10010_00000_00000_011000#32 = .instr (.mult 9 18) ∧
  decode 0b000000_01001_10010_00000_00000_011100#32 = .instr (.dmult 9 18) ∧
  decode 0b000000_01001_10010_00000_00000_011001#32 = .instr (.multu 9 18) ∧
  decode 0b000000_01001_10010_00000_00000_011101#32 = .instr (.dmultu 9 18) ∧
  decode 0b000000_01001_10010_00000_00000_011010#32 = .instr (.div 9 18) ∧
  decode 0b000000_01001_10010_00000_00000_011110#32 = .instr (.ddiv 9 18) ∧
  decode 0b000000_01001_10010_00000_00000_011011#32 = .instr (.divu 9 18) ∧
  decode 0b000000_01001_10010_00000_00000_011111#32 = .instr (.ddivu 9 18) ∧
  decode 0b000000_00000_00000_00111_00000_010000#32 = .instr (.mfhi 7) ∧
  decode 0b000000_01001_00000_00000_00000_010001#32 = .instr (.mthi 9) ∧
  decode 0b000000_00000_00000_00111_00000_010010#32 = .instr (.mflo 7) ∧
  decode 0b000000_01001_00000_00000_00000_010011#32 = .instr (.mtlo 9) ∧
  decode 0b011111_01001_10010_00111_00000_011000#32 = .instr (.multG 7 9 18) ∧
  decode 0b011111_01001_10010_00111_00000_011001#32 = .instr (.multuG 7 9 18) ∧
  decode 0b011111_01001_10010_00111_00000_011100#32 = .instr (.dmultG 7 9 18) ∧
  decode 0b011111_01001_10010_00111_00000_011101#32 = .instr (.dmultuG 7 9 18) ∧
  decode 0b011111_01001_10010_00111_00000_011010#32 = .instr (.divG 7 9 18) ∧
  decode 0b011111_01001_10010_00111_00000_011011#32 = .instr (.divuG 7 9 18) ∧
  decode 0b011111_01001_10010_00111_00000_011110#32 = .instr (.ddivG 7 9 18) ∧
  decode 0b011111_01001_10010_00111_00000_011111#32 = .instr (.ddivuG 7 9 18) ∧
  decode 0b011111_01001_10010_00111_00000_100010#32 = .instr (.modG 7 9 18) ∧
  decode 0b011111_01001_10010_00111_00000_100011#32 = .instr (.moduG 7 9 18) ∧
  decode 0b011111_01001_10010_00111_00000_100110#32 = .instr (.dmodG 7 9 18) ∧
  decode 0b011111_01001_10010_00111_00000_100111#32 = .instr (.dmoduG 7 9 18) :=
  by and_intros <;> rfl

theorem test_decode_branches :
  decode 0b000010_10000100100011010001010111#32 = .instr (.j 0x2123457) ∧
  decode 0b000011_10000100100011010001010111#32 = .instr (.jal 0x2123457) ∧
  decode 0b000000_01001_00000_00111_00000_001001#32 = .instr (.jalr 7 9) ∧
  decode 0b000000_01001_00000_00000_00000_001000#32 = .instr (.jr 9) ∧
  decode 0b000100_01001_10010_1000000100100101#32 = .instr (.beq 9 18 0x8125) ∧
  decode 0b000101_01001_10010_1000000100100101#32 = .instr (.bne 9 18 0x8125) ∧
  decode 0b000110_01001_00000_1000000100100101#32 = .instr (.blez 9 0x8125) ∧
  decode 0b000111_01001_00000_1000000100100101#32 = .instr (.bgtz 9 0x8125) ∧
  decode 0b000001_01001_00000_1000000100100101#32 = .instr (.bltz 9 0x8125) ∧
  decode 0b000001_01001_00001_1000000100100101#32 = .instr (.bgez 9 0x8125) ∧
  decode 0b000001_01001_10000_1000000100100101#32 = .instr (.bltzal 9 0x8125) ∧
  decode 0b000001_01001_10001_1000000100100101#32 = .instr (.bgezal 9 0x8125) ∧
  decode 0b010100_01001_10010_1000000100100101#32 = .instr (.beql 9 18 0x8125) ∧
  decode 0b010101_01001_10010_1000000100100101#32 = .instr (.bnel 9 18 0x8125) ∧
  decode 0b010110_01001_00000_1000000100100101#32 = .instr (.blezl 9 0x8125) ∧
  decode 0b010111_01001_00000_1000000100100101#32 = .instr (.bgtzl 9 0x8125) ∧
  decode 0b000001_01001_00010_1000000100100101#32 = .instr (.bltzl 9 0x8125) ∧
  decode 0b000001_01001_00011_1000000100100101#32 = .instr (.bgezl 9 0x8125) ∧
  decode 0b000001_01001_10010_1000000100100101#32 = .instr (.bltzall 9 0x8125) ∧
  decode 0b000001_01001_10011_1000000100100101#32 = .instr (.bgezall 9 0x8125) :=
  by and_intros <;> rfl

theorem test_decode_shifts :
  decode 0b000000_00000_10010_00111_10101_000000#32 = .instr (.sll 7 18 21) ∧
  decode 0b000000_00000_10010_00111_10101_000010#32 = .instr (.srl 7 18 21) ∧
  decode 0b000000_00000_10010_00111_10101_000011#32 = .instr (.sra 7 18 21) ∧
  decode 0b000000_01001_10010_00111_00000_000100#32 = .instr (.sllv 7 18 9) ∧
  decode 0b000000_01001_10010_00111_00000_000110#32 = .instr (.srlv 7 18 9) ∧
  decode 0b000000_01001_10010_00111_00000_000111#32 = .instr (.srav 7 18 9) ∧
  decode 0b000000_00000_10010_00111_10101_111000#32 = .instr (.dsll 7 18 21) ∧
  decode 0b000000_00000_10010_00111_10101_111010#32 = .instr (.dsrl 7 18 21) ∧
  decode 0b000000_00000_10010_00111_10101_111011#32 = .instr (.dsra 7 18 21) ∧
  decode 0b000000_01001_10010_00111_00000_010100#32 = .instr (.dsllv 7 18 9) ∧
  decode 0b000000_01001_10010_00111_00000_010110#32 = .instr (.dsrlv 7 18 9) ∧
  decode 0b000000_01001_10010_00111_00000_010111#32 = .instr (.dsrav 7 18 9) ∧
  decode 0b000000_00000_10010_00111_10101_111100#32 = .instr (.dsll32 7 18 21) ∧
  decode 0b000000_00000_10010_00111_10101_111110#32 = .instr (.dsrl32 7 18 21) ∧
  decode 0b000000_00000_10010_00111_10101_111111#32 = .instr (.dsra32 7 18 21) :=
  by and_intros <;> rfl

theorem test_decode_traps :
  decode 0b000000_10010011001000011101_001100#32 = .instr (.syscall 0x9321D) ∧
  decode 0b000000_10010011001000011101_001101#32 = .instr (.break_ 0x9321D) ∧
  decode 0b000000_01001_10010_1100100001_110000#32 = .instr (.tge 9 18 0x321) ∧
  decode 0b000000_01001_10010_1100100001_110001#32 = .instr (.tgeu 9 18 0x321) ∧
  decode 0b000000_01001_10010_1100100001_110010#32 = .instr (.tlt 9 18 0x321) ∧
  decode 0b000000_01001_10010_1100100001_110011#32 = .instr (.tltu 9 18 0x321) ∧
  decode 0b000000_01001_10010_1100100001_110100#32 = .instr (.teq 9 18 0x321) ∧
  decode 0b000000_01001_10010_1100100001_110110#32 = .instr (.tne 9 18 0x321) ∧
  decode 0b000001_01001_01000_1000000100100101#32 = .instr (.tgei 9 0x8125) ∧
  decode 0b000001_01001_01001_1000000100100101#32 = .instr (.tgeiu 9 0x8125) ∧
  decode 0b000001_01001_01010_1000000100100101#32 = .instr (.tlti 9 0x8125) ∧
  decode 0b000001_01001_01011_1000000100100101#32 = .instr (.tltiu 9 0x8125) ∧
  decode 0b000001_01001_01100_1000000100100101#32 = .instr (.teqi 9 0x8125) ∧
  decode 0b000001_01001_01110_1000000100100101#32 = .instr (.tnei 9 0x8125) :=
  by and_intros <;> rfl

theorem test_decode_cp0 :
  decode 0b010000_00000_10010_00111_00000000000#32 = .instr (.mfc0 18 7) ∧
  decode 0b010000_00100_10010_00111_00000000000#32 = .instr (.mtc0 18 7) ∧
  decode 0b010000_00001_10010_00111_00000000000#32 = .instr (.dmfc0 18 7) ∧
  decode 0b010000_00101_10010_00111_00000000000#32 = .instr (.dmtc0 18 7) ∧
  decode 0b010000_1_0000000000000000000_001000#32 = .instr .tlbp ∧
  decode 0b010000_1_0000000000000000000_000001#32 = .instr .tlbr ∧
  decode 0b010000_1_0000000000000000000_000010#32 = .instr .tlbwi ∧
  decode 0b010000_1_0000000000000000000_000110#32 = .instr .tlbwr ∧
  decode 0b010000_1_0000000000000000000_011000#32 = .instr .eret ∧
  decode 0b101111_11101_10101_1000000100100101#32 = .instr (.cache 21 0x8125 29) :=
  by and_intros <;> rfl

theorem test_decode_fpu_moves_and_compares_1 :
  decode 0b010001_00000_10010_01100_00000000000#32 = .instr (.mfc1 18 12) ∧
  decode 0b010001_00100_10010_01100_00000000000#32 = .instr (.mtc1 18 12) ∧
  decode 0b010001_00001_10010_01100_00000000000#32 = .instr (.dmfc1 18 12) ∧
  decode 0b010001_00101_10010_01100_00000000000#32 = .instr (.dmtc1 18 12) ∧
  decode 0b010001_00010_10010_01100_00000000000#32 = .instr (.cfc1 18 12) ∧
  decode 0b010001_00110_10010_01100_00000000000#32 = .instr (.ctc1 18 12) ∧
  decode 0b110001_11101_10110_1000000100100101#32 = .instr (.lwc1 22 0x8125 29) ∧
  decode 0b110101_11101_10110_1000000100100101#32 = .instr (.ldc1 22 0x8125 29) ∧
  decode 0b111001_11101_10110_1000000100100101#32 = .instr (.swc1 22 0x8125 29) ∧
  decode 0b111101_11101_10110_1000000100100101#32 = .instr (.sdc1 22 0x8125 29) ∧
  decode 0b010001_01000_00000_1000000100100101#32 = .instr (.bc1f 0x8125) ∧
  decode 0b010001_01000_00001_1000000100100101#32 = .instr (.bc1t 0x8125) ∧
  decode 0b010001_01000_00010_1000000100100101#32 = .instr (.bc1fl 0x8125) ∧
  decode 0b010001_01000_00011_1000000100100101#32 = .instr (.bc1tl 0x8125) ∧
  decode 0b010001_10000_00000_01100_00101_000110#32 = .instr (.movS 5 12) ∧
  decode 0b010001_10001_00000_01100_00101_000110#32 = .instr (.movD 5 12) ∧
  decode 0b010001_01011_00000_01100_00101_000110#32 = .instr (.movPs 5 12) ∧
  decode 0b010001_10000_10110_01100_00000_110000#32 = .instr (.cFS 12 22) ∧
  decode 0b010001_10001_10110_01100_00000_110000#32 = .instr (.cFD 12 22) ∧
  decode 0b010001_01011_10110_01100_00000_110000#32 = .instr (.cFPs 12 22) ∧
  decode 0b010001_10000_10110_01100_00000_110001#32 = .instr (.cUnS 12 22) ∧
  decode 0b010001_10001_10110_01100_00000_110001#32 = .instr (.cUnD 12 22) ∧
  decode 0b010001_01011_10110_01100_00000_110001#32 = .instr (.cUnPs 12 22) ∧
  decode 0b010001_10000_10110_01100_00000_110010#32 = .instr (.cEqS 12 22) ∧
  decode 0b010001_10001_10110_01100_00000_110010#32 = .instr (.cEqD 12 22) ∧
  decode 0b010001_01011_10110_01100_00000_110010#32 = .instr (.cEqPs 12 22) ∧
  decode 0b010001_10000_10110_01100_00000_110011#32 = .instr (.cUeqS 12 22) ∧
  decode 0b010001_10001_10110_01100_00000_110011#32 = .instr (.cUeqD 12 22) :=
  by and_intros <;> rfl

theorem test_decode_fpu_moves_and_compares_2 :
  decode 0b010001_01011_10110_01100_00000_110011#32 = .instr (.cUeqPs 12 22) ∧
  decode 0b010001_10000_10110_01100_00000_110100#32 = .instr (.cOltS 12 22) ∧
  decode 0b010001_10001_10110_01100_00000_110100#32 = .instr (.cOltD 12 22) ∧
  decode 0b010001_01011_10110_01100_00000_110100#32 = .instr (.cOltPs 12 22) ∧
  decode 0b010001_10000_10110_01100_00000_110101#32 = .instr (.cUltS 12 22) ∧
  decode 0b010001_10001_10110_01100_00000_110101#32 = .instr (.cUltD 12 22) ∧
  decode 0b010001_01011_10110_01100_00000_110101#32 = .instr (.cUltPs 12 22) ∧
  decode 0b010001_10000_10110_01100_00000_110110#32 = .instr (.cOleS 12 22) ∧
  decode 0b010001_10001_10110_01100_00000_110110#32 = .instr (.cOleD 12 22) ∧
  decode 0b010001_01011_10110_01100_00000_110110#32 = .instr (.cOlePs 12 22) ∧
  decode 0b010001_10000_10110_01100_00000_110111#32 = .instr (.cUleS 12 22) ∧
  decode 0b010001_10001_10110_01100_00000_110111#32 = .instr (.cUleD 12 22) ∧
  decode 0b010001_01011_10110_01100_00000_110111#32 = .instr (.cUlePs 12 22) ∧
  decode 0b010001_10000_10110_01100_00000_111000#32 = .instr (.cSfS 12 22) ∧
  decode 0b010001_10001_10110_01100_00000_111000#32 = .instr (.cSfD 12 22) ∧
  decode 0b010001_01011_10110_01100_00000_111000#32 = .instr (.cSfPs 12 22) ∧
  decode 0b010001_10000_10110_01100_00000_111001#32 = .instr (.cNgleS 12 22) ∧
  decode 0b010001_10001_10110_01100_00000_111001#32 = .instr (.cNgleD 12 22) ∧
  decode 0b010001_01011_10110_01100_00000_111001#32 = .instr (.cNglePs 12 22) ∧
  decode 0b010001_10000_10110_01100_00000_111010#32 = .instr (.cSeqS 12 22) ∧
  decode 0b010001_10001_10110_01100_00000_111010#32 = .instr (.cSeqD 12 22) ∧
  decode 0b010001_01011_10110_01100_00000_111010#32 = .instr (.cSeqPs 12 22) ∧
  decode 0b010001_10000_10110_01100_00000_111011#32 = .instr (.cNglS 12 22) ∧
  decode 0b010001_10001_10110_01100_00000_111011#32 = .instr (.cNglD 12 22) ∧
  decode 0b010001_01011_10110_01100_00000_111011#32 = .instr (.cNglPs 12 22) ∧
  decode 0b010001_10000_10110_01100_00000_111100#32 = .instr (.cLtS 12 22) ∧
  decode 0b010001_10001_10110_01100_00000_111100#32 = .instr (.cLtD 12 22) ∧
  decode 0b010001_01011_10110_01100_00000_111100#32 = .instr (.cLtPs 12 22) :=
  by and_intros <;> rfl

theorem test_decode_fpu_moves_and_compares_3 :
  decode 0b010001_10000_10110_01100_00000_111101#32 = .instr (.cNgeS 12 22) ∧
  decode 0b010001_10001_10110_01100_00000_111101#32 = .instr (.cNgeD 12 22) ∧
  decode 0b010001_01011_10110_01100_00000_111101#32 = .instr (.cNgePs 12 22) ∧
  decode 0b010001_10000_10110_01100_00000_111110#32 = .instr (.cLeS 12 22) ∧
  decode 0b010001_10001_10110_01100_00000_111110#32 = .instr (.cLeD 12 22) ∧
  decode 0b010001_01011_10110_01100_00000_111110#32 = .instr (.cLePs 12 22) ∧
  decode 0b010001_10000_10110_01100_00000_111111#32 = .instr (.cNgtS 12 22) ∧
  decode 0b010001_10001_10110_01100_00000_111111#32 = .instr (.cNgtD 12 22) ∧
  decode 0b010001_01011_10110_01100_00000_111111#32 = .instr (.cNgtPs 12 22) :=
  by and_intros <;> rfl

theorem test_decode_fpu_arithmetic_1 :
  decode 0b010001_10000_10110_01100_00101_000000#32 = .instr (.addS 5 12 22) ∧
  decode 0b010001_10001_10110_01100_00101_000000#32 = .instr (.addD 5 12 22) ∧
  decode 0b010001_01011_10110_01100_00101_000000#32 = .instr (.addPs 5 12 22) ∧
  decode 0b010001_10000_10110_01100_00101_000001#32 = .instr (.subS 5 12 22) ∧
  decode 0b010001_10001_10110_01100_00101_000001#32 = .instr (.subD 5 12 22) ∧
  decode 0b010001_01011_10110_01100_00101_000001#32 = .instr (.subPs 5 12 22) ∧
  decode 0b010001_10000_10110_01100_00101_000010#32 = .instr (.mulS 5 12 22) ∧
  decode 0b010001_10001_10110_01100_00101_000010#32 = .instr (.mulD 5 12 22) ∧
  decode 0b010001_01011_10110_01100_00101_000010#32 = .instr (.mulPs 5 12 22) ∧
  decode 0b010001_10000_10110_01100_00101_000011#32 = .instr (.divS 5 12 22) ∧
  decode 0b010001_10001_10110_01100_00101_000011#32 = .instr (.divD 5 12 22) ∧
  decode 0b010001_10000_00000_01100_00101_000100#32 = .instr (.sqrtS 5 12) ∧
  decode 0b010001_10001_00000_01100_00101_000100#32 = .instr (.sqrtD 5 12) ∧
  decode 0b010001_10000_00000_01100_00101_000101#32 = .instr (.absS 5 12) ∧
  decode 0b010001_10001_00000_01100_00101_000101#32 = .instr (.absD 5 12) ∧
  decode 0b010001_01011_00000_01100_00101_000101#32 = .instr (.absPs 5 12) ∧
  decode 0b010001_10000_00000_01100_00101_000111#32 = .instr (.negS 5 12) ∧
  decode 0b010001_10001_00000_01100_00101_000111#32 = .instr (.negD 5 12) ∧
  decode 0b010001_01011_00000_01100_00101_000111#32 = .instr (.negPs 5 12) ∧
  decode 0b010001_10000_00000_01100_00101_001000#32 = .instr (.roundLS 5 12) ∧
  decode 0b010001_10001_00000_01100_00101_001000#32 = .instr (.roundLD 5 12) ∧
  decode 0b010001_10000_00000_01100_00101_001001#32 = .instr (.truncLS 5 12) ∧
  decode 0b010001_10001_00000_01100_00101_001001#32 = .instr (.truncLD 5 12) ∧
  decode 0b010001_10000_00000_01100_00101_001010#32 = .instr (.ceilLS 5 12) ∧
  decode 0b010001_10001_00000_01100_00101_001010#32 = .instr (.ceilLD 5 12) ∧
  decode 0b010001_10000_00000_01100_00101_001011#32 = .instr (.floorLS 5 12) ∧
  decode 0b010001_10001_00000_01100_00101_001011#32 = .instr (.floorLD 5 12) ∧
  decode 0b010001_10000_00000_01100_00101_001100#32 = .instr (.roundWS 5 12) :=
  by and_intros <;> rfl

theorem test_decode_fpu_arithmetic_2 :
  decode 0b010001_10001_00000_01100_00101_001100#32 = .instr (.roundWD 5 12) ∧
  decode 0b010001_10000_00000_01100_00101_001101#32 = .instr (.truncWS 5 12) ∧
  decode 0b010001_10001_00000_01100_00101_001101#32 = .instr (.truncWD 5 12) ∧
  decode 0b010001_10000_00000_01100_00101_001110#32 = .instr (.ceilWS 5 12) ∧
  decode 0b010001_10001_00000_01100_00101_001110#32 = .instr (.ceilWD 5 12) ∧
  decode 0b010001_10000_00000_01100_00101_001111#32 = .instr (.floorWS 5 12) ∧
  decode 0b010001_10001_00000_01100_00101_001111#32 = .instr (.floorWD 5 12) ∧
  decode 0b010001_10001_00000_01100_00101_100000#32 = .instr (.cvtSD 5 12) ∧
  decode 0b010001_10100_00000_01100_00101_100000#32 = .instr (.cvtSW 5 12) ∧
  decode 0b010001_10101_00000_01100_00101_100000#32 = .instr (.cvtSL 5 12) ∧
  decode 0b010001_10000_00000_01100_00101_100001#32 = .instr (.cvtDS 5 12) ∧
  decode 0b010001_10100_00000_01100_00101_100001#32 = .instr (.cvtDW 5 12) ∧
  decode 0b010001_10101_00000_01100_00101_100001#32 = .instr (.cvtDL 5 12) ∧
  decode 0b010001_10000_00000_01100_00101_100100#32 = .instr (.cvtWS 5 12) ∧
  decode 0b010001_10001_00000_01100_00101_100100#32 = .instr (.cvtWD 5 12) ∧
  decode 0b010001_10000_00000_01100_00101_100101#32 = .instr (.cvtLS 5 12) ∧
  decode 0b010001_10001_00000_01100_00101_100101#32 = .instr (.cvtLD 5 12) ∧
  decode 0b010001_10000_10110_01100_00101_011000#32 = .instr (.maddS 5 12 22) ∧
  decode 0b010001_10001_10110_01100_00101_011000#32 = .instr (.maddD 5 12 22) ∧
  decode 0b010001_01011_10110_01100_00101_011000#32 = .instr (.maddPs 5 12 22) ∧
  decode 0b010001_10000_10110_01100_00101_011001#32 = .instr (.msubS 5 12 22) ∧
  decode 0b010001_10001_10110_01100_00101_011001#32 = .instr (.msubD 5 12 22) ∧
  decode 0b010001_01011_10110_01100_00101_011001#32 = .instr (.msubPs 5 12 22) ∧
  decode 0b010001_10000_10110_01100_00101_011010#32 = .instr (.nmaddS 5 12 22) ∧
  decode 0b010001_10001_10110_01100_00101_011010#32 = .instr (.nmaddD 5 12 22) ∧
  decode 0b010001_01011_10110_01100_00101_011010#32 = .instr (.nmaddPs 5 12 22) ∧
  decode 0b010001_10000_10110_01100_00101_011011#32 = .instr (.nmsubS 5 12 22) ∧
  decode 0b010001_10001_10110_01100_00101_011011#32 = .instr (.nmsubD 5 12 22) :=
  by and_intros <;> rfl

theorem test_decode_fpu_arithmetic_3 :
  decode 0b010001_01011_10110_01100_00101_011011#32 = .instr (.nmsubPs 5 12 22) :=
  rfl

/-! ## Words that are no instruction -/

theorem test_decode_other_words :
  decode 0b010011_00000_00000_00000_00000_000000#32 = .reserved ∧
  decode 0b000000_00000_00000_00000_00000_000001#32 = .reserved ∧
  decode 0b000001_00000_00100_0000000000000000#32 = .reserved ∧
  decode 0b000000_01001_01010_01000_00001_100000#32 = .refused .mustBeZero ∧
  decode 0b000000_01001_01010_01000_00000_001010#32 = .refused .conditionalMove ∧
  decode 0b011111_01001_01010_01000_00000_100000#32 = .refused .godson2Function ∧
  decode 0b010000_1_0000000000000000000_000000#32 = .cop0Other ∧
  decode 0b010001_01000_00100_0000000000000011#32 = .cop1Other ∧
  decode 0b010010_00000_00000_00000_00000_000000#32 = .cop2 :=
  ⟨rfl, rfl, rfl, rfl, rfl, rfl, rfl, rfl, rfl⟩

/-! ## WellFormed: an ill-formed term for each check, and its well-formed neighbour -/

theorem test_wf_jalr : (Instr.jalr 9 9).wf = false ∧ (Instr.jalr 8 9).wf = true := by decide
theorem test_wf_bltzal : (Instr.bltzal 31 3).wf = false ∧ (Instr.bltzal 30 3).wf = true := by decide
theorem test_wf_bgezal : (Instr.bgezal 31 3).wf = false ∧ (Instr.bgezal 0 3).wf = true := by decide
theorem test_wf_bltzall : (Instr.bltzall 31 3).wf = false ∧ (Instr.bltzall 30 3).wf = true := by decide
theorem test_wf_bgezall : (Instr.bgezall 31 3).wf = false ∧ (Instr.bgezall 0 3).wf = true := by decide
theorem test_wf_mfc0 : (Instr.mfc0 8 7).wf = false ∧ (Instr.mfc0 8 6).wf = true := by decide
theorem test_wf_mtc0 : (Instr.mtc0 8 21).wf = false ∧ (Instr.mtc0 8 22).wf = true := by decide
theorem test_wf_dmfc0 : (Instr.dmfc0 8 31).wf = false ∧ (Instr.dmfc0 8 30).wf = true := by decide
theorem test_wf_dmtc0 : (Instr.dmtc0 8 27).wf = false ∧ (Instr.dmtc0 8 28).wf = true := by decide
theorem test_wf_cfc1 : (Instr.cfc1 8 1).wf = false ∧ (Instr.cfc1 8 31).wf = true := by decide
theorem test_wf_ctc1 : (Instr.ctc1 8 30).wf = false ∧ (Instr.ctc1 8 31).wf = true := by decide
theorem test_wf_cache : (Instr.cache 2 0 4).wf = false ∧ (Instr.cache 31 0 4).wf = true := by decide

/-! ## Small states and projections -/

noncomputable section

/-- Status of the vectors: 0x000000E0, with CP1 usable (spec/95_test_vectors.md part 2). -/
def status0 : StatusReg :=
  { cu := 2, fr := false, bev := false, sr := false, im := 0, ksu := 0, erl := false, exl := false, ie := false }

/-- The bytes at A = physical 0x2000 in the vectors of 2.1. -/
def bytesA : List Host.Cell :=
  [(0x2000, 0x88), (0x2001, 0x99), (0x2002, 0xAA), (0x2003, 0xBB), (0x2004, 0xCC), (0x2005, 0xDD), (0x2006, 0xEE),
   (0x2007, 0xFF), (0x2008, 0x01), (0x2009, 0x23), (0x200A, 0x45), (0x200B, 0x67), (0x200C, 0x89), (0x200D, 0xAB),
   (0x200E, 0xCD), (0x200F, 0xEF)]

/-- A map of RAM only. -/
def ramOnly : List Region := [{ base := 0, size := 2 ^ 40, kind := .ram }]

/-- An instruction at B = 0xFFFFFFFF80001000 in kernel mode, r4 = A. -/
def start : State :=
  ({ State.reset with
      pc := 0xFFFFFFFF80001000, cp0 := { Cp0.reset with status := status0 }, memory := bytesA, ramMap := ramOnly }).setGpr 4
    0xFFFFFFFF80002000

/-- The start with r9 and r10. -/
def with2 (a b : Word) : State := (start.setGpr 9 a).setGpr 10 b

/-- The start with f2, f4 and f6. -/
def withF (c a b : Word) : State := ((start.setFprRaw 2 c).setFprRaw 4 a).setFprRaw 6 b

/-- The start with another Status. -/
def withStatus (st : StatusReg) : State := { start with cp0 := { start.cp0 with status := st } }

/-- The D-cache line of physical 0x2000, modified, with the bytes of the vectors. -/
def lineA : DLine :=
  { tag := 2, state := .valid 1, dirty := true, scWay := 0, stateMod := 0, data := 0xEFCDAB8967452301FFEEDDCCBBAA9988 }

/-- The start with ckseg0 cached and the line of A in the D-cache. -/
def cached : State :=
  { start with
    cp0 := { start.cp0 with configK0 := 3 }
    caches := { epoch := 0, icache := [(1024, { tag := 2, valid := true, data := 0 })], dcache := [(1024, lineA)], l2 := [] } }

/-- A TLB entry for va 0x8000 to 0xFFFF, ASID 5 (V-C0-16). -/
def entry7 : TlbEntry :=
  { mask := 3, r := 0, vpn2 := 4, g := false, asid := 5, page0 := { e := false, pfn := 0x40, c := 3, d := true, v := true },
    page1 := { e := false, pfn := 0x80, c := 3, d := true, v := true } }

/-- The start with that entry in place 7 and EntryHi at it; the other entries match no such address. -/
def mapped : State :=
  { start with
    tlb := (Vector.replicate 64 { TlbEntry.zero with r := 2 }).set 7 entry7
    cp0 := { start.cp0 with pageMask := 3, index := 7, entryHi := { r := 0, vpn2 := 7, asid := 5 } } }

/-- What holds of the next state, where there is one. -/
def after (o : Out) (p : State → Bool) : Bool :=
  match o with
  | .next t => p t
  | _ => false

/-- The next state is past the instruction and has `v` in register `r`. -/
def gives (i : Instr) (s : State) (r : RegNum) (v : Word) : Bool :=
  after (exec i s) fun t => t.gpr r == v && t.pc == s.pc + 4 && t.delay == .none

/-- The next state is past the instruction, with HI and LO. -/
def givesHiLo (i : Instr) (s : State) (hi lo : Word) : Bool :=
  after (exec i s) fun t => t.hi == hi && t.lo == lo && t.pc == s.pc + 4

/-- The next state is the first of the general handler, with ExcCode and EPC, the registers as they were. -/
def raises (i : Instr) (s : State) (code : BitVec 5) : Bool :=
  after (exec i s) fun t =>
    t.cp0.cause.excCode == code && t.cp0.epc == s.pc && t.cp0.status.exl && t.pc == 0xFFFFFFFF80000180 && t.gprs == s.gprs

/-- The instruction stops by name. -/
def refuses (i : Instr) (s : State) (r : Refusal) : Bool :=
  match exec i s with
  | .refused q => q == r
  | _ => false

/-- The next state is in the delay slot with this target, or past it. -/
def goesTo (i : Instr) (s : State) (pc : Word) (d : Delay) : Bool := after (exec i s) fun t => t.pc == pc && t.delay == d

/-- Memory holds the number at an address, little-endian. -/
def holds (t : State) (a n v : Nat) : Bool :=
  (List.range n).all fun i => t.byteAt (a + i) == some (BitVec.ofNat 8 (v / 256 ^ i))

/-- The next state has the number at a physical address. -/
def stores (i : Instr) (s : State) (a n v : Nat) : Bool := after (exec i s) fun t => holds t a n v && t.pc == s.pc + 4

/-- The next state has the value in an FP register, and FCR31. -/
def givesF (i : Instr) (s : State) (r : RegNum) (v : Word) (fcr : Word32) : Bool :=
  after (exec i s) fun t => t.fprRaw r == v && t.fcsr.word == fcr && t.pc == s.pc + 4

/-- The Floating-Point exception with FCR31, no register changed. -/
def trapsF (i : Instr) (s : State) (fcr : Word32) : Bool :=
  after (exec i s) fun t => t.cp0.cause.excCode == 15 && t.fcsr.word == fcr && t.fprs == s.fprs

/-! ## Results from the vectors of spec/95_test_vectors.md -/

section
set_option Elab.async false

-- V-LS-1 to V-LS-20
theorem test_loads :
    (gives (.lb 8 0 4) start 8 0xFFFFFFFFFFFFFF88 && gives (.lbu 8 1 4) start 8 0x99 &&
     gives (.lh 8 2 4) start 8 0xFFFFFFFFFFFFBBAA && gives (.lhu 8 2 4) start 8 0xBBAA &&
     gives (.lw 8 4 4) start 8 0xFFFFFFFFFFEEDDCC && gives (.lwu 8 4 4) start 8 0xFFEEDDCC &&
     gives (.ld 8 8 4) start 8 0xEFCDAB8967452301 && gives (.lw 0 0 4) start 0 0) = true := by decide +kernel

theorem test_partial_loads :
    (gives (.lwl 8 1 4) (start.setGpr 8 0x11223344) 8 0xFFFFFFFF99883344 &&
     gives (.lwr 8 1 4) (start.setGpr 8 0x11223344) 8 0x11BBAA99 &&
     gives (.lwr 8 0 4) (start.setGpr 8 0x11223344) 8 0xFFFFFFFFBBAA9988 &&
     gives (.ldr 8 3 4) (start.setGpr 8 0x1122334455667788) 8 0x112233FFEEDDCCBB &&
     gives (.ldl 8 10 4) (start.setGpr 8 0x112233FFEEDDCCBB) 8 0x452301FFEEDDCCBB) = true := by decide +kernel

theorem test_misaligned_access :
    (raises (.lh 8 1 4) start 4 && raises (.ld 8 4 4) start 4 && raises (.sw 9 2 4) start 5 && raises (.sc 9 2 4) start 5) =
      true := by decide +kernel

-- V-LS-21 to V-LS-31; r9 = 0x0102030405060708
theorem test_stores :
    (stores (.sb 9 0 4) (with2 0x0102030405060708 0) 0x2000 2 0x9908 &&
     stores (.sh 9 2 4) (with2 0x0102030405060708 0) 0x2002 4 0xDDCC0708 &&
     stores (.sw 9 4 4) (with2 0x0102030405060708 0) 0x2004 4 0x05060708 &&
     stores (.sd 9 8 4) (with2 0x0102030405060708 0) 0x2008 8 0x0102030405060708) = true := by decide +kernel

theorem test_partial_stores :
    (stores (.swl 9 1 4) (with2 0x0102030405060708 0) 0x2000 3 0xAA0506 &&
     stores (.swr 9 1 4) (with2 0x0102030405060708 0) 0x2000 5 0xCC06070888 &&
     stores (.sdl 9 2 4) (with2 0x0102030405060708 0) 0x2000 4 0xBB010203 &&
     stores (.sdr 9 5 4) (with2 0x0102030405060708 0) 0x2004 4 0x060708CC) = true := by decide +kernel

-- V-LS-32 to V-LS-38
theorem test_linked :
    (after (exec (.ll 8 0 4) cached) (fun t => t.gpr 8 == 0xFFFFFFFFBBAA9988 && t.llBit && t.llPa == some 0x2000) &&
     after (exec (.lld 8 8 4) cached) (fun t => t.gpr 8 == 0xEFCDAB8967452301 && t.llBit && t.llPa == some 0x2008) &&
     after (exec (.sc 9 0 4) { cached.setGpr 9 0x0102030405060708 with llBit := true, llPa := some 0x2000 })
       (fun t => t.gpr 9 == 1 && (t.dline 1024).data == 0xEFCDAB8967452301FFEEDDCC05060708) &&
     after (exec (.scd 9 8 4) (cached.setGpr 9 0x0102030405060708)) (fun t => t.gpr 9 == 0 && t.dline 1024 == lineA) &&
     after (exec .sync start) (fun t => t == start.stepped)) = true := by decide +kernel

-- V-ALU-1 to V-ALU-21
theorem test_immediates :
    (gives (.addi 8 9 0xFFFF) (with2 0 0) 8 0xFFFFFFFFFFFFFFFF && gives (.addiu 8 9 1) (with2 0x7FFFFFFF 0) 8 0xFFFFFFFF80000000 &&
     gives (.daddi 8 9 1) (with2 0x7FFFFFFF 0) 8 0x80000000 && gives (.daddiu 8 9 1) (with2 0x7FFFFFFFFFFFFFFF 0) 8 0x8000000000000000 &&
     gives (.slti 8 9 0xFFFF) (with2 0xFFFFFFFFFFFFFFFE 0) 8 1 && gives (.sltiu 8 9 0x8000) (with2 0xFFFFFFFFFFFF8000 0) 8 0 &&
     gives (.andi 8 9 0xFFFF) (with2 0xFFFFFFFF12345678 0) 8 0x5678 && gives (.ori 8 0 0x8000) start 8 0x8000 &&
     gives (.xori 8 9 0xFFFF) (with2 0xFFFFFFFFFFFFFFFF 0) 8 0xFFFFFFFFFFFF0000 &&
     gives (.lui 8 0x8000) start 8 0xFFFFFFFF80000000) = true := by decide +kernel

-- V-ALU-24 to V-ALU-42
theorem test_register_arithmetic :
    (gives (.add 8 9 10) (with2 0xFFFFFFFFFFFFFFFF 1) 8 0 && gives (.addu 8 9 10) (with2 0xFFFFFFFF80000000 0xFFFFFFFFFFFFFFFF) 8 0x7FFFFFFF &&
     gives (.sub 8 9 10) (with2 5 7) 8 0xFFFFFFFFFFFFFFFE && gives (.subu 8 9 10) (with2 0xFFFFFFFF80000000 1) 8 0x7FFFFFFF &&
     gives (.dadd 8 9 10) (with2 0x7FFFFFFF 1) 8 0x80000000 && gives (.daddu 8 9 10) (with2 0x7FFFFFFFFFFFFFFF 1) 8 0x8000000000000000 &&
     gives (.dsub 8 9 10) (with2 5 7) 8 0xFFFFFFFFFFFFFFFE && gives (.dsubu 8 9 10) (with2 0x8000000000000000 1) 8 0x7FFFFFFFFFFFFFFF &&
     gives (.slt 8 9 10) (with2 0xFFFFFFFFFFFFFFFF 1) 8 1 && gives (.sltu 8 9 10) (with2 0xFFFFFFFFFFFFFFFF 1) 8 0 &&
     gives (.and 8 9 10) (with2 0x00FF 0x0F0F) 8 0x000F && gives (.or 8 9 10) (with2 0x00FF 0x0F0F) 8 0x0FFF &&
     gives (.xor 8 9 10) (with2 0x00FF 0x0F0F) 8 0x0FF0 && gives (.nor 8 9 10) (with2 0x00FF 0x0F0F) 8 0xFFFFFFFFFFFFF000 &&
     gives (.or 0 9 10) (with2 0x00FF 0x0F0F) 0 0) = true := by decide +kernel

-- V-ALU-2 to V-ALU-33
theorem test_overflow :
    (raises (.addi 8 9 1) (with2 0x7FFFFFFF 0) 12 && raises (.addi 0 9 1) (with2 0x7FFFFFFF 0) 12 &&
     raises (.daddi 8 9 1) (with2 0x7FFFFFFFFFFFFFFF 0) 12 && raises (.add 8 9 10) (with2 0x7FFFFFFF 1) 12 &&
     raises (.sub 8 9 10) (with2 0 0xFFFFFFFF80000000) 12 && raises (.dadd 8 9 10) (with2 0x7FFFFFFFFFFFFFFF 1) 12 &&
     raises (.dsub 8 9 10) (with2 0x8000000000000000 1) 12) = true := by decide +kernel

-- V-SH-2 to V-SH-12
theorem test_word_shifts :
    (gives (.sll 8 9 4) (with2 0x08000000 0) 8 0xFFFFFFFF80000000 && gives (.sll 8 9 0) (with2 0x1234567880000000 0) 8 0xFFFFFFFF80000000 &&
     gives (.srl 8 9 4) (with2 0xFFFFFFFF80000000 0) 8 0x08000000 && gives (.sra 8 9 4) (with2 0xFFFFFFFF80000000 0) 8 0xFFFFFFFFF8000000 &&
     gives (.sllv 8 9 10) (with2 1 0x24) 8 0x10 && gives (.srlv 8 9 10) (with2 0xFFFFFFFF80000000 0x21) 8 0x40000000 &&
     gives (.srav 8 9 10) (with2 0xFFFFFFFF80000000 0x21) 8 0xFFFFFFFFC0000000) = true := by decide +kernel

-- V-SH-13 to V-SH-24
theorem test_double_shifts :
    (gives (.dsll 8 9 31) (with2 1 0) 8 0x80000000 && gives (.dsll32 8 9 0) (with2 1 0) 8 0x100000000 &&
     gives (.dsrl 8 9 4) (with2 0x8000000000000000 0) 8 0x0800000000000000 && gives (.dsrl32 8 9 31) (with2 0x8000000000000000 0) 8 1 &&
     gives (.dsra 8 9 4) (with2 0x8000000000000000 0) 8 0xF800000000000000 &&
     gives (.dsra32 8 9 0) (with2 0x8000000000000000 0) 8 0xFFFFFFFF80000000 && gives (.dsllv 8 9 10) (with2 1 0x44) 8 0x10 &&
     gives (.dsrlv 8 9 10) (with2 0x8000000000000000 0x3F) 8 1 &&
     gives (.dsrav 8 9 10) (with2 0x8000000000000000 0x3F) 8 0xFFFFFFFFFFFFFFFF) = true := by decide +kernel

-- V-MD-1 to V-MD-19
theorem test_multiply_divide :
    (givesHiLo (.mult 9 10) (with2 0xFFFFFFFFFFFFFFFF 2) 0xFFFFFFFFFFFFFFFF 0xFFFFFFFFFFFFFFFE &&
     givesHiLo (.multu 9 10) (with2 0xFFFFFFFFFFFFFFFF 0xFFFFFFFFFFFFFFFF) 0xFFFFFFFFFFFFFFFE 1 &&
     givesHiLo (.dmult 9 10) (with2 0x8000000000000000 2) 0xFFFFFFFFFFFFFFFF 0 &&
     givesHiLo (.dmultu 9 10) (with2 0xFFFFFFFFFFFFFFFF 0xFFFFFFFFFFFFFFFF) 0xFFFFFFFFFFFFFFFE 1 &&
     givesHiLo (.div 9 10) (with2 0xFFFFFFFFFFFFFFF9 2) 0xFFFFFFFFFFFFFFFF 0xFFFFFFFFFFFFFFFD &&
     givesHiLo (.divu 9 10) (with2 0xFFFFFFFFFFFFFFFF 2) 1 0x7FFFFFFF &&
     givesHiLo (.ddiv 9 10) (with2 0xFFFFFFFFFFFFFFF9 0xFFFFFFFFFFFFFFFE) 0xFFFFFFFFFFFFFFFF 3 &&
     givesHiLo (.ddivu 9 10) (with2 0x8000000000000000 3) 2 0x2AAAAAAAAAAAAAAA &&
     gives (.mfhi 8) (start.setHiLo 0xAAAA 0xBBBB) 8 0xAAAA && gives (.mflo 8) (start.setHiLo 0xAAAA 0xBBBB) 8 0xBBBB &&
     givesHiLo (.mthi 9) ((with2 0x1234 0).setHiLo 0xAAAA 0xBBBB) 0x1234 0xBBBB &&
     givesHiLo (.mtlo 9) ((with2 0x1234 0).setHiLo 0xAAAA 0xBBBB) 0xAAAA 0x1234) = true := by decide +kernel

-- V-MD-20 to V-MD-35
theorem test_godson2 :
    (gives (.multG 8 9 10) (with2 0x7FFFFFFF 2) 8 0xFFFFFFFFFFFFFFFE && gives (.multuG 8 9 10) (with2 0xFFFFFFFFFFFFFFFF 0xFFFFFFFFFFFFFFFF) 8 1 &&
     gives (.dmultG 8 9 10) (with2 0xFFFFFFFFFFFFFFFF 5) 8 0xFFFFFFFFFFFFFFFB &&
     gives (.dmultuG 8 9 10) (with2 0x100000000 0x100000000) 8 0 &&
     gives (.divG 8 9 10) (with2 0xFFFFFFFF80000000 0xFFFFFFFFFFFFFFFF) 8 0xFFFFFFFF80000000 &&
     gives (.modG 8 9 10) (with2 0xFFFFFFFFFFFFFFF9 2) 8 0xFFFFFFFFFFFFFFFF &&
     gives (.divuG 8 9 10) (with2 0xFFFFFFFFFFFFFFFE 1) 8 0xFFFFFFFFFFFFFFFE && gives (.moduG 8 9 10) (with2 0xFFFFFFFFFFFFFFFF 16) 8 15 &&
     gives (.ddivG 8 9 10) (with2 0xFFFFFFFFFFFFFFF9 2) 8 0xFFFFFFFFFFFFFFFD &&
     gives (.ddivuG 8 9 10) (with2 0xFFFFFFFFFFFFFFF9 2) 8 0x7FFFFFFFFFFFFFFC &&
     gives (.dmodG 8 9 10) (with2 0xFFFFFFFFFFFFFFF9 2) 8 0xFFFFFFFFFFFFFFFF &&
     gives (.dmoduG 8 9 10) (with2 0xFFFFFFFFFFFFFFF9 2) 8 1) = true := by decide +kernel

-- V-BR-1 to V-BR-26; B+4 = 0xFFFFFFFF80001004, B+8 = 0xFFFFFFFF80001008, the target of +3 = 0xFFFFFFFF80001010
theorem test_branches :
    (goesTo (.beq 9 10 0xFFFF) (with2 5 5) 0xFFFFFFFF80001004 (.slot (some 0xFFFFFFFF80001000)) &&
     goesTo (.beq 9 10 3) (with2 5 0x100000005) 0xFFFFFFFF80001004 (.slot none) &&
     goesTo (.bne 9 10 3) (with2 5 6) 0xFFFFFFFF80001004 (.slot (some 0xFFFFFFFF80001010)) &&
     goesTo (.blez 9 0x7FFF) (with2 0 0) 0xFFFFFFFF80001004 (.slot (some 0xFFFFFFFF80021000)) &&
     goesTo (.bgtz 9 0x8000) (with2 1 0) 0xFFFFFFFF80001004 (.slot (some 0xFFFFFFFF7FFE1004)) &&
     goesTo (.bltz 9 3) (with2 0x8000000000000000 0) 0xFFFFFFFF80001004 (.slot (some 0xFFFFFFFF80001010)) &&
     goesTo (.bgez 9 3) (with2 0 0) 0xFFFFFFFF80001004 (.slot (some 0xFFFFFFFF80001010)) &&
     goesTo (.bltzal 9 3) (with2 1 0) 0xFFFFFFFF80001004 (.slot none) &&
     goesTo (.bgezal 9 3) (with2 1 0) 0xFFFFFFFF80001004 (.slot (some 0xFFFFFFFF80001010))) = true := by decide +kernel

theorem test_likely_branches :
    (goesTo (.beql 9 10 3) (with2 5 6) 0xFFFFFFFF80001008 .none &&
     goesTo (.bnel 9 10 3) (with2 5 6) 0xFFFFFFFF80001004 (.slot (some 0xFFFFFFFF80001010)) &&
     goesTo (.blezl 9 3) (with2 1 0) 0xFFFFFFFF80001008 .none &&
     goesTo (.bgtzl 9 3) (with2 1 0) 0xFFFFFFFF80001004 (.slot (some 0xFFFFFFFF80001010)) &&
     goesTo (.bltzl 9 3) (with2 0 0) 0xFFFFFFFF80001008 .none &&
     goesTo (.bgezl 9 3) (with2 0 0) 0xFFFFFFFF80001004 (.slot (some 0xFFFFFFFF80001010)) &&
     goesTo (.bltzall 9 3) (with2 1 0) 0xFFFFFFFF80001008 .none &&
     after (exec (.bltzall 9 3) (with2 1 0)) (fun t => t.gpr 31 == 0xFFFFFFFF80001008) &&
     goesTo (.bgezall 9 3) (with2 1 0) 0xFFFFFFFF80001004 (.slot (some 0xFFFFFFFF80001010))) = true := by decide +kernel

theorem test_jumps :
    (goesTo (.j 0x800) start 0xFFFFFFFF80001004 (.slot (some 0xFFFFFFFF80002000)) &&
     goesTo (.jal 0x3FFFFFF) start 0xFFFFFFFF80001004 (.slot (some 0xFFFFFFFF8FFFFFFC)) &&
     goesTo (.jr 9) (with2 0xFFFFFFFF80003000 0) 0xFFFFFFFF80001004 (.slot (some 0xFFFFFFFF80003000)) &&
     goesTo (.jalr 8 9) (with2 0xFFFFFFFF80003000 0) 0xFFFFFFFF80001004 (.slot (some 0xFFFFFFFF80003000)) &&
     after (exec (.jalr 8 9) (with2 0xFFFFFFFF80003000 0)) (fun t => t.gpr 8 == 0xFFFFFFFF80001008) &&
     after (exec (.jal 0x3FFFFFF) start) (fun t => t.gpr 31 == 0xFFFFFFFF80001008)) = true := by decide +kernel

-- V-TR-1 to V-TR-17
theorem test_traps_taken :
    (raises (.syscall 0x12345) start 8 && raises (.break_ 7) start 9 && raises (.teq 0 0 0) start 13 &&
     raises (.tgeu 9 10 0) (with2 0xFFFFFFFFFFFFFFFF 0) 13 && raises (.tlt 9 10 0x3FF) (with2 0xFFFFFFFFFFFFFFFF 0) 13 &&
     raises (.tgei 9 0xFFFF) (with2 0 0) 13 && raises (.tlti 9 0) (with2 0xFFFFFFFFFFFFFFFF 0) 13 &&
     raises (.tltiu 9 0xFFFF) (with2 5 0) 13 && raises (.teqi 9 0x8000) (with2 0xFFFFFFFFFFFF8000 0) 13) = true := by decide +kernel

theorem test_traps_not_taken :
    (gives (.tge 9 10 0) (with2 0xFFFFFFFFFFFFFFFF 0) 8 0 && gives (.tltu 9 10 0) (with2 0xFFFFFFFFFFFFFFFF 0) 8 0 &&
     gives (.tne 0 0 0) start 8 0 && gives (.teq 9 10 0) (with2 5 0x100000005) 8 0 && gives (.tgeiu 9 0xFFFF) (with2 0 0) 8 0 &&
     gives (.tnei 9 5) (with2 5 0) 8 0) = true := by decide +kernel

-- V-C0-1 to V-C0-11
theorem test_cp0_moves :
    (gives (.mfc0 8 12) (withStatus { status0 with cu := 0, bev := true, erl := true }) 8 0x4000E4 &&
     gives (.dmfc0 8 12) (withStatus { status0 with cu := 8, bev := true, erl := true }) 8 0xFFFFFFFF804000E4 &&
     gives (.mfc0 8 14) { start with cp0 := { start.cp0 with epc := 0x123456788 } } 8 0x23456788 &&
     after (exec (.mtc0 9 12) (with2 0x3400FF13 0)) (fun t => t.cp0Read 12 == some 0x3400FFF3 && t.mode == .kernel) &&
     after (exec (.mtc0 9 13) (with2 0xFFFFFFFFFFFFFFFF 0)) (fun t => t.cp0Read 13 == some 0x300) &&
     after (exec (.mtc0 9 6) (with2 8 0)) (fun t => t.cp0.wired == 8 && t.cp0.random == 63) &&
     after (exec (.dmtc0 9 10) (with2 0xFFFFFFFFFFFFFFFF 0)) (fun t => t.cp0Read 10 == some 0xC0000FFFFFFFE0FF)) =
      true := by decide +kernel

-- V-C0-12 to V-C0-15: user mode, CU0 = 0
theorem test_cp0_user :
    (raises (.mfc0 8 9) (withStatus { status0 with ksu := 2 }) 11 && gives (.mfc0 8 24) (withStatus { status0 with ksu := 2 }) 8 0 &&
     raises (.mtc0 8 25) (withStatus { status0 with ksu := 2 }) 11) = true := by decide +kernel

-- V-C0-16 to V-C0-19
theorem test_tlb :
    (after (exec .tlbwi { mapped with cp0 := { mapped.cp0 with
        index := 9
        entryLo0 := { e := false, pfn := 0x40, c := 3, d := true, v := true, g := true }
        entryLo1 := { e := false, pfn := 0x80, c := 3, d := true, v := true, g := false } } }) (fun t => t.tlb[9] == entry7) &&
     after (exec .tlbwr mapped) (fun t => t.tlb[63].vpn2 == 4 && t.tlb[62] == mapped.tlb[62]) &&
     after (exec .tlbr { mapped with cp0 := { mapped.cp0 with pageMask := 0 } }) (fun t =>
       t.cp0Read 5 == some 0x6000 && t.cp0Read 10 == some 0x8005 && t.cp0.entryLo0.pfn == 0x40 && !t.cp0.entryLo0.g) &&
     after (exec .tlbp { mapped with cp0 := { mapped.cp0 with index := 0 } }) (fun t => t.cp0.index == 7 && !t.cp0.indexP) &&
     after (exec .tlbp { mapped with cp0 := { mapped.cp0 with entryHi := { r := 0, vpn2 := 7, asid := 6 } } }) (fun t => t.cp0.indexP)) =
      true := by decide +kernel

-- V-C0-21, V-C0-22, V-C0-25, V-C0-26
theorem test_eret_cache :
    (after (exec .eret { withStatus { status0 with erl := true, exl := true } with llBit := true }) (fun t =>
       t.pc == 0 && t.cp0.status.exl && !t.cp0.status.erl && !t.llBit) &&
     after (exec .eret (withStatus { status0 with ksu := 2, exl := true })) (fun t => t.mode == .user) &&
     after (exec (.cache 0x15 0 4) cached) (fun t => (t.dline 1024).state == .invalid && t.l2Hits 0x2000 == [1024]) &&
     after (exec (.cache 0 0 4) cached) (fun t => !(t.iline 1024).valid)) = true := by decide +kernel

-- V-EX-1 to V-EX-12
theorem test_exceptions :
    (after (exec (.syscall 0) { start with pc := 0xFFFFFFFF80001004, delay := .slot (some 0xFFFFFFFF80001010) }) (fun t =>
       t.cp0.cause.bd && t.cp0.epc == 0xFFFFFFFF80001000 && t.delay == .none) &&
     after (exec (.syscall 0) (withStatus { status0 with bev := true })) (fun t => t.pc == 0xFFFFFFFFBFC00380) &&
     after (exec (.lw 8 0 4) (mapped.setGpr 4 0x6000)) (fun t =>
       t.cp0.cause.excCode == 2 && t.cp0.badVAddr == 0x6000 && t.cp0.context.badVpn2 == 3 && t.cp0.entryHi.vpn2 == 3) &&
     raises (.lw 8 0 4) (start.setGpr 4 0x10000000000) 4 &&
     raises (.addD 2 4 6) (withStatus { status0 with cu := 0 }) 11 &&
     after (step { start with pc := 0xFFFFFFFF80001002 }) (fun t =>
       t.cp0.cause.excCode == 4 && t.cp0.badVAddr == 0xFFFFFFFF80001002 && t.cp0.epc == 0xFFFFFFFF80001002)) = true := by decide +kernel

-- V-FM-1 to V-FM-15
theorem test_fpu_moves :
    (gives (.mfc1 8 2) (withF 0x12345678BF800000 0 0) 8 0xFFFFFFFFBF800000 &&
     givesF (.mtc1 9 3) ((withF 0x1111111122222222 0 0).setGpr 9 0x3F800000) 2 0x3F80000022222222 0 &&
     gives (.dmfc1 9 4) (withF 0 0x7FF8000000000001 0) 9 0x7FF8000000000001 && givesF (.dmtc1 9 4) (with2 5 0) 4 5 0 &&
     gives (.cfc1 8 0) start 8 0x501 && givesF (.ctc1 9 31) (with2 0x01000003 0) 2 0 0x01000003 &&
     trapsF (.ctc1 9 31) (with2 0xFFFFFFFF 0) 0xFF83FFFF && givesF (.lwc1 0 0 4) start 0 0xBBAA9988 0 &&
     givesF (.ldc1 2 8 4) start 2 0xEFCDAB8967452301 0 && stores (.swc1 2 4 4) (withF 0x3F800000 0 0) 0x2004 4 0x3F800000 &&
     stores (.sdc1 2 8 4) (withF 0x400921FB54442D18 0 0) 0x2008 8 0x400921FB54442D18 &&
     givesF (.movD 2 4) (withF 0 1 0) 2 1 0 && givesF (.movS 2 4) (withF 0 0x7FC00000 0) 2 0x7FC00000 0 &&
     givesF (.movPs 2 4) (withF 0 0x7FC00001 0) 2 0x7FC00001 0) = true := by decide +kernel

-- V-FM-16 to V-FM-19
theorem test_fpu_branches :
    (goesTo (.bc1t 3) { start with fcsr := Fcsr.ofWord 0x00800000 } 0xFFFFFFFF80001004 (.slot (some 0xFFFFFFFF80001010)) &&
     goesTo (.bc1f 3) { start with fcsr := Fcsr.ofWord 0x00800000 } 0xFFFFFFFF80001004 (.slot none) &&
     goesTo (.bc1tl 3) start 0xFFFFFFFF80001008 .none &&
     goesTo (.bc1fl 0xFFFF) { start with fcsr := Fcsr.ofWord 0x02000000 } 0xFFFFFFFF80001004 (.slot (some 0xFFFFFFFF80001000))) =
      true := by decide +kernel

-- V-FM-22 to V-FM-30
theorem test_compares :
    (givesF (.cEqD 2 4) (withF 0 0x8000000000000000 0) 0 0 0x00800000 &&
     givesF (.cLtS 2 4) (withF 0xBF800000 0x3F800000 0) 0 0 0x00800000 &&
     givesF (.cLtS 2 4) (withF 0x7FA00000 0x3F800000 0) 0 0 0x00010040 &&
     trapsF (.cLtS 2 4) { withF 0x7FA00000 0x3F800000 0 with fcsr := Fcsr.ofWord 0x00800800 } 0x00810800 &&
     givesF (.cUltS 2 4) (withF 0x7FA00000 0x3F800000 0) 0 0 0x00800000 &&
     givesF (.cUnD 2 4) (withF 0x7FF8000000000000 0x3FF0000000000000 0) 0 0 0x00810040 &&
     givesF (.cLePs 2 4) (withF 0x400000003F800000 0x3F8000003F800000 0) 0 0 0x00800000 &&
     givesF (.cLtPs 2 4) (withF 0x3F80000040000000 0x400000003F800000 0) 0 0 0x02000000) = true := by decide +kernel

-- V-FA-1 to V-FA-26
theorem test_fpu_arithmetic :
    (givesF (.addD 2 4 6) (withF 0 0x3FB999999999999A 0x3FC999999999999A) 2 0x3FD3333333333334 0x00001004 &&
     givesF (.addS 2 4 6) (withF 0 0x3F800000 0x33800000) 2 0x3F800000 0x00001004 &&
     trapsF (.addD 2 4 6) (withF 0 0x3FF0000000000000 1) 0x00020000 && trapsF (.subS 2 4 6) (withF 0 0x00800000 0x00800001) 0x00020000 &&
     givesF (.mulD 2 4 6) (withF 0 0x7FE0000000000000 0x7FE0000000000000) 2 0x7FF0000000000000 0x00005014 &&
     givesF (.mulS 2 4 6) (withF 0 0xC0000000 0x40400000) 2 0xC0C00000 0 &&
     givesF (.divD 2 4 6) (withF 0 0xBFF0000000000000 0) 2 0xFFF0000000000000 0x00008020 &&
     givesF (.divS 2 4 6) (withF 0 0x3F800000 0x40400000) 2 0x3EAAAAAB 0x00001004 &&
     givesF (.sqrtD 2 4) (withF 0 0x4000000000000000 0) 2 0x3FF6A09E667F3BCD 0x00001004 &&
     givesF (.negS 2 4) (withF 0 0 0) 2 0x80000000 0 && trapsF (.negD 2 4) (withF 0 1 0) 0x00020000 &&
     givesF (.absD 2 4) (withF 0 0xBFF0000000000000 0) 2 0x3FF0000000000000 0) = true := by decide +kernel

-- V-FA-9 to V-FA-11: a tiny result flushed, FS = 1
theorem test_fpu_flush :
    (givesF (.subS 2 4 6) { withF 0 0x00800000 0x00800001 with fcsr := Fcsr.ofWord 0x01000000 } 2 0x80000000 0x0100300C &&
     givesF (.subS 2 4 6) { withF 0 0x00800000 0x00800001 with fcsr := Fcsr.ofWord 0x01000003 } 2 0x80800000 0x0100300F) =
      true := by decide +kernel

-- V-FA-28 to V-FA-40
theorem test_fpu_conversions :
    (givesF (.cvtWD 2 4) (withF 0 0xC1E0000000000000 0) 2 0x80000000 0 &&
     givesF (.roundWD 2 4) (withF 1 0x3FE0000000000000 0) 2 0 0x00001004 &&
     givesF (.floorLS 2 4) (withF 0 0xBF000000 0) 2 0xFFFFFFFFFFFFFFFF 0x00001004 &&
     givesF (.ceilLS 2 4) (withF 1 0xBF000000 0) 2 0 0x00001004 && givesF (.truncWS 2 4) (withF 1 0xBFC00000 0) 2 0xFFFFFFFF 0x00001004 &&
     givesF (.cvtSD 2 4) (withF 0 0x47F0000000000000 0) 2 0x7F800000 0x00005014 &&
     trapsF (.cvtDS 2 4) (withF 0 1 0) 0x00020000 && givesF (.cvtSW 2 4) (withF 0 0x01000001 0) 2 0x4B800000 0x00001004 &&
     givesF (.cvtDL 2 4) (withF 0 0x7FFFFFFFFFFFFFFF 0) 2 0x43E0000000000000 0x00001004 &&
     givesF (.cvtDW 2 4) (withF 0 0x80000000 0) 2 0xC1E0000000000000 0) = true := by decide +kernel

-- V-FA-41 to V-FA-47; 2 * 3 + 1 and the like, exact
theorem test_fpu_multiply_add :
    (givesF (.maddS 2 4 6) (withF 0x3F800000 0x40000000 0x40400000) 2 0x40E00000 0 &&
     givesF (.nmaddD 2 4 6) (withF 0 0 0x3FF0000000000000) 2 0x8000000000000000 0 &&
     givesF (.msubPs 2 4 6) (withF 0x3F80000040000000 0x4000000040400000 0x4040000040800000) 2 0x40A0000041200000 0 &&
     trapsF (.addPs 2 4 6) (withF 0 0x3F80000000000001 0x3F8000003F800000) 0x00020000 &&
     givesF (.mulPs 2 4 6) (withF 0 0x7F0000003F800000 0x4000000040000000) 2 0x7F80000040000000 0x00005014) = true := by decide +kernel

/-- The start with nothing in the physical addresses from 0x2004 to 0x2007, and a device from 0x3000 to 0x3FFF. -/
def holed : State :=
  { start with ramMap :=
      [{ base := 0x2004, size := 4, kind := .absent }, { base := 0x3000, size := 0x1000, kind := .device },
       { base := 0, size := 2 ^ 40, kind := .ram }] }

-- 60_exceptions.md R627: a load that reaches an absent address in one byte only; 20_memory.md R192: a store never does
theorem test_bus_errors :
    (raises (.ld 8 0 4) holed 7 && raises (.lw 8 4 4) holed 7 && gives (.lw 8 0 4) holed 8 0xFFFFFFFFBBAA9988 &&
     raises (.lw 8 0 4) { holed with cp0 := { holed.cp0 with configK0 := 3 } } 7 &&
     stores (.sd 9 0 4) (holed.setGpr 9 0x0102030405060708) 0x2000 4 0x05060708 &&
     after (step { holed with pc := 0xFFFFFFFF80002004 }) (fun t => t.cp0.cause.excCode == 6 && t.cp0.epc == 0xFFFFFFFF80002004)) =
      true := by decide +kernel

-- 00_scope.md R18: a device answers a load and takes a store; 60_exceptions.md R656: a write of the DDR configuration register
theorem test_devices :
    (after (exec (.lw 8 0x1000 4) holed) (fun t => t.pc == holed.pc + 4) &&
     after (exec (.sw 8 0x1000 4) holed) (fun t => t.pc == holed.pc + 4 && t.memory == holed.memory) &&
     after (exec (.sw 9 8 10) (with2 0xFFFFFFFF87654321 0xFFFFFFFFBFF00000)) (fun t =>
       t.ddrConfig == 0x87654321 && t.ddrReady && t.memory == bytesA)) = true := by decide +kernel

-- 40_loadstore.md R248: a gathered store above the bytes that LWL touches does not refuse it; 20_memory.md R166, R180
theorem test_gathered_and_linked :
    (gives (.lwl 8 1 4) { start.setGpr 8 0x11223344 with gather := [{ pa := 0x2002, size := 1, value := 5 }] } 8 0xFFFFFFFF99883344 &&
     refuses (.lw 8 0 4) { start with gather := [{ pa := 0x2003, size := 1, value := 5 }] } .gatheredLoad &&
     refuses (.sc 9 0 4) { cached with llBit := false, llPa := some 0x2004 } .linkedAddress) = true := by decide +kernel

-- 20_memory.md R165, R170: an uncached store races with the cached copy of its own bytes, until that copy is gone
theorem test_races :
    (after (exec (.sb 9 0 4) { cached with gprs := cached.gprs.set 4 0xFFFFFFFFA0002000 }) (fun t =>
       t.raced == [{ address := 0x2000, view := .uncached }] && (t.dropD 1024).raced == [] &&
       t.ownPlaces .uncached 0x2000 4 == [0] && t.otherPlaces (.cached 1) 0x2000 2 == [0, 1])) = true := by decide +kernel

/-- `cached` with the line of A also, unmodified, in the D-cache set of va 0x80005000 with VA[13:12] = 1. -/
def twoAliases : State :=
  { cached with
    raced := [], caches := { cached.caches with
      dcache := [(512, { lineA with dirty := false }), (1024, lineA)], l2 := [(1024, { tag := 0, state := .dirty, data := 3 })] } }

-- 20_memory.md R170, R196: a store through one alias, its line written back and loaded again: that alias reads its own byte, the
-- other one has two contents to choose from
theorem test_alias_race :
    (after (exec (.sb 9 0 4) (twoAliases.setGpr 9 0x55)) (fun t =>
      let u := t.cacheHitWriteBackInvalidateD 0xFFFFFFFF80002000 0x2000
      let copy : State := u.setDline 1025 { lineA with dirty := false, data := (u.l2line 1024).data }
      u.raced == [{ address := 0x2000, view := .cached 2 }] && copy.cachedValue 0xFFFFFFFF80002000 0x2000 1 0x55 == 0x55 &&
        copy.racingValues 0x1000 0x2000 1 0x88 [0] == [0x55])) = true := by decide +kernel

-- 20_memory.md R185, 70_reset_and_hazards.md R715: Index Invalidate (I) counts for its own VA[13:12], after the write-back, at SYNC
theorem test_code_sequence :
    (after (exec (.sw 9 0 4) (cached.setGpr 9 0x24080001)) (fun t =>
      let back := t.cacheHitWriteBackInvalidateD 0xFFFFFFFF80002000 0x2000
      let sync (u : State) : List (List View) := u.syncCode.code.map (·.settled)
      t.code.map (·.value) == [0xBBAA9988, 0x24080001] && sync t == [[], []] &&
        sync (t.cacheIndexInvalidateI 0xFFFFFFFF80002000) == [[], []] &&
        sync (back.cacheIndexInvalidateI 0xFFFFFFFF80001000) == [[.cached 1], [.cached 1]] &&
        sync (back.cacheIndexInvalidateI 0xFFFFFFFF80002000) == [[.cached 2], [.cached 2]])) =
      true := by decide +kernel

-- 20_memory.md R185, U33: a second store, after the whole sequence for VA[13:12] = 2: a fetch there returns the content before it or the
-- new one, not the one before the first store, which other fetches may still return
theorem test_code_second_store :
    (let l2 : List (Nat × L2Line) := [(1024, { tag := 0, state := .dirty, data := 3 })]
     after (exec (.sw 9 0 4) { cached.setGpr 9 0x24080001 with caches := { cached.caches with l2 := l2 } }) (fun t =>
      let back := t.cacheHitWriteBackInvalidateD 0xFFFFFFFF80002000 0x2000
      let synced := (back.cacheIndexInvalidateI 0xFFFFFFFF80002000).syncCode
      let filled := synced.setDline 1024 { lineA with dirty := false, data := (synced.l2line 1024).data }
      after (exec (.sw 9 0 4) (filled.setGpr 9 0x24080002)) (fun u =>
        u.versionsFor (.cached 2) 0x2000 == [0x24080001, 0x24080002] &&
          (u.versionsFor (.cached 1) 0x2000).contains 0xBBAA9988))) = true := by decide +kernel

-- 70_reset_and_hazards.md R715: after an attribute-7 store and SYNC alone, with no copy held, the race stays for cached fetches
theorem test_code_past_caches :
    (after (exec (.sw 9 0 4) ((start.setGpr 4 0xB800000000002000).setGpr 9 0x24080001)) (fun t =>
      (t.drainGather.syncCode.code.map fun v => (v.value, v.settled)) == [(0xBBAA9988, [.uncached]), (0x24080001, [.uncached])])) =
      true := by decide +kernel

-- 92_eei_decisions.md D32: a quiet NaN converted to W is invalid
theorem test_quiet_nan_to_word :
    FpFormat.single.toInteger 32 0 0 0x7FA00000 = { cause := causeV, bits := 0 } := by decide +kernel

-- 60_exceptions.md R642: a write of Cause that makes request IP[1] leaves the delay of a pending IP[0] alone
theorem test_soft_interrupt :
    (let s : State := { start with softDelay0 := 0, cp0 := { start.cp0 with cause := { start.cp0.cause with softIp := 1 } } }
     after (exec (.mtc0 9 13) (s.setGpr 9 0x300)) (fun t => t.softDelay0 == 0 && t.cp0.cause.softIp == 3)) = true := by
  decide +kernel

-- The host's two questions, on one word: the decoder's answer, and the first instruction after reset (LUI r8, 0x8000)
theorem test_first_instruction :
    decodeTableWord 32 0x3C088000 = some (.lui 8 0x8000) ∧
    after (step (State.reset.withFetchWord 32 0x3C088000)) (fun t =>
      t.gpr 8 == 0xFFFFFFFF80000000 && t.pc == 0xFFFFFFFFBFC00004) = true := by decide +kernel


-- 10_state.md R36, 92_eei_decisions.md D21: the last word of ckseg0 stops, the word before it goes on
theorem test_flow_leaves_ckseg0 :
    refuses (.daddiu 8 0 1) { start with pc := 0xFFFFFFFF9FFFFFFC } .leavesSegment = true ∧
    after (exec (.daddiu 8 0 1) { start with pc := 0xFFFFFFFF9FFFFFF8 }) (fun t => t.pc == 0xFFFFFFFF9FFFFFFC) = true := by
  decide +kernel

-- 20_memory.md R155, D31: TLBWI beside a written valid entry of another size stops; beside one that nothing has written it completes
theorem test_page_sizes_at_tlbwi :
    (let s : State := { mapped with cp0 := { mapped.cp0 with pageMask := 0, index := 9 } }
     refuses .tlbwi { s with tlbWritten := s.tlbWritten.set 7 true } .mixedPageSizes &&
     after (exec .tlbwi s) (fun t => t.tlbWritten[9] && !t.tlbWritten[7])) = true := by decide +kernel

/-- `cached` with a map that does not describe the line. -/
def undescribed : State := { cached with ramMap := [{ base := 0, size := 0x2000, kind := .ram }] }

-- 20_memory.md R192, D26: an access that hits a line outside RAM_MAP stops
theorem test_undescribed_hit :
    (refuses (.ld 8 0 4) undescribed .undescribedAddress && refuses (.sd 8 0 4) undescribed .undescribedAddress) = true := by
  decide +kernel
/-! ## Witnesses: for every statement with hypotheses, states and operands that meet them, at the ends of their ranges -/

/-- The last pc that sequential execution does not carry out of ckseg3, past the top of the address space. -/
def lastPc : State := { start with pc := 0xFFFFFFFFFFFFFFF8 }

/-- A state in the delay slot of a taken branch, CP0 and CP1 usable. -/
def inSlot : State := { start with delay := .slot (some 0xFFFFFFFF80001010) }

/-- User mode, nothing usable. -/
def user : State := withStatus { status0 with cu := 0, ksu := 2 }

/-- Supervisor mode, nothing usable. -/
def supervisor : State := withStatus { status0 with cu := 0, ksu := 1 }

/-- LUI r8, 0x8000 at B in RAM. -/
def fetching (word : List Host.Cell) : State := { start with memory := word }

/-- Interrupts enabled under a mask. -/
def enabled (mask : BitVec 8) : State := withStatus { status0 with im := mask, ie := true }

theorem witness_DecodeOfEncode :
    (Instr.jalr 30 31).wf = true ∧ (Instr.cache 31 0xFFFF 31).wf = true ∧ (Instr.ctc1 31 31).wf = true := by decide

theorem witness_EncodeOfDecode : decode 0xFFFFFFFF#32 = .instr (.sd 31 0xFFFF 31) ∧ decode 0#32 = .instr (.sll 0 0 0) :=
  ⟨rfl, rfl⟩

/-- Words of opcode COP0: listed ones; an unlisted selector and function, a 1 in a field that must be zero. -/
theorem witness_Cop0Words :
    decode 0x42000018#32 = .instr .eret ∧ decode 0x40026000#32 = .instr (.mfc0 2 12) ∧ decode 0x40BFF000#32 = .instr (.dmtc0 31 30) ∧
    decode 0x40400000#32 = .cop0Other ∧ decode 0x42000003#32 = .cop0Other ∧ decode 0x42000041#32 = .cop0Other ∧
    decode 0x43000001#32 = .cop0Other ∧ decode 0x40026001#32 = .cop0Other ∧ decode 0x40026400#32 = .cop0Other := by
  and_intros <;> rfl

/-- Words of opcode COP1, in the same way: a format, a condition code field, a function, a format that a function does not have, and a
1 in bits 20:16, 10:6 and 10:0. -/
theorem witness_Cop1Words :
    decode 0x45030000#32 = .instr (.bc1tl 0) ∧ decode 0x4600003F#32 = .instr (.cNgtS 0 0) ∧ decode 0x46A00021#32 = .instr (.cvtDL 0 0) ∧
    decode 0x46E00000#32 = .cop1Other ∧ decode 0x45040000#32 = .cop1Other ∧ decode 0x46000010#32 = .cop1Other ∧
    decode 0x46200021#32 = .cop1Other ∧ decode 0x46010004#32 = .cop1Other ∧ decode 0x46000072#32 = .cop1Other ∧
    decode 0x44020001#32 = .cop1Other := by
  and_intros <;> rfl

/-- The ends of the lists, the fields that must be zero at their lowest bit, and each unit usable and not. -/
theorem witness_ReservedAndRefusedWords :
    (opOf 0x4C000000#32).toNat ∈ [19, 28, 29, 30, 51, 59] ∧ (opOf 0xEFFFFFFF#32).toNat ∈ [19, 28, 29, 30, 51, 59] ∧
    ((opOf 1#32).toNat = 0 ∧ (functOf 1#32).toNat ∈ [1, 5, 14, 21, 40, 41, 53, 55, 57, 61]) ∧
    ((opOf 0x041F0000#32).toNat = 1 ∧
      (rtOf 0x041F0000#32).toNat ∈ [4, 5, 6, 7, 13, 15, 20, 21, 22, 23, 24, 25, 26, 27, 28, 29, 30, 31]) ∧
    (functOf 0x0000000B#32).toNat = 11 ∧ rsOf 0x0020003F#32 ≠ 0 ∧ saOf 0x0000006F#32 ≠ 0 ∧ rdOf 0x00000818#32 ≠ 0 ∧
    (opOf 0x7C000058#32).toNat = 31 ∧ saOf 0x7C000058#32 ≠ 0 ∧
    (functOf 0x7C000000#32).toNat ∉ [24, 25, 26, 27, 28, 29, 30, 31, 34, 35, 38, 39] ∧
    ((opOf 0x5C010000#32).toNat = 23 ∧ rtOf 0x5C010000#32 ≠ 0) ∧ ((opOf 0x3C200000#32).toNat = 15 ∧ rsOf 0x3C200000#32 ≠ 0) ∧
    start.cp0Usable = true ∧ start.cp1Usable = true ∧ user.cp0Usable = false ∧ user.cp1Usable = false := by decide +kernel

/-- A next state, a refusal (LL in uncached space) and a fault (TLBP with 64 matches) of a fetched instruction. -/
theorem witness_StepRunsDecodedInstruction :
    (fetching [(0x1000, 0x00), (0x1001, 0x80), (0x1002, 0x08), (0x1003, 0x3C)]).Quiet ∧
    (∃ s, s = fetching [(0x1000, 0x00), (0x1001, 0x80), (0x1002, 0x08), (0x1003, 0x3C)] ∧ s.fetch = .ok 0x3C088000 s ∧
      decode 0x3C088000 = .instr (.lui 8 0x8000) ∧ after (exec (.lui 8 0x8000) s) (fun _ => true) = true) ∧
    (∃ s, s = fetching [(0x1000, 0x00), (0x1001, 0x00), (0x1002, 0x88), (0x1003, 0xC0)] ∧ s.fetch = .ok 0xC0880000 s ∧
      decode 0xC0880000 = .instr (.ll 8 0 4) ∧ exec (.ll 8 0 4) s = .refused .linkedUncached) ∧
    (∃ s, s = fetching [(0x1000, 0x08), (0x1001, 0x00), (0x1002, 0x00), (0x1003, 0x42)] ∧ s.fetch = .ok 0x42000008 s ∧
      decode 0x42000008 = .instr .tlbp ∧ exec .tlbp s = .fault .multipleTlbMatch) :=
  ⟨⟨rfl, rfl, rfl, by decide +kernel, rfl, rfl⟩, ⟨_, rfl, rfl, rfl, by decide +kernel⟩, ⟨_, rfl, rfl, rfl, rfl⟩, ⟨_, rfl, rfl, rfl, rfl⟩⟩

/-- The invariant from what can be evaluated. -/
theorem inv_of (s : State) (window : s.countIdle = 0)
    (h : Memory.wf s.memory = true ∧ Lines.sorted s.caches.icache = true ∧ Lines.sorted s.caches.dcache = true ∧
      Lines.sorted s.caches.l2 = true ∧ (∀ p ∈ s.caches.icache, p.1 < 2048) ∧ (∀ p ∈ s.caches.dcache, p.1 < 2048) ∧
      (∀ p ∈ s.caches.l2, p.1 < 16384) ∧ s.cp0.wired.toNat ≤ s.cp0.random.toNat ∧ s.gatheredBytes < 32) : s.Inv := by
  obtain ⟨memory, icache, dcache, l2, icacheLines, dcacheLines, l2Lines, random, gather⟩ := h
  exact { memory, icache, dcache, l2, icacheLines, dcacheLines, l2Lines, random, gather, count := window ▸ Nat.zero_le _ }

theorem witness_EndOfStepFrame :
    ({ start with randomHold := true, timerIp := true } : State).Inv ∧ start.cp0.perfControl.enables = 0 :=
  ⟨inv_of _ rfl (by decide +kernel), by decide +kernel⟩

/-- ckseg0 cached, and nothing in the caches. -/
def cold : State := { start with cp0 := { start.cp0 with configK0 := 3 } }

theorem inMemory_of (s : State) (pa : PAddr) (n : Nat)
    (h : ∀ i ∈ List.range n, s.isMemory (pa + BitVec.ofNat 40 i).toNat = true) : s.inMemory pa n :=
  fun i hi => h i (List.mem_range.mpr hi)

theorem inRam_of (s : State) (pa : PAddr) (n : Nat)
    (h : ∀ i ∈ List.range n, s.takesStores (pa + BitVec.ofNat 40 i).toNat = true) : s.inRam pa n :=
  fun i hi => h i (List.mem_range.mpr hi)

/-- As `cold`, the L2 alone holding the line of A, unmodified or not. -/
def below (state : L2State) : State :=
  { cold with caches := { cold.caches with l2 := [(1025, { tag := 0, state := state, data := 7 })] } }

/-- As `cold`, every L2 way that could take the line of A holding another line, and one of those in both L1 caches too. -/
def crowded : State :=
  { cold with caches := { cold.caches with
      icache := [(1024, { tag := 0x22, valid := true, data := 0 })]
      dcache := [(1026, { lineA with tag := 0x22, dirty := false })]
      l2 := (List.range 4).map fun i => (1024 + i, { tag := BitVec.ofNat 23 (1 + i), state := .clean 1, data := 7 }) } }

/-- A line that the L2 holds. -/
theorem belowReady_hit (s : State) (pa : PAddr) (j : Nat) (h : s.l2Hits pa = [j]) : s.belowReady pa := .inl ⟨j, h⟩

/-- A line that has to come from memory, from what can be evaluated. -/
theorem belowReady_fill (s : State) (pa : PAddr)
    (h : s.l2Hits pa = [] ∧ (∀ i ∈ List.range 32, s.isMemory (lineBase pa + BitVec.ofNat 40 i).toNat = true) ∧
      ∀ way ∈ List.range 4, ∀ i ∈ List.range 32,
        s.takesStores (s.l2lineBase (lineKey (l2Set pa) way) + BitVec.ofNat 40 i).toNat = true) : s.belowReady pa :=
  .inr ⟨h.1, inMemory_of _ _ _ h.2.1, fun way hw _ => inRam_of _ _ _ (h.2.2 way (List.mem_range.mpr hw))⟩

/-- The four ways of a D-cache set modified, in line with the L2, which misses the line of A or holds it in way 0; the L2 lines that
could be replaced are modified too. -/
def replacing (holds : Bool) : State :=
  { cold with caches := { cold.caches with
      dcache := [(1024, { lineA with tag := if holds then 6 else 0x82 }), (1025, { lineA with tag := 0x22 }),
        (1026, { lineA with tag := 0x42 }), (1027, { lineA with tag := 0x62 })]
      l2 := (1024, { tag := if holds then 0 else 4, state := .dirty, data := 7 }) ::
        (List.range 3).map (fun i => (1025 + i, { tag := BitVec.ofNat 23 (1 + i), state := .dirty, data := 7 })) ++
        [(3072, { tag := 0, state := .clean 1, data := 7 })] } }

/-- Past the caches; a hit; misses that the L2 answers, that memory answers, and that replace a line in all three caches. -/
theorem witness_FetchesReadTheWord :
    (start.passesUncached .fetch start.pc 4 0x1000 ∧ start.inMemory 0x1000 4 ∧ start.unmodified 0x1000 ∧
      start.codeSettled .uncached 0x1000) ∧
    (let s : State := { cached with
        pc := 0xFFFFFFFF8000201C
        code := [{ word := 0x807, value := 7, past := false, pushed := true, invalidated := [2], settled := [.cached 2] }] }
     s.translateAligned .fetch s.pc 4 = .pass (0x201C, 3) ∧ s.iHits (l1Set s.pc) 0x201C = [1024] ∧
       s.codeSettled (cachedView s.pc) 0x201C) ∧
    (∀ s ∈ [cold, below .dirty, crowded, replacing false], let t : State := { s with pc := 0xFFFFFFFF80002000 }
      t.translateAligned .fetch t.pc 4 = .pass (0x2000, 3) ∧ t.iHits (l1Set t.pc) 0x2000 = [] ∧
        t.codeSettled (cachedView t.pc) 0x2000) ∧
    cold.belowReady 0x2000 ∧ (below .dirty).belowReady 0x2000 ∧ crowded.belowReady 0x2000 ∧ (replacing false).belowReady 0x2000 ∧
    crowded.goneWith 0x2000 1024 crowded.iCopies = [1024] ∧ crowded.goneWith 0x2000 1024 crowded.dCopies = [1026] := by
  unfold State.passesUncached State.unmodified State.codeSettled
  exact ⟨⟨by decide +kernel, inMemory_of _ _ _ (by decide +kernel), by decide +kernel⟩, by decide +kernel, by decide +kernel,
    belowReady_fill _ _ (by decide +kernel), belowReady_hit _ _ 1025 (by decide +kernel), belowReady_fill _ _ (by decide +kernel),
    belowReady_fill _ _ (by decide +kernel), by decide +kernel⟩

theorem witness_MisalignmentRaises :
    ({ start with pc := 0xFFFFFFFF80001003 } : State).Quiet ∧ (0xFFFFFFFF80001003 : Word).toNat % 4 ≠ 0 ∧
    start.delay = .none ∧ start.cp0.status.exl = false ∧
    ({ withStatus { status0 with exl := true } with pc := 0xFFFFFFFF80001002 } : State).Quiet ∧
    (withStatus { status0 with exl := true }).cp0.status.exl = true ∧
    (start.gpr 4 + BitVec.ofInt 64 (BitVec.toInt (0xFFFF : BitVec 16))).toNat % 2 ≠ 0 ∧
    (start.gpr 4 + BitVec.ofInt 64 (BitVec.toInt (2 : BitVec 16))).toNat % 4 ≠ 0 ∧
    (start.gpr 4 + BitVec.ofInt 64 (BitVec.toInt (4 : BitVec 16))).toNat % 8 ≠ 0 ∧
    start.cp1Usable = true ∧ start.evenFprs [30] = true :=
  ⟨⟨rfl, rfl, rfl, by decide +kernel, rfl, rfl⟩, by decide, rfl, rfl, ⟨rfl, rfl, rfl, by decide +kernel, rfl, rfl⟩, rfl,
    by decide +kernel, by decide +kernel, by decide +kernel, rfl, by decide +kernel⟩

theorem witness_RegisterZero : (1 : RegNum) ≠ 0 ∧ (31 : RegNum) ≠ 0 ∧ (0 : RegNum) ≠ 31 := by decide

theorem witness_LogicAndShifts :
    start.leavesSegment = false ∧ lastPc.leavesSegment = false ∧
    ({ lastPc with pc := 0xFFFFFFFFFFFFFFFC, delay := .slot (some 0) } : State).leavesSegment = false ∧
    (with2 0xFFFFFFFF80000000 0x3F).leavesSegment = false ∧ isWord ((with2 0xFFFFFFFF80000000 0x3F).gpr 9) = true := by decide +kernel

/-- Words at both ends, and for the shifts and multiplications too. -/
theorem witness_WrappingSums :
    (with2 0x7FFFFFFF 0xFFFFFFFF80000000).leavesSegment = false ∧ isWord ((with2 0x7FFFFFFF 0xFFFFFFFF80000000).gpr 9) = true ∧
    isWord ((with2 0x7FFFFFFF 0xFFFFFFFF80000000).gpr 10) = true ∧ isWord 0x80000000 = false := by decide +kernel

/-- Sums that just fit and that just do not, at both ends, of words and of doublewords. -/
theorem witness_TrappingSums :
    (let s := with2 0x7FFFFFFE 1
     isWord (s.gpr 9) = true ∧ isWord (s.gpr 10) = true ∧ (s.gpr 9).toInt + (s.gpr 10).toInt = 2 ^ 31 - 1 ∧ s.leavesSegment = false) ∧
    (let s := with2 0x7FFFFFFF 1
     isWord (s.gpr 9) = true ∧ isWord (s.gpr 10) = true ∧ (s.gpr 9).toInt + (s.gpr 10).toInt = 2 ^ 31) ∧
    (let s := with2 0xFFFFFFFF80000001 1
     isWord (s.gpr 9) = true ∧ isWord (s.gpr 10) = true ∧ (s.gpr 9).toInt - (s.gpr 10).toInt = -2 ^ 31) ∧
    (let s := with2 0xFFFFFFFF80000000 1
     isWord (s.gpr 9) = true ∧ isWord (s.gpr 10) = true ∧ (s.gpr 9).toInt - (s.gpr 10).toInt = -2 ^ 31 - 1) ∧
    (let s := with2 0x7FFFFFFFFFFFFFFF 1
     (s.gpr 9).toInt + (s.gpr 10).toInt = 2 ^ 63 ∧ (s.gpr 9).toInt - (s.gpr 10).toInt = 2 ^ 63 - 2) ∧
    (let s := with2 0x8000000000000000 1
     (s.gpr 9).toInt - (s.gpr 10).toInt = -2 ^ 63 - 1 ∧ (s.gpr 9).toInt + (s.gpr 10).toInt = -2 ^ 63 + 1) := by decide +kernel

theorem witness_Multiplications :
    (with2 0xFFFFFFFF80000000 0x7FFFFFFF).leavesSegment = false ∧ isWord ((with2 0xFFFFFFFF80000000 0x7FFFFFFF).gpr 9) = true ∧
    isWord ((with2 0xFFFFFFFF80000000 0x7FFFFFFF).gpr 10) = true := by decide +kernel

/-- Divisors 1 and -1 beside the most negative word and doubleword. -/
theorem witness_Divisions :
    (let s := with2 0xFFFFFFFF80000000 1
     isWord (s.gpr 9) = true ∧ isWord (s.gpr 10) = true ∧ s.gpr 10 ≠ 0 ∧ ¬((s.gpr 9).toInt = -2 ^ 31 ∧ (s.gpr 10).toInt = -1) ∧
       (s.gpr 10).toNat % 2 ^ 32 ≠ 0 ∧ s.leavesSegment = false) ∧
    (let s := with2 0x8000000000000001 0xFFFFFFFFFFFFFFFF
     s.gpr 10 ≠ 0 ∧ ¬((s.gpr 9).toInt = -2 ^ 63 ∧ (s.gpr 10).toInt = -1)) := by decide +kernel

theorem witness_JumpsAndBranches :
    start.delay = .none ∧ start.leavesAfter 4 = false ∧ lastPc.delay = .none ∧ lastPc.leavesAfter 4 = false ∧ (8 : RegNum) ≠ 9 ∧
    (30 : RegNum) ≠ 31 := by decide +kernel

/-- Taken and not taken, at the last pc the forms reach. -/
theorem witness_LikelyAndFpBranches :
    ({ start with pc := 0xFFFFFFFFFFFFFFF4 } : State).delay = .none ∧
    ({ start with pc := 0xFFFFFFFFFFFFFFF4 } : State).leavesAfter 8 = false ∧
    lastPc.leavesAfter 4 = false ∧
    (with2 5 5).gpr 9 = (with2 5 5).gpr 10 ∧ (with2 5 6).gpr 9 ≠ (with2 5 6).gpr 10 ∧ ((with2 0 0).gpr 9).toInt ≤ 0 ∧
    0 < ((with2 1 0).gpr 9).toInt ∧ ((with2 0xFFFFFFFFFFFFFFFF 0).gpr 9).toInt < 0 ∧ 0 ≤ ((with2 0 0).gpr 9).toInt ∧
    (30 : RegNum) ≠ 31 ∧ start.cp1Usable = true ∧ start.fcsr.cc0 = false ∧ (Fcsr.ofWord 0x00800000).cc0 = true := by decide +kernel

theorem witness_DelaySlotThenTarget :
    (with2 5 5).delay = .none ∧ (with2 5 5).leavesAfter 4 = false ∧ (with2 5 5).gpr 9 = (with2 5 5).gpr 10 ∧ (31 : RegNum) ≠ 0 := by
  decide +kernel

/-- The last and the first words of segments, and the addresses beside them that no segment holds. -/
theorem witness_SegmentRanges :
    [0, 0xFFFFFFFFFC, 0x4000000000000000, 0x400000FFFFFFFFFC, 0x8000000000000000, 0xB80000FFFFFFFFFC, 0xC000000000000000,
      0xC00000FF7FFFFFFC, 0xFFFFFFFF80000000, 0xFFFFFFFF9FFFFFFC, 0xFFFFFFFFA0000000, 0xFFFFFFFFBFFFFFFC, 0xFFFFFFFFC0000000,
      0xFFFFFFFFDFFFFFFC, 0xFFFFFFFFE0000000, 0xFFFFFFFFFFFFFFFC].map segmentName =
      [.xuseg, .xuseg, .xsseg, .xsseg, .xkphys, .xkphys, .xkseg, .xkseg, .ckseg0, .ckseg0, .ckseg1, .ckseg1, .csseg, .csseg,
        .ckseg3, .ckseg3] ∧
    [0x10000000000, 0x3FFFFFFFFFFFFFFC, 0x4000010000000000, 0x7FFFFFFFFFFFFFFC, 0x8000010000000000, 0xBFFFFFFFFFFFFFFC,
      0xC00000FF80000000, 0xFFFFFFFF7FFFFFFC].all (segmentName · == .gap) = true := by decide +kernel

/-- The last word of ckseg0, of xuseg and of the address space, and the word before it for a branch-likely. -/
theorem witness_FlowStaysInSegment :
    ([0xFFFFFFFF9FFFFFFC, 0xFFFFFFFFFC, 0xFFFFFFFFFFFFFFFC].all fun pc =>
      segmentName (pc + 4) != segmentName pc && segmentName (pc - 4 + 8) != segmentName (pc - 4)) = true ∧
    start.delay = .none ∧ (∀ target, start.delay ≠ .slot (some target)) ∧ inSlot.delay = .slot (some 0xFFFFFFFF80001010) ∧
    (with2 5 6).gpr 9 ≠ (with2 5 6).gpr 10 ∧ (with2 5 5).gpr 9 = (with2 5 5).gpr 10 := by
  refine ⟨by decide +kernel, by decide +kernel, ?_, by decide +kernel, by decide +kernel, by decide +kernel⟩
  intro target h
  exact absurd (show (Delay.none : Delay) = .slot (some target) from h) (by simp)

theorem witness_BranchRefusals :
    inSlot.inDelaySlot = true ∧ ({ start with delay := .slot .none } : State).inDelaySlot = true ∧ inSlot.cp1Usable = true ∧
    inSlot.cp0Usable = true ∧ start.delay = .none := by decide +kernel

theorem witness_SystemCallsAndTraps :
    start.leavesSegment = false ∧
    ((with2 5 5).gpr 10).toInt ≤ ((with2 5 5).gpr 9).toInt ∧ ¬((with2 4 5).gpr 10).toInt ≤ ((with2 4 5).gpr 9).toInt ∧
    (with2 5 5).gpr 9 = (with2 5 5).gpr 10 ∧ (with2 4 5).gpr 9 ≠ (with2 4 5).gpr 10 ∧
    ((with2 4 5).gpr 9).toNat < ((with2 4 5).gpr 10).toNat := by decide +kernel

/-- From level 0 in and out of a slot, from level 1, a refill, a coprocessor unusable and an interrupt. -/
theorem witness_ExceptionEntry :
    start.cp0.status.exl = false ∧ start.delay = .none ∧ inSlot.cp0.status.exl = false ∧ inSlot.delay ≠ .none ∧
    (withStatus { status0 with exl := true }).cp0.status.exl = true ∧ (Exc.tlbRefill true 0).isRefill = true ∧
    Exc.interrupt.isRefill = false ∧ Exc.coprocessorUnusable 3 = .coprocessorUnusable 3 ∧
    (∀ va, Exc.interrupt ≠ .tlbModified va ∧
      ∀ store, Exc.interrupt ≠ .tlbRefill store va ∧ Exc.interrupt ≠ .tlbInvalid store va ∧ Exc.interrupt ≠ .addressError store va) :=
  ⟨rfl, rfl, rfl, by decide +kernel, rfl, rfl, rfl, rfl, fun _ => ⟨by simp, fun _ => ⟨by simp, by simp, by simp⟩⟩⟩

theorem witness_TlbExceptionRegisters :
    Exc.tlbModified 0xFFFFFFFFFFFFFFFF ∈ [Exc.tlbModified 0xFFFFFFFFFFFFFFFF, .tlbRefill true 0xFFFFFFFFFFFFFFFF, .tlbInvalid true 0xFFFFFFFFFFFFFFFF] ∧
    Exc.tlbInvalid true 0 ∈ [Exc.tlbModified 0, .tlbRefill true 0, .tlbInvalid true 0] := by decide

theorem witness_EretReturns :
    (let s := withStatus { status0 with erl := true, exl := true }
     s.cp0Usable = true ∧ s.delay = .none ∧ s.cp0.status.erl = true) ∧
    (let s := withStatus { status0 with ksu := 2, cu := 1 }
     s.cp0Usable = true ∧ s.delay = .none ∧ s.cp0.status.erl = false) ∧
    user.cp0.status.exl = false ∧ user.cp0.status.erl = false ∧ inSlot.cp0.status.exl = false ∧ inSlot.cp0.status.erl = false := by
  decide +kernel

theorem witness_UnusableCoprocessorTraps :
    isPrivileged .eret = true ∧ isPrivileged (.cache 2 0 4) = true ∧ isPrivileged (.mtc0 8 25) = true ∧
    isPrivileged (.mfc0 8 24) = false ∧ user.mode ≠ .kernel ∧ supervisor.mode ≠ .kernel ∧
    user.cp0.status.cu.getLsbD 0 = false ∧ usesFpu (.sdc1 31 0 4) = true ∧ usesFpu (.cFS 0 0) = true ∧
    user.cp0.status.cu.getLsbD 1 = false := by decide +kernel

/-- One software request alone, enabled, with no delay left, the other request with one. -/
def software (n : Fin 2) : State :=
  let s := enabled (if n = 0 then 1 else 2)
  { s with cp0 := { s.cp0 with cause := { s.cp0.cause with softIp := if n = 0 then 1 else 2 } }
           softDelay0 := if n = 0 then 0 else 1, softDelay1 := if n = 1 then 0 else 1 }

/-- Requests 2 and 7; held by each of the four conditions. -/
theorem witness_InterruptsTakenOrHeld :
    (let s := { enabled 0x04 with pins := { start.pins with interrupts := 1 } }
     s.pins.coldReset = false ∧ s.pins.softReset = false ∧ s.pins.nmi = false ∧ s.mode ≠ .undefined ∧ s.watchDue = false ∧
       s.cp0.status.ie = true ∧ s.cp0.status.exl = false ∧ s.cp0.status.erl = false ∧
       ReadyRequest s 2) ∧
    (let s := { enabled 0x80 with timerIp := true }
     s.mode ≠ .undefined ∧ s.watchDue = false ∧ ReadyRequest s 7) ∧
    (∀ n : Fin 2, (software n).mode ≠ .undefined ∧ (software n).watchDue = false ∧ (software n).cp0.status.ie = true ∧
      ReadyRequest (software n) n) ∧
    (∀ n < 8, ¬ReadyRequest { software 0 with softDelay0 := 1 } n) ∧
    start.cp0.status.ie = false ∧ (withStatus { status0 with exl := true }).cp0.status.exl = true ∧
    (withStatus { status0 with erl := true }).cp0.status.erl = true ∧
    (∀ n < 8, ¬ReadyRequest { enabled 0x7F with timerIp := true } n) :=
  ⟨by decide +kernel, by decide +kernel, by decide +kernel, by decide +kernel, rfl, rfl, rfl, by decide +kernel⟩

theorem witness_TimerRequest :
    start.cp0Usable = true ∧ start.leavesSegment = false ∧
    ∃ s, s = { fetching [(0x1000, 0x00), (0x1001, 0x80), (0x1002, 0x08), (0x1003, 0x3C)] with timerIp := true } ∧ s.timerIp = true ∧
      s.pins.coldReset = false ∧
      (∀ u w rt, s.fetch = .ok w u → decode w ≠ .instr (.mtc0 rt 11) ∧ decode w ≠ .instr (.dmtc0 rt 11)) ∧
      after (step s) (fun _ => true) = true := by
  refine ⟨by decide +kernel, by decide +kernel, _, rfl, rfl, rfl, fun u w rt h => ?_, by decide +kernel⟩
  have hw : w = 0x3C088000 := (Run.ok.inj (h.symm.trans (show _ = Run.ok (0x3C088000 : Word32) _ from rfl))).1
  rw [hw, show decode 0x3C088000 = .instr (.lui 8 0x8000) from rfl]
  exact ⟨by simp, by simp⟩

/-- A gathered store waits at a soft reset and at an NMI. -/
theorem witness_ResetsAndNmi :
    (∀ soft nmi cold : Bool,
      let s : State := { start with
        gather := [{ pa := 0x2000, size := 8, value := 7 }]
        pins := { start.pins with softReset := soft, nmi := nmi, coldReset := cold } }
      s.pins.softReset = soft ∧ s.pins.nmi = nmi ∧ s.pins.coldReset = cold) ∧ start.gather = [] := by decide +kernel

theorem witness_Cp0Reads :
    start.leavesSegment = false ∧ cp0Named 0 = true ∧ cp0Named 30 = true ∧ start.cp0Usable = true ∧ user.leavesSegment = false ∧
    cp0Named 24 = true ∧ cp0Named 25 = true := by decide +kernel

/-- Words that meet every mask and a value that is no word; values at the ends of the writable fields; EntryLo values for each of the
four cases. -/
theorem witness_Cp0Writes :
    (start.cp0Usable = true ∧ start.leavesSegment = false ∧ isWord 0xFFFFFFFF80000000 = true ∧ isWord 0x80000000 = false ∧
      (0xFFFFFFFFFF800000 : Word).extractLsb' 0 32 &&& 0xF = 0 ∧ (0x01FFE000 : Word).extractLsb' 0 32 &&& 0xFE001FFF = 0 ∧
      (0x3F : Word).extractLsb' 0 32 &&& 0xFFFFFFC0 = 0 ∧ (0xFFFFFFFFF450FFFF : Word).extractLsb' 0 32 &&& 0x0BAF0000 = 0 ∧
      isWord 0xFFFFFFFFFF800000 = true ∧ isWord 0x01FFE000 = true ∧ isWord 0xFFFFFFFFF450FFFF = true ∧
      (0xFFFFFFFF8000003F : Word).extractLsb' 0 32 &&& 0x7FFFFFC0 = 0 ∧ isWord 0xFFFFFFFF8000003F = true ∧
      (0x37 : Word).extractLsb' 0 32 &&& 0x38 = 0x30 ∧ (0x3FFFFFFFF : Word).toNat / 2 ^ 34 = 0) ∧
    (∃ v : Word, v.toNat / 2 ^ 34 = 2 ^ Config.entryLoEOffset.val) ∧
    ∃ v : Word, v.toNat / 2 ^ 34 ≠ 0 ∧ v.toNat / 2 ^ 34 ≠ 2 ^ Config.entryLoEOffset.val := by
  have placed : ∀ o : Fin 30, (BitVec.ofNat 64 (2 ^ o.val * 2 ^ 34)).toNat / 2 ^ 34 = 2 ^ o.val := by decide
  have other : ∀ o : Fin 30, 3 ≠ 2 ^ o.val := by decide
  exact ⟨by decide +kernel, ⟨_, placed _⟩, 0xC00000000, by decide, other _⟩

/-- The mapped state, its entry written, and PageMask changed since. -/
def resized : State := { mapped with tlbWritten := mapped.tlbWritten.set 7 true, cp0 := { mapped.cp0 with pageMask := 0 } }

/-- Sizes that agree, also where nothing is written, and sizes that differ. -/
theorem witness_TlbWriteSizes : start.sizesFit 0 ∧ mapped.sizesFit 63 ∧ resized.sizesFit 7 ∧ ¬resized.sizesFit 8 :=
  ⟨by decide +kernel, by decide +kernel, by decide +kernel, by decide +kernel⟩

/-- Both ends of the legal masks; one entry that matches EntryHi, and none. -/
theorem witness_TlbInstructions :
    start.cp0Usable = true ∧ start.leavesSegment = false ∧ pageMaskLegal 0 = true ∧ pageMaskLegal 0xFFF = true ∧
    start.stepped.leavesSegment = false ∧
    (∀ j : Fin 64, (mapped.tlb[j]).matchesHi mapped.cp0.entryHi = decide (j = 7)) ∧
    (let h : EntryHi := { r := 0, vpn2 := 0x7FFFFFFF, asid := 0xFF }
     ∀ j : Fin 64, (mapped.tlb[j]).matchesHi h = false) := by decide +kernel

theorem witness_CacheOperationsComplete :
    cached.cp0Usable = true ∧ cached.leavesSegment = false ∧ cacheOpListed 0 = true ∧ cacheOpListed 31 = true ∧
    cached.translate .load (cached.gpr 4 + BitVec.ofInt 64 (BitVec.toInt (0 : BitVec 16))) = .pass (0x2000, 3) ∧
    (BitVec.toNat (29 : BitVec 5)) ∉ [3, 23] := by decide +kernel

/-- The line of A in the L2 too, in a state, and the D-cache copy modified or not. -/
def inL2 (state : L2State) (dirty : Bool) : State :=
  { cached with caches := { cached.caches with
      dcache := [(1024, { lineA with dirty := dirty })], l2 := [(1024, { tag := 0, state := state, data := 5 })] } }

/-- A hit and a miss; a modified line that the L2 does not hold, and one that it holds; an unmodified and an invalid one. -/
theorem witness_CacheOnL1 :
    cached.cp0Usable = true ∧ cached.leavesSegment = false ∧
    cached.translate .load (cached.gpr 4 + BitVec.ofInt 64 (BitVec.toInt (0 : BitVec 16))) = .pass (0x2000, 3) ∧
    cached.dHits (l1Set 0xFFFFFFFF80002000) 0x2000 = [1024] ∧ cached.dHits (l1Set 0xFFFFFFFF80002020) 0x2020 = [] ∧
    ((cached.dline 1024).state.isValid = true ∧ (cached.dline 1024).dirty = true ∧ cached.l2Hits (cached.dlineBase 1024) = []) ∧
    (inL2 .dirty true).l2Hits ((inL2 .dirty true).dlineBase 1024) = [1024] ∧ ((inL2 .dirty false).dline 1024).dirty = false ∧
    (cached.dline 2047).state.isValid = false := by decide +kernel

/-- Invalid, missing; unmodified in both caches; modified in the L2 only; modified in the D-cache. -/
theorem witness_CacheOnL2 :
    cached.cp0Usable = true ∧ cached.leavesSegment = false ∧
    cached.translate .load (cached.gpr 4 + BitVec.ofInt 64 (BitVec.toInt (0 : BitVec 16))) = .pass (0x2000, 3) ∧
    (cached.l2line (l2Set 0x2000 * 4 + (0x2000 : PAddr).toNat % 4)).state = .invalid ∧ cached.l2Hits 0x2000 = [] ∧
    ((inL2 .dirty true).l2line (l2Set 0x2000 * 4 + (0x2000 : PAddr).toNat % 4)).state ≠ .invalid ∧
    (inL2 .dirty true).l2Hits 0x2000 = [1024] ∧
    (((inL2 (.clean 1) false).dCopies ((inL2 (.clean 1) false).l2lineBase 1024)).filter
        fun d => ((inL2 (.clean 1) false).dline d).dirty) = [] ∧
    ((inL2 (.clean 1) false).l2line 1024).state ≠ .dirty ∧
    (((inL2 .dirty false).dCopies ((inL2 .dirty false).l2lineBase 1024)).filter
        fun d => ((inL2 .dirty false).dline d).dirty) = [] ∧
    ((inL2 .dirty false).l2line 1024).state = .dirty ∧
    (((inL2 .dirty true).dCopies ((inL2 .dirty true).l2lineBase 1024)).filter
        fun d => ((inL2 .dirty true).dline d).dirty) = [1024] ∧
    (inL2 .dirty true).inRam ((inL2 .dirty true).l2lineBase 1024) 32 :=
  by unfold State.inRam; decide +kernel

/-- The first and last addresses of the segments that the statement names. -/
theorem witness_AddressSpaces :
    user.mode = .user ∧ supervisor.mode = .supervisor ∧ start.mode = .kernel ∧ 2 ^ 40 ≤ (0x10000000000 : Word).toNat ∧
    ¬(2 ^ 62 ≤ (0x4000010000000000 : Word).toNat ∧ (0x4000010000000000 : Word).toNat < 2 ^ 62 + 2 ^ 40) ∧
    ¬(0xFFFFFFFFC0000000 ≤ (0xFFFFFFFFE0000000 : Word).toNat ∧ (0xFFFFFFFFE0000000 : Word).toNat < 0xFFFFFFFFE0000000) ∧
    (2 ^ 40 ≤ (0x3FFFFFFFFFFFFFFF : Word).toNat ∧ (0x3FFFFFFFFFFFFFFF : Word).toNat < 2 ^ 62 ∧ start.cp0.status.erl = false) ∧
    (2 ^ 62 + 2 ^ 40 ≤ (0x7FFFFFFFFFFFFFFF : Word).toNat ∧ (0x7FFFFFFFFFFFFFFF : Word).toNat < 2 ^ 63) ∧
    (0xBFFFFFFFFFFFFFFF : Word).toNat / 2 ^ 40 % 2 ^ 19 ≠ 0 ∧
    (0xC00000FF80000000 ≤ (0xFFFFFFFF7FFFFFFF : Word).toNat ∧ (0xFFFFFFFF7FFFFFFF : Word).toNat < 0xFFFFFFFF80000000) ∧
    (0xB80000FFFFFFFFFF : Word).toNat / 2 ^ 40 % 2 ^ 19 = 0 ∧ (start.cp0.configK0 = 2 ∧ cached.cp0.configK0 = 3) ∧
    (0xB80000FFFFFFFFFF : Word).extractLsb' 59 3 = 7 ∧ (0x80000000FFFFFFFF : Word).extractLsb' 59 3 = 0 := by decide +kernel

/-- A state for translation: the entry of `mapped` with other pages, in the mapped user segment. -/
def withPage (p : TlbPage) : State :=
  { mapped with tlb := (Vector.replicate 64 { TlbEntry.zero with r := 2 }).set 63 { entry7 with page1 := p } }

/-- The found entries of a state for an address. -/
def foundAt (s : State) (va : Word) : List TlbEntry := s.tlb.toList.filter fun e => e.matchesVa s.cp0.entryHi.asid va

/-- va 0xFFFF, in the odd page of 16 KB: no match; clean; execute-inhibited; invalid; each usable attribute, and a reserved one. -/
theorem witness_TlbTranslation :
    (let s := withPage { e := true, pfn := 0xFFFFFFF, c := 3, d := false, v := true }
     s.mode ≠ .undefined ∧ s.cp0.status.erl = false ∧ (0xFFFF : Word).toNat < 2 ^ 40 ∧ (0xFFFFFFFFFF : Word).toNat < 2 ^ 40 ∧
       s.pageSizesAgree = true ∧ s.itlbStale = [] ∧ foundAt s 0xFFFFFFFFFF = [] ∧
       foundAt s 0xFFFF = [{ entry7 with page1 := { e := true, pfn := 0xFFFFFFF, c := 3, d := false, v := true } }] ∧
       (0xFFFF : Word).getLsbD (12 + maskBits entry7.mask) = true) ∧
    (∀ p ∈ ([.zero, { e := false, pfn := 0, c := 7, d := true, v := true }, { e := false, pfn := 5, c := 0, d := true, v := true }] :
        List TlbPage), (withPage p).pageSizesAgree = true ∧ foundAt (withPage p) 0xFFFF = [{ entry7 with page1 := p }]) ∧
    (0 : BitVec 12).toNat = 2 ^ 0 - 1 ∧ (0xFFF : BitVec 12).toNat = 2 ^ 12 - 1 := by
  decide +kernel

/-- The entry of the mapped states at another address. -/
def entryAt (r : BitVec 2) (vpn2 : BitVec 31) : TlbEntry := { entry7 with r := r, vpn2 := vpn2 }

/-- The mapped state with that entry in place 7 finds it, alone, at an address. -/
def findsAt (r : BitVec 2) (vpn2 : BitVec 31) (va : Word) : Bool :=
  foundAt { mapped with tlb := mapped.tlb.set 7 (entryAt r vpn2) } va == [entryAt r vpn2]

/-- One match in each of the other mapped segments. -/
theorem witness_TlbTranslationElsewhere :
    findsAt 1 4 0x4000000000008000 = true ∧ findsAt 1 0x7FFFFFC 0x400000FFFFFF8000 = true ∧
    findsAt 3 4 0xC000000000008000 = true ∧ findsAt 3 0x7FFFFFFC 0xFFFFFFFFFFFF8000 = true ∧
    findsAt 3 0x7FFE0004 0xFFFFFFFFC0008000 = true := by decide +kernel

/-- Two matches; page sizes that differ; a stale ITLB. -/
theorem witness_TlbTranslationStops :
    (let s : State := { mapped with tlb := mapped.tlb.set 6 entry7, itlbStale := [(entry7, 5)] }
     s.pageSizesAgree = true ∧ (foundAt s 0x8000).length = 2 ∧ s.mode ≠ .undefined ∧ s.cp0.status.erl = false ∧
       entry7.matchesVa 5 0x8000 = true ∧ entry7.page0.v = true) ∧
    (let s : State := { mapped with itlbStale := [({ entry7 with mask := 0 }, 5)] }
     s.pageSizesAgree = true ∧ s.staleTranslations 0x8000 = [.refuse .mixedPageSizes] ∧
       s.staleTranslations 0xC000 = [.refuse .mixedPageSizes]) ∧
    (mapped.cp0Usable = true ∧ mapped.leavesSegment = false ∧ pageMaskLegal mapped.cp0.pageMask = true) ∧
    ({ mapped with tlb := mapped.tlb.set 5 { entry7 with mask := 0 } } : State).pageSizesAgree = false := by decide +kernel

/-- `UncachedLoad` from what can be evaluated. -/
theorem uncachedLoad_of (s : State) (va : Word) (n : Nat) (pa : PAddr)
    (h : (s.translateAligned .load va n = .pass (pa, 2) ∨ s.translateAligned .load va n = .pass (pa, 7)) ∧
      s.watched .load pa = false ∧ s.gathered pa n = false ∧
      (∀ i ∈ List.range n, s.isMemory (pa + BitVec.ofNat 40 i).toNat = true) ∧
      (∀ k ∈ s.touchedD pa, (s.dline k).dirty = false) ∧ ∀ k ∈ s.touchedL2 pa, (s.l2line k).state.isDirty = false) :
    UncachedLoad s va n pa :=
  ⟨h.1, h.2.1, h.2.2.1, inMemory_of _ _ _ h.2.2.2.1, h.2.2.2.2⟩

/-- `UncachedPart` from what can be evaluated. -/
theorem uncachedPart_of (s : State) (va : Word) (size skip n : Nat) (pa : PAddr)
    (h : (s.translateAligned .load va size = .pass (pa, 2) ∨ s.translateAligned .load va size = .pass (pa, 7)) ∧
      s.watched .load pa = false ∧ s.gathered (pa + BitVec.ofNat 40 skip) n = false ∧
      (∀ i ∈ List.range n, s.isMemory (pa + BitVec.ofNat 40 skip + BitVec.ofNat 40 i).toNat = true) ∧
      (∀ k ∈ s.touchedD (pa + BitVec.ofNat 40 skip), (s.dline k).dirty = false) ∧
      ∀ k ∈ s.touchedL2 (pa + BitVec.ofNat 40 skip), (s.l2line k).state.isDirty = false) :
    UncachedPart s va size skip n pa :=
  ⟨h.1, h.2.1, h.2.2.1, inMemory_of _ _ _ h.2.2.2.1, h.2.2.2.2⟩

/-- `UncachedStore` from what can be evaluated. -/
theorem uncachedStore_of (s : State) (va : Word) (align n : Nat) (pa : PAddr)
    (h : s.translateAligned .store va align = .pass (pa, 2) ∧ s.watched .store pa = false ∧
      ∀ i ∈ List.range n, s.takesStores (pa + BitVec.ofNat 40 i).toNat = true) : UncachedStore s va align n pa :=
  ⟨h.1, h.2.1, inRam_of _ _ _ h.2.2⟩

/-- `CachedLoad` from what can be evaluated. -/
theorem cachedLoad_of (s : State) (va : Word) (n : Nat) (pa : PAddr) (k : Nat)
    (h : s.translateAligned .load va n = .pass (pa, 3) ∧ s.watched .load pa = false ∧ s.gathered pa n = false ∧
      s.described pa n = .pass () ∧ s.dHits (l1Set va) pa = [k] ∧ (s.otherPlaces (cachedView va) pa n = [] ∨ (s.ownPlaces .uncached pa n = [] ∧ s.aliasCopies va pa = []))) :
    CachedLoad s va n pa k :=
  ⟨h.1, h.2.1, h.2.2.1, h.2.2.2.1, h.2.2.2.2.1, h.2.2.2.2.2⟩

/-- `CachedPart` from what can be evaluated. -/
theorem cachedPart_of (s : State) (va : Word) (size skip n : Nat) (pa : PAddr) (k : Nat)
    (h : s.translateAligned .load va size = .pass (pa, 3) ∧ s.watched .load pa = false ∧
      s.gathered (pa + BitVec.ofNat 40 skip) n = false ∧
      s.described (pa + BitVec.ofNat 40 skip) n = .pass () ∧ s.dHits (l1Set (va + BitVec.ofNat 64 skip)) (pa + BitVec.ofNat 40 skip) = [k] ∧
      s.ownPlaces .uncached (pa + BitVec.ofNat 40 skip) n = [] ∧
      s.aliasCopies (va + BitVec.ofNat 64 skip) (pa + BitVec.ofNat 40 skip) = []) :
    CachedPart s va size skip n pa k :=
  ⟨h.1, h.2.1, h.2.2.1, h.2.2.2.1, h.2.2.2.2.1, .inr h.2.2.2.2.2⟩

/-- `CachedStore` from what can be evaluated. -/
theorem cachedStore_of (s : State) (va : Word) (align n : Nat) (pa : PAddr) (k : Nat)
    (h : s.translateAligned .store va align = .pass (pa, 3) ∧ s.watched .store pa = false ∧ s.described pa n = .pass () ∧
      s.dHits (l1Set va) pa = [k]) :
    CachedStore s va align n pa k :=
  ⟨h.1, h.2.1, h.2.2.1, h.2.2.2⟩

/-- Loads of every width, one with attribute 7; the partial ones at the last and the first byte of a word and of a doubleword. -/
theorem witness_UncachedLoads :
    start.leavesSegment = false ∧
    (UncachedLoad start 0xFFFFFFFF8000200F 1 0x200F ∧ UncachedLoad start 0xFFFFFFFF8000200E 2 0x200E ∧
      UncachedLoad start 0xFFFFFFFF8000200C 4 0x200C ∧ UncachedLoad start 0xB800000000002008 8 0x2008) ∧
    (UncachedPart start (0xFFFFFFFF80002003 &&& ~~~3) 4 0 4 0x2000 ∧ UncachedPart start (0xFFFFFFFF80002003 &&& ~~~3) 4 3 1 0x2000 ∧
      UncachedPart start (0xFFFFFFFF80002000 &&& ~~~7) 8 0 1 0x2000 ∧
      UncachedPart start (0xFFFFFFFF80002007 &&& ~~~7) 8 7 1 0x2000) ∧
    isWord (start.gpr 8) = true :=
  ⟨by decide +kernel, by and_intros <;> exact uncachedLoad_of _ _ _ _ (by decide +kernel),
    by and_intros <;> exact uncachedPart_of _ _ _ _ _ _ (by decide +kernel), by decide +kernel⟩

/-- Stores of every width; the partial ones at both ends of a word and of a doubleword. -/
theorem witness_UncachedStoreResults :
    start.leavesSegment = false ∧
    UncachedStore start 0xFFFFFFFF8000200F 1 1 0x200F ∧ UncachedStore start 0xFFFFFFFF8000200E 2 2 0x200E ∧
    UncachedStore start 0xFFFFFFFF8000200C 4 4 0x200C ∧ UncachedStore start 0xFFFFFFFF80002008 8 8 0x2008 ∧
    UncachedStore start (0xFFFFFFFF80002003 - BitVec.ofNat 64 3) 1 4 0x2000 ∧ UncachedStore start 0xFFFFFFFF80002003 1 1 0x2003 ∧
    UncachedStore start (0xFFFFFFFF80002007 - BitVec.ofNat 64 7) 1 8 0x2000 ∧ UncachedStore start 0xFFFFFFFF80002007 1 1 0x2007 :=
  ⟨by decide +kernel, by and_intros <;> exact uncachedStore_of _ _ _ _ _ (by decide +kernel)⟩

/-- Loads and stores of every width at the end of the line; the partial ones at both ends of a word and of a doubleword; bytes last
stored through another alias of which no copy is left. -/
theorem witness_DataCacheHits :
    (cached.leavesSegment = false ∧ CachedLoad cached 0xFFFFFFFF8000201F 1 0x201F 1024 ∧
      CachedLoad cached 0xFFFFFFFF8000201E 2 0x201E 1024 ∧ CachedLoad cached 0xFFFFFFFF8000201C 4 0x201C 1024 ∧
      CachedLoad { cached with raced := racedBytes (.cached 3) 0x2018 8 } 0xFFFFFFFF80002018 8 0x2018 1024) ∧
    (CachedPart cached (0xFFFFFFFF8000201F &&& ~~~3) 4 0 4 0x201C 1024 ∧ CachedPart cached (0xFFFFFFFF8000201F &&& ~~~3) 4 3 1 0x201C 1024 ∧
      CachedPart cached (0xFFFFFFFF80002018 &&& ~~~7) 8 0 1 0x2018 1024 ∧
      CachedPart cached (0xFFFFFFFF8000201F &&& ~~~7) 8 7 1 0x2018 1024) ∧
    CachedStore cached 0xFFFFFFFF8000201F 1 1 0x201F 1024 ∧ CachedStore cached 0xFFFFFFFF8000201E 2 2 0x201E 1024 ∧
    CachedStore cached 0xFFFFFFFF8000201C 4 4 0x201C 1024 ∧ CachedStore cached 0xFFFFFFFF80002018 8 8 0x2018 1024 ∧
    CachedStore cached (0xFFFFFFFF8000201F - BitVec.ofNat 64 3) 1 4 0x201C 1024 ∧
    CachedStore cached (0xFFFFFFFF8000201F - BitVec.ofNat 64 7) 1 8 0x2018 1024 :=
  ⟨⟨by decide +kernel, by and_intros <;> exact cachedLoad_of _ _ _ _ _ (by decide +kernel)⟩,
    by and_intros <;> exact cachedPart_of _ _ _ _ _ _ _ (by decide +kernel),
    by and_intros <;> exact cachedStore_of _ _ _ _ _ _ (by decide +kernel)⟩

/-- `MissesD` from what can be evaluated. -/
theorem missesD_of (s : State) (va : Word) (pa : PAddr)
    (h : s.dCopies pa = [] ∧ s.dHits (l1Set va) pa = [] ∧
      (∀ way ∈ List.range 4, s.modifiedD (lineKey (l1Set va) way) →
        (s.l2Hits (s.dlineBase (lineKey (l1Set va) way))).length = 1) ∧ s.raced = []) (below : s.belowReady pa) :
    MissesD s va pa :=
  ⟨h.1, h.2.1, fun way hw m => List.length_eq_one_iff.mp (h.2.2.1 way (List.mem_range.mpr hw) m), below,
    fun _ hr => nomatch h.2.2.2 ▸ hr⟩

/-- Loads and stores of every width that miss the D-cache, at the end of the line: memory answers, the L2 answers, and a line is
replaced in the L2 and with it in the L1 caches; whatever way is replaced, a modified D-cache line goes to the L2 that holds the line
of A, or a modified L2 line, with or without a modified D-cache copy, goes to memory. -/
theorem witness_CacheMissesFill :
    (∀ s ∈ [cold, below (.clean 1), crowded, replacing false, replacing true], s.leavesSegment = false ∧ s.watched .load 0x201F = false ∧ s.gather = [] ∧
      s.watched .store 0x2018 = false ∧
      (∀ p ∈ ([(0xFFFFFFFF8000201F, 1, 0x201F), (0xFFFFFFFF8000201E, 2, 0x201E), (0xFFFFFFFF8000201C, 4, 0x201C),
          (0xFFFFFFFF80002018, 8, 0x2018)] : List (Word × Nat × PAddr)),
        s.translateAligned .load p.1 p.2.1 = .pass (p.2.2, 3) ∧ s.translateAligned .store p.1 p.2.1 = .pass (p.2.2, 3))) ∧
    MissesD cold 0xFFFFFFFF8000201F 0x201F ∧ MissesD (below (.clean 1)) 0xFFFFFFFF80002018 0x2018 ∧
    MissesD crowded 0xFFFFFFFF8000201C 0x201C ∧ MissesD (replacing false) 0xFFFFFFFF8000201C 0x201C ∧
    MissesD (replacing true) 0xFFFFFFFF8000201C 0x201C ∧
    (∀ way ∈ List.range 4, ∀ holds : Bool, let s := replacing holds
      s.modifiedD (1024 + way) ∧ (way ≠ 0 → s.modifiedL2 (1024 + way)) ∧
      s.takenFrom 0x2000 (1024 + way) (1024 + way) = if holds then [if way = 0 then 3072 else 1024 + way] else []) ∧
    (replacing false).takenFrom 0x2000 1024 1025 = [1025] :=
  ⟨by decide +kernel, missesD_of _ _ _ (by decide +kernel) (belowReady_fill _ _ (by decide +kernel)),
    missesD_of _ _ _ (by decide +kernel) (belowReady_hit _ _ 1025 (by decide +kernel)),
    missesD_of _ _ _ (by decide +kernel) (belowReady_fill _ _ (by decide +kernel)),
    missesD_of _ _ _ (by decide +kernel) (belowReady_fill _ _ (by decide +kernel)),
    missesD_of _ _ _ (by decide +kernel) (belowReady_hit _ _ 1024 (by decide +kernel)),
    by decide +kernel, by decide +kernel⟩

/-- SCD and SC with LLbit set, SC with it clear, and SC before any LL. -/
theorem witness_StoreConditionalResults :
    (let s : State := { cached with llBit := true, llPa := some 0x2018 }
     s.leavesSegment = false ∧ CachedStore s (s.gpr 4 + BitVec.ofInt 64 (0x18 : BitVec 16).toInt) 8 8 0x2018 1024 ∧ s.llBit = true ∧
       s.llPa = some 0x2018) ∧
    (let s : State := { cached with llBit := true, llPa := some 0x2000 }
     CachedStore s (s.gpr 4 + BitVec.ofInt 64 (0 : BitVec 16).toInt) 4 4 0x2000 1024 ∧ s.llBit = true ∧ s.llPa = some 0x2000) ∧
    (let s : State := { cached with llBit := false, llPa := some 0x2000 }
     CachedStore s (s.gpr 4 + BitVec.ofInt 64 (0 : BitVec 16).toInt) 4 4 0x2000 1024 ∧ s.llBit = false ∧ s.llPa = some 0x2000) ∧
    CachedStore cached (cached.gpr 4 + BitVec.ofInt 64 (0 : BitVec 16).toInt) 4 4 0x2000 1024 ∧ cached.llBit = false ∧
    cached.llPa = none :=
  ⟨⟨by decide +kernel, cachedStore_of _ _ _ _ _ _ (by decide +kernel), rfl, rfl⟩,
    ⟨cachedStore_of _ _ _ _ _ _ (by decide +kernel), rfl, rfl⟩, ⟨cachedStore_of _ _ _ _ _ _ (by decide +kernel), rfl, rfl⟩,
    cachedStore_of _ _ _ _ _ _ (by decide +kernel), rfl, rfl⟩

/-- `AcceleratedStore` from what can be evaluated. -/
theorem acceleratedStore_of (s : State) (va : Word) (align n : Nat) (pa : PAddr)
    (h : s.translateAligned .store va align = .pass (pa, 7) ∧ s.watched .store pa = false ∧ s.described pa n = .pass ()) :
    AcceleratedStore s va align n pa :=
  ⟨h.1, h.2.1, h.2.2⟩

/-- Stores with attribute 7, r4 in xkphys with bits 61:59 = 111: the first of a block, one that goes on, and the last of 32 bytes; at
both ends of the partial ones. -/
theorem witness_PendingStoresAndSync :
    (let s := start.setGpr 4 0xB800000000002000
     s.leavesSegment = false ∧ s.gather = [] ∧
       s.translateAligned .store (s.gpr 4 + BitVec.ofInt 64 (BitVec.toInt (0 : BitVec 16))) 8 = .pass (0x2000, 7) ∧
       s.watched .store 0x2000 = false ∧ s.inRam 0x2000 8 ∧ s.stepped.leavesSegment = false) ∧
    (AcceleratedStore start 0xB800000000002000 8 8 0x2000 ∧ AcceleratedStore start 0xB800000000002004 4 4 0x2004 ∧
    AcceleratedStore start 0xB800000000002006 2 2 0x2006 ∧ AcceleratedStore start 0xB800000000002007 1 1 0x2007 ∧
    AcceleratedStore start (0xB800000000002003 - BitVec.ofNat 64 3) 1 4 0x2000 ∧
    AcceleratedStore start (0xB800000000002007 - BitVec.ofNat 64 7) 1 8 0x2000) ∧
    (let g := fun i : Nat => ({ pa := 0x2000 + BitVec.ofNat 40 (8 * i), size := 8, value := 0 } : GatheredStore)
     let s : State := { start with gather := [g 0, g 1, g 2] }
     s.gather = [g 0, g 1] ++ [g 2] ∧
     s.gatherContinues 0x2018 8 = true ∧ 32 ≤ s.gatheredBytes + 8 ∧ s.gatherContinues 0x2018 4 = false) ∧
    start.gather = [] ∧ start.code = [] ∧ start.cp1Usable = true ∧ start.evenFprs [30] = true :=
  ⟨⟨by decide +kernel, rfl, by decide +kernel, by decide +kernel, inRam_of _ _ _ (by decide +kernel), by decide +kernel⟩,
    by and_intros <;> exact acceleratedStore_of _ _ _ _ _ (by decide +kernel), by decide +kernel⟩

/-- The line of A also under the alias of VA[13:12] = 3, unmodified and with other data. -/
def aliased : State :=
  { cached with caches := { cached.caches with
      dcache := [(1024, lineA), (1536, { lineA with dirty := false, data := 9 })]
      l2 := [(1024, { tag := 0, state := .dirty, data := 9 })] } }

/-- SD past the caches and SW into the cache, the line under another alias too; bytes last stored through the reader's own view; no
byte stored past the caches and no other alias; a byte of an alias that races. -/
theorem witness_LoadsAfterStores :
    (start.leavesSegment = false ∧ start.translateAligned .store 0xFFFFFFFF80002008 8 = .pass (0x2008, 2) ∧
      start.translateAligned .load 0xFFFFFFFF80002008 8 = .pass (0x2008, 2) ∧ start.watched .store 0x2008 = false ∧
      start.watched .load 0x2008 = false ∧ start.gather = [] ∧ start.inRam 0x2008 8 ∧ (0x2008 : PAddr).toNat % 8 = 0 ∧
      start.stepped.leavesSegment = false) ∧
    (aliased.leavesSegment = false ∧ aliased.translateAligned .store 0xFFFFFFFF8000201C 4 = .pass (0x201C, 3) ∧
      aliased.translateAligned .load 0xFFFFFFFF8000201C 4 = .pass (0x201C, 3) ∧ aliased.watched .store 0x201C = false ∧
      aliased.watched .load 0x201C = false ∧ aliased.gather = [] ∧ aliased.inRam 0x201C 4 ∧ (0x201C : PAddr).toNat % 4 = 0 ∧
      aliased.dHits (l1Set 0xFFFFFFFF8000201C) 0x201C = [1024]) ∧
    (let s : State := { aliased with raced := racedBytes (cachedView 0xFFFFFFFF80002000) 0x2000 4 }
     ∀ i, i < 4 → ({ address := (0x2000 : PAddr).toNat + i, view := cachedView 0xFFFFFFFF80002000 } : RacedByte) ∈ s.raced) ∧
    (∀ i, i < 4 → ({ address := (0x2000 : PAddr).toNat + i, view := .uncached } : RacedByte) ∉ cached.raced) ∧
    (∀ k ∈ cached.touchedD 0x2000, keyColour k = (0xFFFFFFFF80002000 : Word).extractLsb' 12 2) ∧
    aliased.aliasCopies 0xFFFFFFFF80002000 0x2000 = [1536] ∧ start.unmodified 0x2000 ∧ (cached.inModified 0x2000 4).length = 1 := by
  unfold State.inRam State.unmodified
  decide +kernel

/-- A store into the line of A, a fetch of its last word, and the sequence after that. -/
theorem witness_StoredCode :
    (cached.leavesSegment = false ∧ (0x201C : PAddr).toNat % 4 = 0 ∧
      CachedStore cached (cached.gpr 4 + BitVec.ofInt 64 (0x1C : BitVec 16).toInt) 4 4 0x201C 1024 ∧
      ∀ v ∈ cached.code, v.word ≠ (0x201C : PAddr).toNat / 4) ∧
    (let s : State := { cached with
        pc := 0xFFFFFFFF8000201C
        code := [{ word := 0x807, value := 7, past := false, pushed := false, invalidated := [], settled := [] }] }
     s.translateAligned .fetch s.pc 4 = .pass (0x201C, 3) ∧ s.iHits (l1Set s.pc) 0x201C = [1024] ∧
       s.dHits (l1Set 0xFFFFFFFF8000201C) 0x201C = [1024] ∧ s.dCopies 0x201C = [1024] ∧
       l1Set 0xFFFFFFFF8000201C % 128 = lineNumber 0x201C % 128 ∧
       (∀ v ∈ s.code, v.word / 8 = lineNumber 0x201C → v.past = false) ∧ (∃ u ∈ s.code, u.word = (0x201C : PAddr).toNat / 4) ∧
       s.touchedL2 0x201C = [] ∧ twoAliases.touchedL2 0x201C = [1024]) :=
  ⟨⟨by decide +kernel, by decide, cachedStore_of _ _ _ _ _ _ (by decide +kernel), fun _ h => nomatch h⟩, by decide +kernel⟩

/-- A line outside RAM_MAP that a load, a store and a fetch hit, and one that they miss. -/
theorem witness_UndescribedRefused :
    (let s : State := { undescribed with pc := 0xFFFFFFFF80002000 }
     s.watched .load 0x2018 = false ∧ s.watched .store 0x2018 = false ∧ s.gather = [] ∧ none ∈ s.kindsOf 0x2018 8 ∧
       s.dHits (l1Set 0xFFFFFFFF80002018) 0x2018 = [1024] ∧ s.iHits (l1Set s.pc) 0x2000 = [1024] ∧ none ∈ s.kindsOf 0x2000 4 ∧
       s.translateAligned .load 0xFFFFFFFF80002018 8 = .pass (0x2018, 3) ∧
       s.translateAligned .store 0xFFFFFFFF80002018 8 = .pass (0x2018, 3) ∧ s.translateAligned .fetch s.pc 4 = .pass (0x2000, 3) ∧
       s.l2Hits 0x2038 = [] ∧ s.dHits (l1Set 0xFFFFFFFF80002038) 0x2038 = [] ∧ s.iHits (l1Set 0xFFFFFFFF80002038) 0x2038 = [] ∧
       none ∈ s.kindsOf (lineBase 0x2038) 32 ∧ some .absent ∉ s.kindsOf (lineBase 0x2038) 32) := by decide +kernel

/-- A doubleword whose upper half alone is absent, its line, a fetch from there, a store to absent addresses only; a device; the DDR
configuration register. -/
theorem witness_MemoryMapAnswers :
    (holed.watched .load 0x2000 = false ∧ holed.gather = [] ∧ holed.translateAligned .load 0xFFFFFFFF80002000 8 = .pass (0x2000, 2) ∧
      some .absent ∈ holed.kindsOf 0x2000 8) ∧
    (let s : State := { holed with cp0 := { holed.cp0 with configK0 := 3 } }
     s.translateAligned .load 0xFFFFFFFF8000201F 1 = .pass (0x201F, 3) ∧ s.dHits (l1Set 0xFFFFFFFF8000201F) 0x201F = [] ∧
       s.l2Hits 0x201F = [] ∧ some .absent ∈ s.kindsOf (lineBase 0x201F) 32) ∧
    (let s : State := { holed with pc := 0xFFFFFFFF80002004 }
     s.translateAligned .fetch s.pc 4 = .pass (0x2004, 2) ∧ some .absent ∈ s.kindsOf 0x2004 4) ∧
    (let s : State := { start with ramMap := [{ base := 0x2000, size := 8, kind := .absent }] }
     s.leavesSegment = false ∧ s.translateAligned .store 0xFFFFFFFF80002000 8 = .pass (0x2000, 2) ∧ s.watched .store 0x2000 = false ∧
       ∀ x ∈ s.kindsOf 0x2000 8, x = some .absent) ∧
    (holed.leavesSegment = false ∧ holed.translateAligned .load 0xFFFFFFFF80003FF8 8 = .pass (0x3FF8, 2) ∧
      (∀ x ∈ holed.kindsOf 0x3FF8 8, x = some .device) ∧ holed.translateAligned .store 0xFFFFFFFF80003000 4 = .pass (0x3000, 2) ∧
      ∀ x ∈ holed.kindsOf 0x3000 4, x = some .device) ∧
    (start.translateAligned .store 0xFFFFFFFFBFF00008 4 = .pass (0x1FF00008, 2) ∧
      start.translateAligned .load 0xFFFFFFFFBFF00008 4 = .pass (0x1FF00008, 2) ∧ start.watched .store 0x1FF00008 = false ∧
      start.unmodified 0x1FF00008) := by
  unfold State.unmodified
  decide +kernel

/-- The DDR sample-point register, with the sample point 10. -/
theorem witness_MemoryMapAnswersSample :
    let s : State := { start with sampleReady := true, ddrSample := 2 }
    s.translateAligned .store 0xFFFFFFFFBFF00030 4 = .pass (0x1FF00030, 2) ∧
    s.translateAligned .load 0xFFFFFFFFBFF00030 4 = .pass (0x1FF00030, 2) ∧ s.watched .store 0x1FF00030 = false ∧
    s.watched .load 0x1FF00030 = false ∧ s.unmodified 0x1FF00030 ∧ s.sampleReady = true ∧ s.ddrSample.extractLsb' 0 2 ≠ 3 := by
  unfold State.unmodified
  decide +kernel

/-- Registers 7 and 31, PageMask 1, operations 3 and 22 of CACHE on uncached and cached space, links at A and A + 8. -/
theorem witness_FormsRefused :
    start.cp0Usable = true ∧ cp0Named 7 = false ∧ cp0Named 31 = false ∧ start.cp1Usable = true ∧
    pageMaskLegal ({ start with cp0 := { start.cp0 with pageMask := 1 } } : State).cp0.pageMask = false ∧
    start.translate .load (start.gpr 4 + BitVec.ofInt 64 (BitVec.toInt (0 : BitVec 16))) = .pass (0x2000, 2) ∧
    cacheOpListed 22 = false ∧ cacheOpListed 3 = true ∧
    ((start.setGpr 9 0x00080000).gpr 9).extractLsb' 0 32 &&& 0x0BAF0000 ≠ 0 ∧ (start.gpr 9).extractLsb' 4 2 ≠ 3 ∧
    start.watched .load 0x2000 = false ∧ start.watched .store 0x2000 = false ∧
    start.translateAligned .load (start.gpr 4 + BitVec.ofInt 64 (BitVec.toInt (0 : BitVec 16))) 8 = .pass (0x2000, 2) ∧
    start.translateAligned .store (start.gpr 4 + BitVec.ofInt 64 (BitVec.toInt (0 : BitVec 16))) 4 = .pass (0x2000, 2) ∧
    (let s : State := { cached with llBit := true, llPa := some 0x2008 }
     s.llPa = some 0x2008 ∧ s.watched .store 0x2000 = false ∧
       s.translateAligned .store (s.gpr 4 + BitVec.ofInt 64 (BitVec.toInt (0 : BitVec 16))) 8 = .pass (0x2000, 3)) ∧
    (let s : State := { start with gather := [{ pa := 0x2007, size := 1, value := 5 }] }
     s.translateAligned .load 0xFFFFFFFF80002000 8 = .pass (0x2000, 2) ∧ s.gathered 0x2000 8 = true) ∧
    decode 0x48000000#32 = .cop2 ∧ start.cp0.status.cu.getLsbD 2 = false ∧
    (withStatus { status0 with cu := 4 }).cp0.status.cu.getLsbD 2 = true := by decide +kernel

/-- A state with the doubleword at A watched for loads and stores. -/
def watching (s : State) (exl : Bool) : State :=
  { s with cp0 := { s.cp0 with watchLo := { paddr0 := 0x400, r := true, w := true }, status := { status0 with exl := exl } } }

/-- The doubleword at A watched, past the caches, on a D-cache hit and on a miss, by whole and by partial accesses to its last byte; at
level 0, at exception level, and with a Watch pending. -/
theorem witness_WatchTrapsOrDefers :
    (∀ p ∈ ([(start, 2), (cached, 3), (cold, 3)] : List (State × BitVec 3)), ∀ exl, let s := watching p.1 exl
      s.leavesSegment = false ∧ s.watched .load 0x2000 = true ∧ s.watched .store 0x2000 = true ∧ s.cp1Usable = true ∧
        s.cp0.status.exl = exl ∧ s.cp0.status.erl = false ∧ s.evenFprs [2] = true ∧
        (∀ n ∈ [1, 2, 4, 8], s.translateAligned .load 0xFFFFFFFF80002000 n = .pass (0x2000, p.2) ∧
          s.translateAligned .store 0xFFFFFFFF80002000 n = .pass (0x2000, p.2)) ∧
        s.translateAligned .load (0xFFFFFFFF80002007 &&& ~~~7) 8 = .pass (0x2000, p.2) ∧
        s.watched .store 0x2007 = true ∧ s.translateAligned .store 0xFFFFFFFF80002007 1 = .pass (0x2007, p.2)) ∧
    (let s := watching start true
     s.gathered 0x2000 8 = false ∧ s.inMemory 0x2000 8 ∧ s.unmodified 0x2000 ∧ s.inRam 0x2000 8) ∧
    (let s := watching cached true
     s.dHits (l1Set 0xFFFFFFFF80002000) 0x2000 = [1024] ∧ s.notRaced 0xFFFFFFFF80002000 0x2000 8) ∧
    (let s : State := { start with pendingWatch := true }
     s.pins.coldReset = false ∧ s.pins.softReset = false ∧ s.pins.nmi = false ∧ s.mode ≠ .undefined ∧ s.pendingWatch = true ∧
       s.cp0.status.exl = false ∧ s.cp0.status.erl = false) := by
  unfold State.inMemory State.inRam State.unmodified State.notRaced
  decide +kernel

theorem witness_FpMovesLoadsAndStores :
    (start.leavesSegment = false ∧ start.cp1Usable = true ∧ start.evenFprs [30] = true ∧ start.evenFprs [30, 0] = true ∧
      (withStatus { status0 with fr := true }).evenFprs [31] = true ∧ cached.cp1Usable = true) ∧
    (UncachedLoad start 0xFFFFFFFF8000200C 4 0x200C ∧ UncachedLoad start 0xFFFFFFFF80002008 8 0x2008) ∧
    (UncachedStore start 0xFFFFFFFF8000200C 4 4 0x200C ∧ UncachedStore start 0xFFFFFFFF80002008 8 8 0x2008) ∧
    (CachedLoad cached 0xFFFFFFFF8000201C 4 0x201C 1024 ∧ CachedLoad cached 0xFFFFFFFF80002018 8 0x2018 1024) ∧
    CachedStore cached 0xFFFFFFFF8000201C 4 4 0x201C 1024 ∧ CachedStore cached 0xFFFFFFFF80002018 8 8 0x2018 1024 :=
  ⟨by decide +kernel, by and_intros <;> exact uncachedLoad_of _ _ _ _ (by decide +kernel),
    by and_intros <;> exact uncachedStore_of _ _ _ _ _ (by decide +kernel),
    by and_intros <;> exact cachedLoad_of _ _ _ _ _ (by decide +kernel),
    by and_intros <;> exact cachedStore_of _ _ _ _ _ _ (by decide +kernel)⟩

theorem witness_FpRegisterPairs :
    start.cp0.status.fr = false ∧ start.cp1Usable = true ∧ BitVec.getLsbD (30 : RegNum) 0 = false ∧
    BitVec.getLsbD (31 : RegNum) 0 = true ∧
    (31 : RegNum) ∈ fpPairOperands (.maddPs 0 2 31) ∧ (31 : RegNum) ∈ fpPairOperands (.dmfc1 8 31) ∧
    (1 : RegNum) ∈ fpPairOperands (.cvtSL 1 1) := by decide +kernel

/-- Values of CTC1 that trap by an enabled bit and by E, and that do not. -/
theorem witness_FpControlMoves :
    start.leavesSegment = false ∧ start.cp1Usable = true ∧
    (BitVec.extractLsb' 12 6 (0x00010800 : Word32)).extractLsb' 0 5 &&& BitVec.extractLsb' 7 5 (0x00010800 : Word32) ≠ 0 ∧
    (BitVec.extractLsb' 12 6 (0x00020000 : Word32)).getLsbD 5 = true ∧
    ¬((BitVec.extractLsb' 12 6 (0x0001F07F : Word32)).getLsbD 5 = true ∨
      (BitVec.extractLsb' 12 6 (0x0001F07F : Word32)).extractLsb' 0 5 &&& BitVec.extractLsb' 7 5 (0x0001F07F : Word32) ≠ 0) := by
  decide +kernel

/-- A valid comparison, an invalid one, and Enable V on and off. -/
theorem witness_CompareResults :
    start.leavesSegment = false ∧ start.cp1Usable = true ∧ start.evenFprs [2, 4] = true ∧
    (FpFormat.single.compare 12 0x3F800000 0x40000000).invalid = false ∧ (FpFormat.single.compare 12 0x7FA00000 0x40000000).invalid = true ∧
    (FpFormat.double.compare 1 0x7FF8000000000000 0).invalid = true ∧ (FpFormat.double.compare 15 0 0).invalid = false ∧
    start.evenFprs [30, 30] = true ∧
    (FpFormat.single.compare 15 (lowerHalf 0x400000003F800000).toNat (lowerHalf 0x3F8000003F800000).toNat).invalid = false ∧
    (FpFormat.single.compare 15 (upperHalf 0x400000003F800000).toNat (upperHalf 0x3F8000003F800000).toNat).invalid = false ∧
    (FpFormat.single.compare 0 (upperHalf 0x7FC000003F800000).toNat (upperHalf 0x3F8000003F800000).toNat).invalid = true ∧
    start.fcsr.enables.getLsbD 4 = false ∧ (Fcsr.ofWord 0x00000800).enables.getLsbD 4 = true := by decide +kernel

theorem witness_CompareIsNumeric :
    0xFFFFFFFF < 2 ^ FpFormat.single.width ∧ (FpFormat.single.value 0xFF7FFFFF).isFinite = true ∧ (FpFormat.single.value 1).isFinite = true ∧
    FpFormat.single.isNan 0x7F800001 = true ∧ FpFormat.single.value 0x7F800000 = .infinity false ∧
    FpFormat.single.value 0xFF800000 = .infinity (!false) := by decide +kernel

/-- An outcome that does not trap and one that does. -/
theorem witness_FpOperations :
    start.leavesSegment = false ∧ start.cp1Usable = true ∧
    start.fcsr.traps (FpFormat.single.add start.fpMode 0x3F800000 0x33800000).cause = false ∧
    (Fcsr.ofWord 0x00000080).traps (FpFormat.single.add start.fpMode 0x3F800000 0x33800000).cause = true ∧
    start.fcsr.traps (FpFormat.single.madd true false start.fpMode 0x3F800000 0x40000000 0x40400000).cause = false ∧
    start.evenFprs [30, 0, 30] = true ∧ start.evenFprs [30, 0] = true ∧
    (withStatus { status0 with fr := true }).evenFprs [31, 1, 31] = true ∧
    start.fcsr.traps (FpFormat.double.div start.fpMode 0xBFF0000000000000 0).cause = false ∧
    (Fcsr.ofWord 0x00000400).traps (FpFormat.double.div start.fpMode 0xBFF0000000000000 0).cause = true := by decide +kernel

theorem witness_FpPairedArithmetic :
    start.leavesSegment = false ∧ start.cp1Usable = true ∧ start.evenFprs [2, 4, 6] = true ∧ start.evenFprs [30, 30] = true ∧
    start.fcsr.traps ((FpFormat.single.mul start.fpMode 0x7F000000 0x40000000).cause |||
      (FpFormat.single.mul start.fpMode 0x3F800000 0x40000000).cause) = false ∧
    start.fcsr.traps ((FpFormat.single.add start.fpMode 0x3F800000 0x3F800000).cause |||
      (FpFormat.single.add start.fpMode 1 0x3F800000).cause) = true := by decide +kernel

theorem witness_FpConversions :
    start.leavesSegment = false ∧ start.cp1Usable = true ∧ start.evenFprs [30] = true ∧ start.evenFprs [30, 28] = true ∧
    start.fcsr.traps (FpFormat.double.convert .single start.fpMode 0x47F0000000000000).cause = false ∧
    start.fcsr.traps (FpFormat.single.convert .double start.fpMode 1).cause = true ∧
    start.fcsr.traps (FpFormat.double.toInteger 32 0 3 0xC004000000000000).cause = false := by decide +kernel

/-- A magnitude given whole, one given by the bits that a quotient was cut to, and results at both ends of the range: infinity and the
largest number, 0 and the smallest normal number, flushed or not. -/
theorem witness_RoundingIsCorrect :
    (0 < 0x1FFFFFF ∧ 2 ^ FpFormat.single.precision ≤ 0x1FFFFFF) ∧
    ((0x1FFFFFF : ℝ) * 2 ^ (0 : Int) < 0x1FFFFFF + 1 / 2 ∧ (0x1FFFFFF : ℝ) + 1 / 2 < (0x1FFFFFF + 1) * 2 ^ (0 : Int)) ∧
    (∀ rm : BitVec 2, ∀ neg flush : Bool, let md : FpMode := { rm := rm, flush := flush }
      (FpFormat.single.round md neg 0x1FFFFFF 104 true).cause = causeO ||| causeI ∧
      (FpFormat.single.round md neg 1 (-127) false).cause = (if flush then causeU ||| causeI else causeE) ∧
      FpFormat.single.round md false 0xFFFFFF 0 false = { cause := 0, bits := 0x4B7FFFFF } ∧
      FpFormat.single.round md false 0x1FFFFFF 0 false = { cause := causeI, bits := if rm = 0 ∨ rm = 2 then 0x4C000000 else 0x4BFFFFFF }) :=
  ⟨by decide, by norm_num, by decide +kernel⟩

/-- Exact results, and operands of results that are not: a sum, a product, a quotient and a root. -/
theorem witness_ExactUnlessCause :
    (0x3F800000 < 2 ^ FpFormat.single.width ∧ FpFormat.single.plainNumber 0x3F800000 = true ∧ FpFormat.single.plainNumber 0x40400000 = true) ∧
    (∀ op ∈ [FpFormat.single.add, FpFormat.single.sub, FpFormat.single.mul], (op start.fpMode 0x3F800000 0x40400000).cause = 0) ∧
    (FpFormat.single.div start.fpMode 0x40400000 0x3F800000).cause = 0 ∧
    (FpFormat.double.sqrt start.fpMode 0x4010000000000000).cause = 0 ∧ FpFormat.double.plainNumber 0x4010000000000000 = true ∧
    (∀ sub neg, (FpFormat.single.madd sub neg start.fpMode 0x40400000 0x3F800000 0x40400000).cause = 0) ∧
    (FpFormat.single.value 0x40400000).rational ≠ 0 ∧ 0 ≤ (FpFormat.single.value 0x40400000).rational ∧
    FpFormat.single.plainNumber 0x33800000 = true ∧
    (∀ rm : BitVec 2, let md : FpMode := { rm := rm, flush := false }
      (FpFormat.single.add md 0x3F800000 0x33800000).cause = causeI ∧ (FpFormat.single.div md 0x3F800000 0x40400000).cause = causeI ∧
      (FpFormat.single.sqrt md 0x40400000).cause = causeI ∧ (FpFormat.single.mul md 0x7F000000 0x7F000000).cause &&& causeE = 0 ∧
      (FpFormat.single.mul md 0x00800000 0x00800000).cause &&& causeE ≠ 0) := by
  decide +kernel

theorem witness_FpSpecialOperands :
    FpFormat.single.value 0x7FC00000 = .nan true ∧ FpFormat.single.value 0x7F800001 = .nan false ∧ FpFormat.double.isDenormal 1 = true ∧
    FpFormat.single.value 0x7F800000 = .infinity false ∧ FpFormat.single.value 0xFF800000 = .infinity (!false) ∧
    FpFormat.single.value 0 = .finite false 0 (-149) ∧ FpFormat.single.value 0x80000000 = .finite true 0 (-149) ∧
    FpFormat.single.plainNumber 0xBF800000 = true ∧ (FpFormat.single.value 0xBF800000).rational < 0 ∧
    (true = ((false != false) != !false)) ∧ FpFormat.single.plainNumber 0x3F800000 = true ∧
    (FpFormat.single.value 0x3F800000).rational ≠ 0 ∧ FpFormat.single.negative 0x3F800000 = false ∧
    FpFormat.single.value 0x7F800000 = .infinity ((true != FpFormat.single.negative 0x3F800000) != !false) ∧ FpFormat.single.plainNumber 0x7F7FFFFF = true ∧
    ∀ md : BitVec 2, let p := FpFormat.single.mul { rm := md, flush := false } 0x7F7FFFFF 0xBF800000
      p.cause &&& causeE = 0 ∧ ∀ n, FpFormat.single.value p.bits ≠ .infinity (!n) := by decide +kernel

/-- The largest doubles that fit and the smallest that do not; a tie; numbers that single precision rounds. -/
theorem witness_FpConversionsAreNumeric :
    (∀ a ∈ [0x43DFFFFFFFFFFFFF, 0x43E0000000000000, 0xC3E0000000000000, 0xBFF8000000000000, 0x3FB999999999999A],
      FpFormat.double.plainNumber a = true) ∧
    FpFormat.single.plainNumber 0x7F7FFFFF = true ∧ FpFormat.double.value 0x3FF8000000000000 = .finite false 0x18000000000000 (-52) ∧
    (∀ rm : BitVec 2, (FpFormat.double.toInteger 64 0 rm 0x43DFFFFFFFFFFFFF).cause = 0 ∧
      (FpFormat.double.toInteger 64 0 rm 0x43E0000000000000).cause = causeV ∧
      (FpFormat.double.toInteger 64 0 rm 0xC3E0000000000000).cause = 0 ∧
      (FpFormat.double.toInteger 32 0 rm 0xBFF8000000000000).cause = causeI) := by
  decide +kernel

/-- A state with modified lines, and one step from it: LUI r8, 0x8000. -/
theorem witness_StepKeepsInvariant :
    let s : State := { cached with
      pc := 0xFFFFFFFFA0001000, memory := [(0x1000, 0x00), (0x1001, 0x80), (0x1002, 0x08), (0x1003, 0x3C)] }
    s.Inv ∧ after (step s) (fun _ => true) = true :=
  ⟨inv_of _ rfl (by decide +kernel), by decide +kernel⟩
end

end

end Tests
end Sys2Proof
end

section
/-! PROOF. What lies behind physical addresses (RAM_MAP, 20_memory.md R192): absent ranges, devices, the registers of the DDR
controller, and addresses that are not described. First what the checks of the map answer, then what a load, a store and a fetch do
with that answer, then the bytes of the registers; the obligation is assembled from these. -/

namespace Sys2Proof
namespace Machine

/-! ### The checks of the map -/

theorem kindsOf_succ (s : State) (pa : PAddr) (n : Nat) :
    s.kindsOf pa (n + 1) = s.kindAt pa.toNat :: s.kindsOf (pa + 1) n := by
  simp only [State.kindsOf, List.range_succ_eq_map, List.map_cons, List.map_map, BitVec.ofNat_eq_ofNat, BitVec.add_zero]
  exact congrArg (_ :: ·)
    (List.map_congr_left fun i _ => congrArg (fun a : PAddr => s.kindAt a.toNat) (paddr_succ pa i).symm)

/-- A read that reaches an absent address is a bus error, whatever else it reaches (60_exceptions.md R627). -/
theorem answers_absent (s : State) (pa : PAddr) (n : Nat) (fetch : Bool) (h : some .absent ∈ s.kindsOf pa n) :
    s.answers pa n fetch = .raise (busError fetch) := by
  simp [State.answers, h]

theorem answers_undescribed (s : State) (pa : PAddr) (n : Nat) (fetch : Bool) (hn : none ∈ s.kindsOf pa n)
    (ha : some .absent ∉ s.kindsOf pa n) : s.answers pa n fetch = .refuse .undescribedAddress := by
  simp [State.answers, hn, ha]

theorem answers_pass (s : State) (pa : PAddr) (n : Nat) (fetch : Bool) (hn : none ∉ s.kindsOf pa n)
    (ha : some .absent ∉ s.kindsOf pa n) : s.answers pa n fetch = .pass () := by
  simp [State.answers, hn, ha]

theorem described_undescribed (s : State) (pa : PAddr) (n : Nat) (h : none ∈ s.kindsOf pa n) :
    s.described pa n = .refuse .undescribedAddress := by
  simp [State.described, h]

theorem described_pass (s : State) (pa : PAddr) (n : Nat) (h : none ∉ s.kindsOf pa n) : s.described pa n = .pass () := by
  simp [State.described, h]

/-- Where every address is of one kind, no other kind is reached. -/
theorem kindsOf_not_mem (s : State) (pa : PAddr) (n : Nat) (k : RegionKind) (x : Option RegionKind) (hx : x ≠ some k)
    (h : ∀ y ∈ s.kindsOf pa n, y = some k) : x ∉ s.kindsOf pa n := fun hm => hx (h x hm)

/-- Devices answer a read. -/
theorem answers_device (s : State) (pa : PAddr) (n : Nat) (fetch : Bool) (h : ∀ x ∈ s.kindsOf pa n, x = some .device) :
    s.answers pa n fetch = .pass () :=
  answers_pass s pa n fetch (kindsOf_not_mem s pa n .device none (by decide) h)
    (kindsOf_not_mem s pa n .device (some .absent) (by decide) h)

/-! ### Lookups of the caches that hit, and fills that the map stops -/

theorem exists_oneOf (s : State) (lookup : Nat) (hits : List Nat) (h : hits ≠ []) : ∃ k, s.oneOf lookup hits = some k := by
  cases hits with
  | nil => exact absurd rfl h
  | cons k rest => exact ⟨_, rfl⟩

@[simp] theorem oneOf_nil (s : State) (lookup : Nat) : s.oneOf lookup [] = none := rfl

theorem run_bind {α β γ : Type} (c : Chk α) (s : State) (k : α → Run β) (f : β → State → Run γ) :
    (c.run s k).bind f = c.run s fun a => (k a).bind f := by
  cases c <;> rfl

@[simp] theorem writeBackD_ramMap (s : State) (k : Nat) : (s.writeBackD k).ramMap = s.ramMap := by
  dsimp only [State.writeBackD]; split <;> rfl

theorem ensureL2_hit (s : State) (pa : PAddr) (fetch : Bool) (h : s.l2Hits pa ≠ []) : ∃ k, s.ensureL2 pa fetch = .ok k s := by
  obtain ⟨k, hk⟩ := exists_oneOf s (if fetch then 3 else 1) _ h
  exact ⟨k, by simp only [State.ensureL2, hk]⟩

/-- A miss in the L2 first asks the map whether the whole line answers (20_memory.md R192). -/
theorem ensureL2_miss (s : State) (pa : PAddr) (fetch : Bool) (h : s.l2Hits pa = []) :
    ∃ fill, s.ensureL2 pa fetch = (s.answers (lineBase pa) 32 fetch).run s fill := by
  simp only [State.ensureL2, h, oneOf_nil]
  exact ⟨_, rfl⟩

/-- A data access that hits the D-cache or the L2 gets its line, and the map stays as it was. -/
theorem ensureD_hit (s : State) (va : Word) (pa : PAddr) (h : s.dHits (l1Set va) pa ≠ [] ∨ s.l2Hits pa ≠ []) :
    ∃ k t, s.ensureD va pa = .ok k t ∧ t.ramMap = s.ramMap := by
  by_cases hd : s.dHits (l1Set va) pa = []
  · obtain ⟨j, hj⟩ := ensureL2_hit s pa false (h.resolve_left (absurd hd))
    simp only [State.ensureD, hd, oneOf_nil, hj, Run.bind]
    exact ⟨_, _, rfl, by simp⟩
  · obtain ⟨k, hk⟩ := exists_oneOf s 0 _ hd
    exact ⟨k, s, by simp only [State.ensureD, hk], rfl⟩

theorem ensureD_miss (s : State) (va : Word) (pa : PAddr) (hd : s.dHits (l1Set va) pa = []) (h2 : s.l2Hits pa = []) :
    ∃ fill, s.ensureD va pa = (s.answers (lineBase pa) 32 false).run s fill := by
  obtain ⟨fill, hf⟩ := ensureL2_miss s pa false h2
  simp only [State.ensureD, hd, oneOf_nil, hf, run_bind]
  exact ⟨_, rfl⟩

/-- A fetch that hits the I-cache or the L2 gets its line, and the map stays as it was. -/
theorem ensureI_hit (s : State) (va : Word) (pa : PAddr) (h : s.iHits (l1Set va) pa ≠ [] ∨ s.l2Hits pa ≠ []) :
    ∃ k t, s.ensureI va pa = .ok k t ∧ t.ramMap = s.ramMap := by
  by_cases hi : s.iHits (l1Set va) pa = []
  · obtain ⟨j, hj⟩ := ensureL2_hit s pa true (h.resolve_left (absurd hi))
    simp only [State.ensureI, hi, oneOf_nil, hj, Run.bind]
    exact ⟨_, _, rfl, by simp⟩
  · obtain ⟨k, hk⟩ := exists_oneOf s 2 _ hi
    exact ⟨k, s, by simp only [State.ensureI, hk], rfl⟩

theorem ensureI_miss (s : State) (va : Word) (pa : PAddr) (hi : s.iHits (l1Set va) pa = []) (h2 : s.l2Hits pa = []) :
    ∃ fill, s.ensureI va pa = (s.answers (lineBase pa) 32 true).run s fill := by
  obtain ⟨fill, hf⟩ := ensureL2_miss s pa true h2
  simp only [State.ensureI, hi, oneOf_nil, hf, run_bind]
  exact ⟨_, rfl⟩

/-! ### Reads and writes that the map stops -/

/-- With nothing gathered, a load of a cache code other than 3 goes past the caches (20_memory.md R160). -/
theorem memRead_past (s : State) (va : Word) (pa : PAddr) (attr : BitVec 3) (n : Nat) (hg : s.gather = []) (ha : attr ≠ 3) :
    s.memRead va pa attr n = s.loadUncached pa n := by
  rw [State.memRead, if_neg (by simp [State.gathered, hg]), if_neg ha]

theorem memRead_through (s : State) (va : Word) (pa : PAddr) (n : Nat) (hg : s.gather = []) :
    s.memRead va pa 3 n = s.loadCached va pa n := by
  simp [State.memRead, State.gathered, hg]

theorem loadUncached_absent (s : State) (pa : PAddr) (n : Nat) (h : some .absent ∈ s.kindsOf pa n) :
    s.loadUncached pa n = .raise .busData s := by
  simp [State.loadUncached, answers_absent s pa n false h, Chk.run, busError]

theorem loadUncached_undescribed (s : State) (pa : PAddr) (n : Nat) (hn : none ∈ s.kindsOf pa n)
    (ha : some .absent ∉ s.kindsOf pa n) : s.loadUncached pa n = .refuse .undescribedAddress := by
  simp [State.loadUncached, answers_undescribed s pa n false hn ha, Chk.run]

theorem loadUncached_device (s : State) (pa : PAddr) (n : Nat) (h : ∀ x ∈ s.kindsOf pa n, x = some .device) :
    s.loadUncached pa n = .ok (s.uncachedValue 1 pa n []) s := by
  simp [State.loadUncached, answers_device s pa n false h, Chk.run]

/-- A load whose fill reaches an absent address (60_exceptions.md R627). -/
theorem loadCached_absent (s : State) (va : Word) (pa : PAddr) (n : Nat) (hd : s.dHits (l1Set va) pa = [])
    (h2 : s.l2Hits pa = []) (h : some .absent ∈ s.kindsOf (lineBase pa) 32) : s.loadCached va pa n = .raise .busData s := by
  obtain ⟨fill, hf⟩ := ensureD_miss s va pa hd h2
  simp [State.loadCached, hf, answers_absent s _ 32 false h, Chk.run, Run.bind, busError]

/-- A load that hits bytes which are not described (20_memory.md R192, D26). -/
theorem loadCached_undescribed (s : State) (va : Word) (pa : PAddr) (n : Nat)
    (hh : s.dHits (l1Set va) pa ≠ [] ∨ s.l2Hits pa ≠ []) (h : none ∈ s.kindsOf pa n) :
    s.loadCached va pa n = .refuse .undescribedAddress := by
  obtain ⟨k, t, ht, hmap⟩ := ensureD_hit s va pa hh
  rw [← kindsOf_congr s t hmap] at h
  simp [State.loadCached, ht, Run.bind, described_undescribed t pa n h, Chk.run]

/-- A load whose fill reaches an address that is not described. -/
theorem loadCached_undescribed_fill (s : State) (va : Word) (pa : PAddr) (n : Nat) (hd : s.dHits (l1Set va) pa = [])
    (h2 : s.l2Hits pa = []) (hn : none ∈ s.kindsOf (lineBase pa) 32) (ha : some .absent ∉ s.kindsOf (lineBase pa) 32) :
    s.loadCached va pa n = .refuse .undescribedAddress := by
  obtain ⟨fill, hf⟩ := ensureD_miss s va pa hd h2
  simp [State.loadCached, hf, answers_undescribed s _ 32 false hn ha, Chk.run, Run.bind]

/-- A store past the caches to bytes of which one is not described. -/
theorem memWrite_undescribed (s : State) (va : Word) (pa : PAddr) (attr : BitVec 3) (n : Nat) (v : Word) (ha : attr ≠ 3)
    (h : none ∈ s.kindsOf pa n) : s.memWrite va pa attr n v = .refuse .undescribedAddress := by
  rw [State.memWrite, if_neg ha, described_undescribed s pa n h, Chk.run]

/-- A store that hits bytes of which one is not described. -/
theorem memWrite_undescribed_hit (s : State) (va : Word) (pa : PAddr) (n : Nat) (v : Word)
    (hh : s.dHits (l1Set va) pa ≠ [] ∨ s.l2Hits pa ≠ []) (h : none ∈ s.kindsOf pa n) :
    s.memWrite va pa 3 n v = .refuse .undescribedAddress := by
  obtain ⟨k, t, ht, hmap⟩ := ensureD_hit s va pa hh
  rw [← kindsOf_congr s t hmap] at h
  simp [State.memWrite, State.storeCached, ht, described_undescribed t pa n h, Chk.run]

/-- A store whose fill reaches an address that is not described. -/
theorem memWrite_undescribed_fill (s : State) (va : Word) (pa : PAddr) (n : Nat) (v : Word) (hd : s.dHits (l1Set va) pa = [])
    (h2 : s.l2Hits pa = []) (hn : none ∈ s.kindsOf (lineBase pa) 32) (ha : some .absent ∉ s.kindsOf (lineBase pa) 32) :
    s.memWrite va pa 3 n v = .refuse .undescribedAddress := by
  obtain ⟨fill, hf⟩ := ensureD_miss s va pa hd h2
  simp [State.memWrite, State.storeCached, hf, answers_undescribed s _ 32 false hn ha, Chk.run]

/-! ### Loads and stores from the outcome of their access -/

theorem loadTo_raise (s t : State) (rt : RegNum) (va : Word) (n : Nat) (value : Word → Word) (r : PAddr × BitVec 3) (e : Exc)
    (hp : s.prepare .load va n = .ok r s) (hm : s.memRead va r.1 r.2 n = .raise e t) :
    s.loadTo rt va n value = t.raise e := by
  simp [State.loadTo, State.loadVirt, hp, hm, Run.bind, Run.finish]

theorem loadTo_refuse (s : State) (rt : RegNum) (va : Word) (n : Nat) (value : Word → Word) (r : PAddr × BitVec 3) (f : Refusal)
    (hp : s.prepare .load va n = .ok r s) (hm : s.memRead va r.1 r.2 n = .refuse f) :
    s.loadTo rt va n value = .refused f := by
  simp [State.loadTo, State.loadVirt, hp, hm, Run.bind, Run.finish]

theorem loadTo_result (s : State) (rt : RegNum) (va : Word) (n : Nat) (value : Word → Word) (r : PAddr × BitVec 3) (v : Nat)
    (hp : s.prepare .load va n = .ok r s) (hm : s.memRead va r.1 r.2 n = .ok v s) (hl : s.leavesSegment = false) :
    GprResult s (s.loadTo rt va n value) rt (value (BitVec.ofNat 64 v)) := by
  have h : s.loadTo rt va n value = s.writeGpr rt (value (BitVec.ofNat 64 v)) := by
    simp [State.loadTo, State.loadVirt, hp, hm, Run.bind, Run.finish, State.writeGpr]
  rw [h]
  exact writeGpr_result s rt _ hl

theorem storeFrom_refuse (s : State) (va : Word) (n : Nat) (v : Word) (r : PAddr × BitVec 3) (f : Refusal)
    (hp : s.prepare .store va n = .ok r s) (hm : s.memWrite va r.1 r.2 n v = .refuse f) :
    s.storeFrom va n n v = .refused f := by
  simp [State.storeFrom, State.storeVirt, hp, hm, Run.bind, Run.finish]

/-- The aligned integer loads, each with the number of bytes it loads (40_loadstore.md R241 to R247). -/
def alignedLoads (rt base : RegNum) (offset : BitVec 16) : List (Nat × Instr) :=
  [(1, .lb rt offset base), (1, .lbu rt offset base), (2, .lh rt offset base), (2, .lhu rt offset base),
    (4, .lw rt offset base), (4, .lwu rt offset base), (8, .ld rt offset base)]

/-- The aligned integer stores, each with the number of bytes it stores (40_loadstore.md R254 to R257). -/
def alignedStores (rt base : RegNum) (offset : BitVec 16) : List (Nat × Instr) :=
  [(1, .sb rt offset base), (2, .sh rt offset base), (4, .sw rt offset base), (8, .sd rt offset base)]

theorem exec_alignedLoad (rt base : RegNum) (offset : BitVec 16) (p : Nat × Instr) (hp : p ∈ alignedLoads rt base offset) :
    ∃ value : Word → Word, ∀ s : State, exec p.2 s = s.loadTo rt (s.address base offset) p.1 value := by
  simp only [alignedLoads, List.mem_cons, List.not_mem_nil, or_false] at hp
  rcases hp with rfl | rfl | rfl | rfl | rfl | rfl | rfl <;> exact ⟨_, fun _ => rfl⟩

theorem exec_alignedStore (rt base : RegNum) (offset : BitVec 16) (p : Nat × Instr) (hp : p ∈ alignedStores rt base offset)
    (s : State) : exec p.2 s = s.storeFrom (s.address base offset) p.1 p.1 (s.gpr rt) := by
  simp only [alignedStores, List.mem_cons, List.not_mem_nil, or_false] at hp
  rcases hp with rfl | rfl | rfl | rfl <;> rfl

theorem exec_lw (rt base : RegNum) (offset : BitVec 16) (s : State) :
    exec (.lw rt offset base) s = s.loadTo rt (s.address base offset) 4 fun v => sext32 (low32 v) := rfl

/-! ### Fetches from the outcome of their access -/

theorem fetch_past (s : State) (pa : PAddr) (h : s.passesUncached .fetch s.pc 4 pa) :
    s.fetch = (s.fetchUncached pa).bind fun v s1 => .ok (BitVec.ofNat 32 v) s1 := by
  rcases h with h | h <;> simp [State.fetch, h, Chk.run]

theorem fetch_through (s : State) (pa : PAddr) (h : s.translateAligned .fetch s.pc 4 = .pass (pa, 3)) :
    s.fetch = (s.fetchCached s.pc pa).bind fun v s1 => .ok (BitVec.ofNat 32 v) s1 := by
  simp [State.fetch, h, Chk.run]

theorem fetch_absent (s : State) (pa : PAddr) (h : s.passesUncached .fetch s.pc 4 pa) (ha : some .absent ∈ s.kindsOf pa 4) :
    s.fetch = .raise .busFetch s := by
  simp [fetch_past s pa h, State.fetchUncached, answers_absent s pa 4 true ha, Chk.run, Run.bind, busError]

theorem fetch_undescribed (s : State) (pa : PAddr) (h : s.passesUncached .fetch s.pc 4 pa) (hn : none ∈ s.kindsOf pa 4)
    (ha : some .absent ∉ s.kindsOf pa 4) : s.fetch = .refuse .undescribedAddress := by
  simp [fetch_past s pa h, State.fetchUncached, answers_undescribed s pa 4 true hn ha, Chk.run, Run.bind]

theorem fetch_undescribed_hit (s : State) (pa : PAddr) (h : s.translateAligned .fetch s.pc 4 = .pass (pa, 3))
    (hh : s.iHits (l1Set s.pc) pa ≠ [] ∨ s.l2Hits pa ≠ []) (hn : none ∈ s.kindsOf pa 4) :
    s.fetch = .refuse .undescribedAddress := by
  obtain ⟨k, t, ht, hmap⟩ := ensureI_hit s s.pc pa hh
  rw [← kindsOf_congr s t hmap] at hn
  simp [fetch_through s pa h, State.fetchCached, ht, described_undescribed t pa 4 hn, Chk.run, Run.bind]

theorem fetch_undescribed_fill (s : State) (pa : PAddr) (h : s.translateAligned .fetch s.pc 4 = .pass (pa, 3))
    (hi : s.iHits (l1Set s.pc) pa = []) (h2 : s.l2Hits pa = []) (hn : none ∈ s.kindsOf (lineBase pa) 32)
    (ha : some .absent ∉ s.kindsOf (lineBase pa) 32) : s.fetch = .refuse .undescribedAddress := by
  obtain ⟨fill, hf⟩ := ensureI_miss s s.pc pa hi h2
  simp [fetch_through s pa h, State.fetchCached, hf, answers_undescribed s _ 32 true hn ha, Chk.run, Run.bind]

/-! ### Stores past the caches to what is no memory -/

theorem writeByte_absent (s : State) (a : Nat) (b : Byte) (h : s.kindAt a = some .absent) : s.writeByte a b = s := by
  unfold State.writeByte
  split
  · next hr => simp [State.kindAt, hr] at h
  · split
    · next hr => simp [State.kindAt, hr] at h
    · simp [h]

theorem writeBytes_absent (s : State) (pa : PAddr) (n v : Nat) (h : ∀ x ∈ s.kindsOf pa n, x = some .absent) :
    s.writeBytes pa n v = s := by
  induction n generalizing pa v with
  | zero => rfl
  | succ n ih =>
    rw [kindsOf_succ, List.forall_mem_cons] at h
    rw [State.writeBytes, writeByte_absent s _ _ h.1, ih _ _ h.2]

theorem writeByte_device_memory (s : State) (a : Nat) (b : Byte) (h : s.kindAt a = some .device) :
    (s.writeByte a b).memory = s.memory := by
  unfold State.writeByte
  split
  · rfl
  · split
    · rfl
    · simp [h]

theorem storedPast_ramMap (s t : State) (h : s.StoredPast t) : t.ramMap = s.ramMap := by
  rw [h]

theorem writeBytes_device_memory (s : State) (pa : PAddr) (n v : Nat) (h : ∀ x ∈ s.kindsOf pa n, x = some .device) :
    (s.writeBytes pa n v).memory = s.memory := by
  induction n generalizing s pa v with
  | zero => rfl
  | succ n ih =>
    rw [kindsOf_succ, List.forall_mem_cons] at h
    have hmap := storedPast_ramMap _ _ (writeByte_frame s pa.toNat (BitVec.ofNat 8 v))
    rw [State.writeBytes, ih, writeByte_device_memory s _ _ h.1]
    rw [kindsOf_congr s _ hmap]
    exact h.2

/-- A store past the caches with nothing gathered: its bytes, the records of races and of stored code, and the next instruction
(20_memory.md R161, R165, R185). -/
theorem storeFrom_uncached (s : State) (va : Word) (n : Nat) (pa : PAddr) (v : Word)
    (hl : s.leavesSegment = false) (hg : s.gather = []) (ht : s.translateAligned .store va n = .pass (pa, 2))
    (hw : s.watched .store pa = false) (hd : s.described pa n = .pass ()) :
    ∃ t, s.storeFrom va n n v = .next t ∧ Advanced s t ∧
      t = { s.writeBytes pa n v.toNat with raced := t.raced, code := t.code, pc := t.pc, delay := t.delay } := by
  have hfinish : s.storeFrom va n n v = (s.storeUncached pa n v.toNat).advance := by
    simp [State.storeFrom, State.storeVirt, prepare_pass s .store va n (pa, 2) ht hw, Run.bind, State.memWrite, hd, Chk.run,
      Run.finish]
  obtain ⟨hpc, hdelay⟩ : (s.storeUncached pa n v.toNat).pc = s.pc ∧ (s.storeUncached pa n v.toNat).delay = s.delay := by
    have hf := writeBytes_frame s pa n v.toNat
    simp only [State.storeUncached, drainGather_empty s hg, noteUncached_pc, noteUncached_delay]
    exact ⟨by rw [hf], by rw [hf]⟩
  have hseg : (s.storeUncached pa n v.toNat).leavesSegment = false := by
    simpa [State.leavesSegment, State.leavesAfter, hpc, hdelay] using hl
  refine ⟨_, hfinish.trans (advance_next _ hseg), ⟨by simp [State.nextPc, hpc, hdelay], rfl⟩, ?_⟩
  simp only [State.storeUncached, drainGather_empty s hg]
  rfl

/-! ### The registers of the DDR controller (60_exceptions.md R656, R657) -/

theorem kindsOf_ddrConfig (s : State) : ∀ x ∈ s.kindsOf 0x1FF00008 4, x = some .device :=
  fun _ h => List.eq_of_mem_replicate (n := 4) h

theorem kindsOf_ddrSample (s : State) : ∀ x ∈ s.kindsOf 0x1FF00030 4, x = some .device :=
  fun _ h => List.eq_of_mem_replicate (n := 4) h

/-- Byte `i` of a register is replaced; the others stay. -/
theorem registerSet_getLsbD (r : Word32) (reg i : Nat) (b : Byte) (j : Nat) (hj : j < 32) :
    (registerSet r reg (reg + i) b).getLsbD j =
      if 8 * i ≤ j ∧ j < 8 * i + 8 then b.getLsbD (j - 8 * i) else r.getLsbD j := by
  have hff : (0xFF#32) = (BitVec.allOnes 8).setWidth 32 := rfl
  simp only [registerSet, hff, Nat.add_sub_cancel_left, BitVec.getLsbD_or, BitVec.getLsbD_and, BitVec.getLsbD_not,
    BitVec.getLsbD_shiftLeft, BitVec.getLsbD_setWidth, BitVec.getLsbD_allOnes, hj, decide_true, Bool.true_and]
  by_cases hlow : j < 8 * i
  · simp [hlow, Nat.not_le.mpr hlow]
  · by_cases hhigh : j < 8 * i + 8
    · simp [hlow, hhigh, Nat.not_lt.mp hlow, show j - 8 * i < 8 by omega, show j - 8 * i < 32 by omega]
    · simp [hlow, hhigh, show ¬ j - 8 * i < 8 by omega, BitVec.getLsbD_of_ge b (j - 8 * i) (by omega)]

/-- Byte `i` of a number has its bits `8 i` to `8 i + 7`. -/
theorem ofNat_byte_getLsbD (v i j : Nat) (hlow : 8 * i ≤ j) (hhigh : j < 8 * i + 8) :
    (BitVec.ofNat 8 (v / 2 ^ (8 * i))).getLsbD (j - 8 * i) = v.testBit j := by
  have hj : j - 8 * i < 8 := by omega
  simp only [BitVec.getLsbD_ofNat, hj, decide_true, Bool.true_and, Nat.testBit_div_two_pow, Nat.sub_add_cancel hlow]

/-- The four bytes of a word, written one by one into a register, are the word. -/
theorem registerSet_word (r : Word32) (reg v : Nat) :
    registerSet (registerSet (registerSet (registerSet r reg (reg + 0) (BitVec.ofNat 8 v)) reg (reg + 1) (BitVec.ofNat 8 (v / 256)))
      reg (reg + 2) (BitVec.ofNat 8 (v / 256 / 256))) reg (reg + 3) (BitVec.ofNat 8 (v / 256 / 256 / 256)) = BitVec.ofNat 32 v := by
  apply BitVec.eq_of_getLsbD_eq
  intro j hj
  have hv : (BitVec.ofNat 32 v).getLsbD j = v.testBit j := by simp only [BitVec.getLsbD_ofNat, hj, decide_true, Bool.true_and]
  simp only [registerSet_getLsbD _ _ _ _ _ hj, hv, Nat.div_div_eq_div_mul]
  split_ifs with h3 h2 h1 h0
  · exact ofNat_byte_getLsbD v 3 j h3.1 (by omega)
  · exact ofNat_byte_getLsbD v 2 j h2.1 h2.2
  · exact ofNat_byte_getLsbD v 1 j h1.1 h1.2
  · simpa using ofNat_byte_getLsbD v 0 j h0.1 h0.2
  · omega

/-- The four bytes of a register, read one by one, are the register. -/
theorem registerByte_word (r : Word32) (reg : Nat) :
    (registerByte r reg (reg + 0)).toNat + 256 * ((registerByte r reg (reg + 1)).toNat + 256 * ((registerByte r reg (reg + 2)).toNat
      + 256 * (registerByte r reg (reg + 3)).toNat)) = r.toNat := by
  have := r.isLt
  simp only [registerByte, BitVec.extractLsb'_toNat, Nat.add_sub_cancel_left, Nat.shiftRight_eq_div_pow]
  omega

/-- The addresses of the upper three bytes of a word that does not reach past the top of the physical space. -/
theorem word_addresses (pa : PAddr) (h : pa.toNat + 4 ≤ 2 ^ 40) :
    (pa + 1).toNat = pa.toNat + 1 ∧ (pa + 1 + 1).toNat = pa.toNat + 2 ∧ (pa + 1 + 1 + 1).toNat = pa.toNat + 3 :=
  ⟨by bv_omega, by bv_omega, by bv_omega⟩

/-- A store of a word past the caches, byte by byte. -/
theorem writeBytes_word (s : State) (pa : PAddr) (v : Nat) (h : pa.toNat + 4 ≤ 2 ^ 40) :
    s.writeBytes pa 4 v =
      (((s.writeByte (pa.toNat + 0) (BitVec.ofNat 8 v)).writeByte (pa.toNat + 1) (BitVec.ofNat 8 (v / 256))).writeByte
        (pa.toNat + 2) (BitVec.ofNat 8 (v / 256 / 256))).writeByte (pa.toNat + 3) (BitVec.ofNat 8 (v / 256 / 256 / 256)) := by
  obtain ⟨h1, h2, h3⟩ := word_addresses pa h
  simp only [State.writeBytes, h1, h2, h3, Nat.add_zero]

/-- A read of a word past the caches, byte by byte. -/
theorem readBytes_word (s : State) (pa : PAddr) (h : pa.toNat + 4 ≤ 2 ^ 40) :
    s.readBytes pa 4 =
      (s.physicalByte (pa.toNat + 0)).toNat + 256 * ((s.physicalByte (pa.toNat + 1)).toNat +
        256 * ((s.physicalByte (pa.toNat + 2)).toNat + 256 * (s.physicalByte (pa.toNat + 3)).toNat)) := by
  obtain ⟨h1, h2, h3⟩ := word_addresses pa h
  simp only [State.readBytes, h1, h2, h3, Nat.add_zero, Nat.mul_zero]

theorem insideRegister_byte (reg i : Nat) (hi : i < 4) : insideRegister reg (reg + i) 1 = true := by
  simp only [insideRegister, decide_eq_true_eq]; omega

/-- The two registers have no byte in common. -/
theorem insideRegister_other (i : Nat) (hi : i < 4) : insideRegister ddrConfigAddress (ddrSampleAddress + i) 1 = false := by
  rw [insideRegister, ddrConfigAddress, ddrSampleAddress, decide_eq_false_iff_not]; omega

theorem writeByte_ddrConfig (s : State) (i : Nat) (b : Byte) (hi : i < 4) :
    s.writeByte (ddrConfigAddress + i) b =
      { s with ddrConfig := registerSet s.ddrConfig ddrConfigAddress (ddrConfigAddress + i) b, ddrReady := true } := by
  rw [State.writeByte, if_pos (insideRegister_byte _ i hi)]

theorem writeByte_ddrSample (s : State) (i : Nat) (b : Byte) (hi : i < 4) :
    s.writeByte (ddrSampleAddress + i) b =
      { s with ddrSample := registerSet s.ddrSample ddrSampleAddress (ddrSampleAddress + i) b, sampleReady := true } := by
  rw [State.writeByte, if_neg (by simp [insideRegister_other i hi]), if_pos (insideRegister_byte _ i hi)]

theorem physicalByte_ddrConfig (s : State) (i : Nat) (hi : i < 4) :
    s.physicalByte (ddrConfigAddress + i) = registerByte s.ddrConfigRead ddrConfigAddress (ddrConfigAddress + i) := by
  rw [State.physicalByte, if_pos (insideRegister_byte _ i hi)]

theorem physicalByte_ddrSample (s : State) (i : Nat) (hi : i < 4) :
    s.physicalByte (ddrSampleAddress + i) = registerByte s.ddrSampleRead ddrSampleAddress (ddrSampleAddress + i) := by
  rw [State.physicalByte, if_neg (by simp [insideRegister_other i hi]), if_pos (insideRegister_byte _ i hi)]

theorem writeBytes_ddrConfig (s : State) (v : Nat) :
    s.writeBytes 0x1FF00008 4 v = { s with ddrConfig := BitVec.ofNat 32 v, ddrReady := true } := by
  rw [writeBytes_word s _ v (by decide), ← registerSet_word s.ddrConfig ddrConfigAddress v,
    show (0x1FF00008 : PAddr).toNat = ddrConfigAddress from rfl]
  simp only [writeByte_ddrConfig, Nat.reduceLT]

theorem writeBytes_ddrSample (s : State) (v : Nat) :
    s.writeBytes 0x1FF00030 4 v = { s with ddrSample := BitVec.ofNat 32 v, sampleReady := true } := by
  rw [writeBytes_word s _ v (by decide), ← registerSet_word s.ddrSample ddrSampleAddress v,
    show (0x1FF00030 : PAddr).toNat = ddrSampleAddress from rfl]
  simp only [writeByte_ddrSample, Nat.reduceLT]

theorem readBytes_ddrConfig (s : State) : s.readBytes 0x1FF00008 4 = s.ddrConfigRead.toNat := by
  rw [readBytes_word s _ (by decide), ← registerByte_word s.ddrConfigRead ddrConfigAddress,
    show (0x1FF00008 : PAddr).toNat = ddrConfigAddress from rfl]
  simp only [physicalByte_ddrConfig, Nat.reduceLT]

theorem readBytes_ddrSample (s : State) : s.readBytes 0x1FF00030 4 = s.ddrSampleRead.toNat := by
  rw [readBytes_word s _ (by decide), ← registerByte_word s.ddrSampleRead ddrSampleAddress,
    show (0x1FF00030 : PAddr).toNat = ddrSampleAddress from rfl]
  simp only [physicalByte_ddrSample, Nat.reduceLT]

/-- Bits 29:0 of the configuration register read as written. -/
theorem ddrConfigRead_written (s : State) (h : s.ddrReady = true) :
    s.ddrConfigRead.extractLsb' 0 30 = s.ddrConfig.extractLsb' 0 30 := by
  rw [State.ddrConfigRead, if_pos h]
  exact BitVec.extractLsb'_append_eq_right

/-- Bits 1:0 of the sample-point register read as written, unless they are 11. -/
theorem ddrSampleRead_written (s : State) (h : s.sampleReady = true) (h3 : s.ddrSample.extractLsb' 0 2 ≠ 3) :
    s.ddrSampleRead.extractLsb' 0 2 = s.ddrSample.extractLsb' 0 2 := by
  rw [State.ddrSampleRead, if_pos (by simpa [h] using h3)]
  exact BitVec.extractLsb'_append_eq_right

/-- With no modified copy there is no race with what lies behind the caches. -/
theorem uncachedValue_unmodified (s : State) (read : Nat) (pa : PAddr) (n : Nat) (h : s.unmodified pa) :
    s.uncachedValue read pa n [] = s.readBytes pa n := by
  simp [State.uncachedValue, inModified_nil s pa n h]

theorem sext32_low32_ofNat (w : Word32) : sext32 (low32 (BitVec.ofNat 64 w.toNat)) = w.signExtend 64 := by
  have h : low32 (BitVec.ofNat 64 w.toNat) = w := by
    apply BitVec.eq_of_toNat_eq
    have := w.isLt
    simp only [low32, BitVec.extractLsb'_toNat, BitVec.toNat_ofNat, Nat.shiftRight_zero]
    omega
  rw [sext32, h]

/-! ### The obligation -/

/-- An aligned load past the caches from an absent address. -/
theorem alignedLoad_absent (s : State) (rt base : RegNum) (offset : BitVec 16) (pa : PAddr) (p : Nat × Instr)
    (hp : p ∈ alignedLoads rt base offset) (hw : s.watched .load pa = false) (hg : s.gather = [])
    (ht : s.passesUncached .load (s.address base offset) p.1 pa) (ha : some .absent ∈ s.kindsOf pa p.1) :
    Takes s (exec p.2 s) .busData := by
  obtain ⟨value, hexec⟩ := exec_alignedLoad rt base offset p hp
  obtain ⟨attr, hattr, hprep⟩ := prepare_uncached s .load _ _ pa ht hw
  have hm := (memRead_past s (s.address base offset) pa attr p.1 hg hattr).trans (loadUncached_absent s pa _ ha)
  exact (hexec s).trans (loadTo_raise s s rt _ _ value (pa, attr) _ hprep hm)

/-- An aligned load whose fill reaches an absent address. -/
theorem alignedLoad_absent_fill (s : State) (rt base : RegNum) (offset : BitVec 16) (pa : PAddr) (p : Nat × Instr)
    (hp : p ∈ alignedLoads rt base offset) (hw : s.watched .load pa = false) (hg : s.gather = [])
    (ht : s.translateAligned .load (s.address base offset) p.1 = .pass (pa, 3))
    (hd : s.dHits (l1Set (s.address base offset)) pa = []) (h2 : s.l2Hits pa = [])
    (ha : some .absent ∈ s.kindsOf (lineBase pa) 32) : Takes s (exec p.2 s) .busData := by
  obtain ⟨value, hexec⟩ := exec_alignedLoad rt base offset p hp
  have hm := (memRead_through s (s.address base offset) pa p.1 hg).trans (loadCached_absent s _ pa _ hd h2 ha)
  exact (hexec s).trans (loadTo_raise s s rt _ _ value (pa, 3) _ (prepare_pass s .load _ _ (pa, 3) ht hw) hm)

/-- An aligned load past the caches from an address that is not described. -/
theorem alignedLoad_undescribed (s : State) (rt base : RegNum) (offset : BitVec 16) (pa : PAddr) (p : Nat × Instr)
    (hp : p ∈ alignedLoads rt base offset) (hw : s.watched .load pa = false) (hg : s.gather = [])
    (ht : s.passesUncached .load (s.address base offset) p.1 pa) (hn : none ∈ s.kindsOf pa p.1)
    (ha : some .absent ∉ s.kindsOf pa p.1) : exec p.2 s = .refused .undescribedAddress := by
  obtain ⟨value, hexec⟩ := exec_alignedLoad rt base offset p hp
  obtain ⟨attr, hattr, hprep⟩ := prepare_uncached s .load _ _ pa ht hw
  have hm := (memRead_past s (s.address base offset) pa attr p.1 hg hattr).trans (loadUncached_undescribed s pa _ hn ha)
  exact (hexec s).trans (loadTo_refuse s rt _ _ value (pa, attr) _ hprep hm)

/-- An aligned load through the caches that the map refuses, whether its line or its fill does. -/
theorem alignedLoad_refused (s : State) (rt base : RegNum) (offset : BitVec 16) (pa : PAddr) (p : Nat × Instr)
    (hp : p ∈ alignedLoads rt base offset) (hw : s.watched .load pa = false) (hg : s.gather = [])
    (ht : s.translateAligned .load (s.address base offset) p.1 = .pass (pa, 3))
    (hr : s.loadCached (s.address base offset) pa p.1 = .refuse .undescribedAddress) :
    exec p.2 s = .refused .undescribedAddress := by
  obtain ⟨value, hexec⟩ := exec_alignedLoad rt base offset p hp
  have hm := (memRead_through s (s.address base offset) pa p.1 hg).trans hr
  exact (hexec s).trans (loadTo_refuse s rt _ _ value (pa, 3) _ (prepare_pass s .load _ _ (pa, 3) ht hw) hm)

/-- An aligned load from a device, which answers some value. -/
theorem alignedLoad_device (s : State) (rt base : RegNum) (offset : BitVec 16) (pa : PAddr) (p : Nat × Instr)
    (hp : p ∈ alignedLoads rt base offset) (hl : s.leavesSegment = false) (hw : s.watched .load pa = false) (hg : s.gather = [])
    (ht : s.passesUncached .load (s.address base offset) p.1 pa) (hk : ∀ x ∈ s.kindsOf pa p.1, x = some .device) :
    ∃ v, GprResult s (exec p.2 s) rt v := by
  obtain ⟨value, hexec⟩ := exec_alignedLoad rt base offset p hp
  obtain ⟨attr, hattr, hprep⟩ := prepare_uncached s .load _ _ pa ht hw
  have hm := (memRead_past s (s.address base offset) pa attr p.1 hg hattr).trans (loadUncached_device s pa _ hk)
  rw [hexec s]
  exact ⟨_, loadTo_result s rt _ _ value (pa, attr) _ hprep hm hl⟩

/-- LW past the caches from device addresses of which no modified copy is known: the word that a read of them finds. -/
theorem lw_device (s : State) (rt base : RegNum) (offset : BitVec 16) (pa : PAddr) (w : Word32)
    (hl : s.leavesSegment = false) (hw : s.watched .load pa = false) (hg : s.gather = [])
    (ht : s.translateAligned .load (s.address base offset) 4 = .pass (pa, 2)) (hk : ∀ x ∈ s.kindsOf pa 4, x = some .device)
    (hu : s.unmodified pa) (hv : s.readBytes pa 4 = w.toNat) : GprResult s (exec (.lw rt offset base) s) rt (w.signExtend 64) := by
  have hm : s.memRead (s.address base offset) pa 2 4 = .ok w.toNat s := by
    rw [memRead_past s _ pa 2 4 hg (by decide), loadUncached_device s pa 4 hk, uncachedValue_unmodified s 1 pa 4 hu, hv]
  rw [exec_lw, ← sext32_low32_ofNat w]
  exact loadTo_result s rt _ 4 (fun v => sext32 (low32 v)) (pa, 2) w.toNat (prepare_pass s .load _ 4 (pa, 2) ht hw) hm hl

/-- An aligned store that its access refuses. -/
theorem alignedStore_refused (s : State) (rt base : RegNum) (offset : BitVec 16) (pa : PAddr) (attr : BitVec 3) (p : Nat × Instr)
    (hp : p ∈ alignedStores rt base offset) (hw : s.watched .store pa = false)
    (ht : s.translateAligned .store (s.address base offset) p.1 = .pass (pa, attr))
    (hr : s.memWrite (s.address base offset) pa attr p.1 (s.gpr rt) = .refuse .undescribedAddress) :
    exec p.2 s = .refused .undescribedAddress :=
  (exec_alignedStore rt base offset p hp s).trans
    (storeFrom_refuse s _ _ _ (pa, attr) _ (prepare_pass s .store _ _ (pa, attr) ht hw) hr)

/-- SW past the caches to device addresses. -/
theorem sw_device (s : State) (rt base : RegNum) (offset : BitVec 16) (pa : PAddr) (hl : s.leavesSegment = false)
    (hg : s.gather = []) (hw : s.watched .store pa = false)
    (ht : s.translateAligned .store (s.address base offset) 4 = .pass (pa, 2)) (hk : ∀ x ∈ s.kindsOf pa 4, x = some .device) :
    ∃ t, exec (.sw rt offset base) s = .next t ∧ Advanced s t ∧
      t = { s.writeBytes pa 4 (s.gpr rt).toNat with raced := t.raced, code := t.code, pc := t.pc, delay := t.delay } :=
  storeFrom_uncached s (s.address base offset) 4 pa (s.gpr rt) hl hg ht hw
    (described_pass s pa 4 (kindsOf_not_mem s pa 4 .device none (by decide) hk))

theorem busErrors : Claim.BusErrors := by
  unfold Claim.BusErrors
  intro s rt base offset pa va
  refine ⟨fun hw hg p hp => ⟨fun ht ha => alignedLoad_absent s rt base offset pa p hp hw hg ht ha,
    fun ht hd h2 ha => alignedLoad_absent_fill s rt base offset pa p hp hw hg ht hd h2 ha⟩, fetch_absent s pa, ?_⟩
  intro hl hg ht hw hk
  have hd := described_pass s pa 8 (kindsOf_not_mem s pa 8 .absent none (by decide) hk)
  obtain ⟨t, hexec, hadv, hframe⟩ := storeFrom_uncached s va 8 pa (s.gpr rt) hl hg ht hw hd
  rw [writeBytes_absent s pa 8 _ hk] at hframe
  exact ⟨t, hexec, hadv, hframe⟩

theorem deviceAccesses : Claim.DeviceAccesses := by
  unfold Claim.DeviceAccesses
  intro s rt base offset pa hl hg va
  refine ⟨fun hw p hp ht hk => alignedLoad_device s rt base offset pa p hp hl hw hg ht hk, ?device, ?config, ?configRead,
    ?sample, ?sampleRead⟩
  case device =>
    intro hw ht hk
    obtain ⟨t, hexec, hadv, hframe⟩ := sw_device s rt base offset pa hl hg hw ht hk
    have hpast := writeBytes_frame s pa 4 (s.gpr rt).toNat
    have hmem := writeBytes_device_memory s pa 4 (s.gpr rt).toNat hk
    unfold State.StoredPast at hpast
    rw [hpast, hmem] at hframe
    refine ⟨t, hexec, hadv, fun a => ?_, fun r => gpr_eq_of_gprs s t (by rw [hframe]) r, by rw [hframe]⟩
    rw [hframe]; rfl
  case config =>
    rintro hw ht rfl
    obtain ⟨t, hexec, hadv, hframe⟩ := sw_device s rt base offset _ hl hg hw ht (kindsOf_ddrConfig s)
    rw [writeBytes_ddrConfig] at hframe
    have hready : t.ddrReady = true := by rw [hframe]
    exact ⟨t, hexec, hadv, by rw [hframe], hready, ddrConfigRead_written t hready, by rw [hframe]⟩
  case configRead =>
    rintro hw ht rfl hu
    exact lw_device s rt base offset _ _ hl hw hg ht (kindsOf_ddrConfig s) hu (readBytes_ddrConfig s)
  case sample =>
    rintro hw ht rfl
    obtain ⟨t, hexec, hadv, hframe⟩ := sw_device s rt base offset _ hl hg hw ht (kindsOf_ddrSample s)
    rw [writeBytes_ddrSample] at hframe
    have hready : t.sampleReady = true := by rw [hframe]
    exact ⟨t, hexec, hadv, by rw [hframe], hready, ddrSampleRead_written t hready, by rw [hframe]⟩
  case sampleRead =>
    rintro hw ht rfl hu
    exact ⟨lw_device s rt base offset _ _ hl hw hg ht (kindsOf_ddrSample s) hu (readBytes_ddrSample s), ddrSampleRead_written s⟩

theorem undescribedRefused : Claim.UndescribedRefused := by
  unfold Claim.UndescribedRefused
  intro s rt base offset pa c va stops
  refine ⟨?load, ?store, ?fetch, ?fill⟩
  case load =>
    intro hw hg p hp hn
    exact ⟨fun ht ha => alignedLoad_undescribed s rt base offset pa p hp hw hg ht hn ha,
      fun ht hh => alignedLoad_refused s rt base offset pa p hp hw hg ht (loadCached_undescribed s va pa p.1 hh hn)⟩
  case store =>
    intro hw hc p hp hn ht
    refine alignedStore_refused s rt base offset pa c p hp hw ht ?_
    rcases hc with rfl | rfl | ⟨rfl, hh⟩
    · exact memWrite_undescribed s va pa 2 p.1 _ (by decide) hn
    · exact memWrite_undescribed s va pa 7 p.1 _ (by decide) hn
    · exact memWrite_undescribed_hit s va pa p.1 _ hh hn
  case fetch =>
    intro hn
    exact ⟨fun ht ha => fetch_undescribed s pa ht hn ha, fun ht hh => fetch_undescribed_hit s pa ht hh hn⟩
  case fill =>
    intro hn ha h2
    refine ⟨fun hi ht => fetch_undescribed_fill s pa ht hi h2 hn ha, fun hd hw hg ht => ?_, fun hd hw ht => ?_⟩
    · exact alignedLoad_refused s rt base offset pa (8, .ld rt offset base) (by simp [alignedLoads]) hw hg ht
        (loadCached_undescribed_fill s va pa 8 hd h2 hn ha)
    · exact alignedStore_refused s rt base offset pa 3 (8, .sd rt offset base) (by simp [alignedStores]) hw ht
        (memWrite_undescribed_fill s va pa 8 _ hd h2 hn ha)

/-- Settles O43, clause by clause: each access is led back to what the map answers at the addresses it reaches. -/
theorem memoryMapAnswers : Obligations.MemoryMapAnswers := by
  unfold Obligations.MemoryMapAnswers
  exact ⟨busErrors, deviceAccesses, undescribedRefused⟩

end Machine
end Sys2Proof
end

section
/-! PROOF. What one step keeps (O58), in three layers: the relation `Evolves` between a state and a later one of the same step, the
shared operations of the model that stay within it, and the instructions and events made of them. -/

namespace Sys2Proof
namespace Machine

/-! ### The relation -/

/-- The fields that the invariant and the timer request depend on. -/
def State.kept (s : State) : List Host.Cell × Caches × BitVec 6 × BitVec 6 × List GatheredStore × Nat × Bool :=
  (s.memory, s.caches, s.cp0.wired, s.cp0.random, s.gather, s.countIdle, s.timerIp)

/-- `t` comes from `s` within a step: the invariant is not lost, and neither is a timer request. -/
structure State.Evolves (s t : State) : Prop where
  inv : s.Inv → t.Inv
  timer : s.timerIp = true → t.timerIp = true

theorem State.Evolves.refl (s : State) : s.Evolves s := ⟨id, id⟩

theorem State.Evolves.trans {s t u : State} (h1 : s.Evolves t) (h2 : t.Evolves u) : s.Evolves u :=
  ⟨fun h => h2.inv (h1.inv h), fun h => h2.timer (h1.timer h)⟩

/-- A change of other fields only. -/
theorem evolves_of_kept {s t : State} (h : t.kept = s.kept := by rfl) : s.Evolves t := by
  simp only [State.kept, Prod.mk.injEq] at h
  obtain ⟨hmem, hcache, hwired, hrandom, hgather, hidle, htimer⟩ := h
  refine ⟨fun hi => ⟨?_, ?_, ?_, ?_, ?_, ?_, ?_, ?_, ?_, ?_⟩, fun ht => htimer.trans ht⟩
  · rw [hmem]; exact hi.memory
  · rw [hcache]; exact hi.icache
  · rw [hcache]; exact hi.dcache
  · rw [hcache]; exact hi.l2
  · rw [hcache]; exact hi.icacheLines
  · rw [hcache]; exact hi.dcacheLines
  · rw [hcache]; exact hi.l2Lines
  · rw [hwired, hrandom]; exact hi.random
  · rw [State.gatheredBytes, hgather]; exact hi.gather
  · rw [hidle]; exact hi.count

/-- A row of operations. -/
theorem foldl_evolves {α : Type} (f : State → α → State) (l : List α) (s : State) (h : ∀ t : State, ∀ a ∈ l, t.Evolves (f t a)) :
    s.Evolves (l.foldl f s) := by
  induction l generalizing s with
  | nil => exact State.Evolves.refl s
  | cons a l ih =>
    exact (h s a List.mem_cons_self).trans (ih (f s a) fun t b hb => h t b (List.mem_cons_of_mem a hb))

/-- Every state that a piece of an instruction leaves comes from `s`, and a value that it goes on with satisfies `P`. -/
def Run.From {α : Type} (s : State) (P : α → Prop) (x : Run α) : Prop :=
  match x with
  | .ok a t => P a ∧ s.Evolves t
  | .raise _ t => s.Evolves t
  | _ => True

/-- The next state, if there is one, comes from `s`. -/
def OutFrom (s : State) (o : Out) : Prop := ∀ t, o = .next t → s.Evolves t

theorem Run.From.trans {α : Type} {s t : State} {P : α → Prop} {x : Run α} (h : s.Evolves t) (hx : x.From t P) : x.From s P := by
  cases x with
  | ok a u => exact ⟨hx.1, h.trans hx.2⟩
  | raise e u => exact h.trans hx
  | refuse r => trivial
  | fault f => trivial

theorem Run.From.bind {α β : Type} {s : State} {P : α → Prop} {Q : β → Prop} {x : Run α} {k : α → State → Run β} (hx : x.From s P)
    (hk : ∀ a t, P a → (k a t).From t Q) : (x.bind k).From s Q := by
  cases x with
  | ok a t => exact Run.From.trans hx.2 (hk a t hx.1)
  | raise e t => exact hx
  | refuse r => trivial
  | fault f => trivial

/-- A check that passes goes on in the state it was made in. -/
theorem run_from {α β : Type} {s : State} {Q : β → Prop} (c : Chk α) {k : α → Run β} (hk : ∀ a, (k a).From s Q) :
    (c.run s k).From s Q := by
  cases c with
  | pass a => exact hk a
  | raise e => exact State.Evolves.refl s
  | refuse r => trivial
  | fault f => trivial

theorem OutFrom.trans {s t : State} {o : Out} (h : s.Evolves t) (ho : OutFrom t o) : OutFrom s o :=
  fun u hu => h.trans (ho u hu)

theorem next_from {s t : State} (h : s.Evolves t) : OutFrom s (.next t) := by
  rintro u ⟨⟩; exact h

theorem refused_from (s : State) (r : Refusal) : OutFrom s (.refused r) := by rintro u ⟨⟩

theorem fault_from (s : State) (f : Fault) : OutFrom s (.fault f) := by rintro u ⟨⟩

theorem ite_from {s : State} {c : Prop} [Decidable c] {a b : Out} (ha : OutFrom s a) (hb : OutFrom s b) :
    OutFrom s (if c then a else b) := by
  split <;> assumption

/-! ### Exceptions and the end of an instruction -/

theorem takeException_evolves (s : State) (e : Exc) : s.Evolves (s.takeException e) :=
  evolves_of_kept (by cases e <;> rfl)

theorem raise_from (s : State) (e : Exc) : OutFrom s (s.raise e) := next_from (takeException_evolves s e)

theorem advance_from {s t : State} (h : s.Evolves t) : OutFrom s t.advance :=
  ite_from (refused_from s _) (next_from (h.trans evolves_of_kept))

theorem finish_from {s : State} {P : Unit → Prop} {x : Run Unit} (h : x.From s P) : OutFrom s x.finish := by
  cases x with
  | ok a t => exact advance_from h.2
  | raise e t => exact OutFrom.trans h (raise_from t e)
  | refuse r => exact refused_from s r
  | fault f => exact fault_from s f

theorem whenCp0_from {s : State} {o : Out} (h : OutFrom s o) : OutFrom s (s.whenCp0 o) := ite_from h (raise_from s _)

theorem whenCp1_from {s : State} {o : Out} (h : OutFrom s o) : OutFrom s (s.whenCp1 o) := ite_from h (raise_from s _)

theorem whenPairs_from {s : State} {names : List RegNum} {o : Out} (h : OutFrom s o) : OutFrom s (s.whenPairs names o) :=
  whenCp1_from (ite_from h (refused_from s _))

/-! ### Integer results, branches and traps -/

theorem setGpr_evolves (s : State) (r : RegNum) (v : Word) : s.Evolves (s.setGpr r v) :=
  evolves_of_kept (by simp [State.kept])

theorem writeGpr_from (s : State) (r : RegNum) (v : Word) : OutFrom s (s.writeGpr r v) := advance_from (setGpr_evolves s r v)

theorem trappingWord_from (s : State) (r : RegNum) (sources : List Word) (overflow : Bool) (v : Word32) :
    OutFrom s (s.trappingWord r sources overflow v) := ite_from (raise_from s _) (writeGpr_from s r _)

theorem trappingDouble_from (s : State) (r : RegNum) (overflow : Bool) (v : Word) :
    OutFrom s (s.trappingDouble r overflow v) := ite_from (raise_from s _) (writeGpr_from s r v)

theorem writeHiLo_from (s : State) (hi lo : Word) : OutFrom s (s.writeHiLo hi lo) := advance_from evolves_of_kept

theorem whenWords_from {s : State} {o : Out} (rs rt : RegNum) (h : OutFrom s o) : OutFrom s (s.whenWords rs rt o) :=
  ite_from h (writeHiLo_from s _ _)

theorem trapWhen_from (s : State) (c : Bool) : OutFrom s (s.trapWhen c) :=
  ite_from (raise_from s _) (advance_from (State.Evolves.refl s))

theorem outsideSlot_from {s : State} {o : Out} (h : OutFrom s o) : OutFrom s (s.outsideSlot o) := ite_from (refused_from s _) h

theorem enterSlot_from {s t : State} (h : s.Evolves t) (target : Option Word) : OutFrom s (t.enterSlot target) :=
  ite_from (refused_from s _) (next_from (h.trans evolves_of_kept))

theorem branchLikely_from {s t : State} (h : s.Evolves t) (taken : Bool) (offset : BitVec 16) :
    OutFrom s (t.branchLikely taken offset) :=
  ite_from (enterSlot_from h _) (ite_from (refused_from s _) (next_from (h.trans evolves_of_kept)))

theorem linkAllowed_from {s : State} {o : Out} (rs : RegNum) (h : OutFrom s o) : OutFrom s (linkAllowed rs o) :=
  ite_from (refused_from s _) h

/-- A branch or jump without a link, and one that has written its link register. -/
theorem branch_from (s : State) (taken : Bool) (offset : BitVec 16) : OutFrom s (s.outsideSlot (s.branch taken offset)) :=
  outsideSlot_from (enterSlot_from (State.Evolves.refl s) _)

theorem likely_from (s : State) (taken : Bool) (offset : BitVec 16) : OutFrom s (s.outsideSlot (s.branchLikely taken offset)) :=
  outsideSlot_from (branchLikely_from (State.Evolves.refl s) _ _)

theorem linkBranch_from (s : State) (rs : RegNum) (taken : Bool) (offset : BitVec 16) :
    OutFrom s (s.outsideSlot (linkAllowed rs (s.link.branch taken offset))) :=
  outsideSlot_from (linkAllowed_from rs (enterSlot_from (setGpr_evolves s _ _) _))

theorem linkLikely_from (s : State) (rs : RegNum) (taken : Bool) (offset : BitVec 16) :
    OutFrom s (s.outsideSlot (linkAllowed rs (s.link.branchLikely taken offset))) :=
  outsideSlot_from (linkAllowed_from rs (branchLikely_from (setGpr_evolves s _ _) _ _))

/-! ### The floating-point unit -/

theorem fpFinish_from (s : State) (cause : BitVec 6) (done : State → State) (hd : ∀ t, (done t).kept = t.kept) :
    OutFrom s (s.fpFinish cause done) :=
  ite_from (OutFrom.trans evolves_of_kept (raise_from _ _))
    (advance_from (State.Evolves.trans evolves_of_kept (evolves_of_kept (hd (s.recordFp cause)))))

theorem finishW_from (s : State) (fd : RegNum) (r : FpResult) : OutFrom s (s.finishW fd r) := fpFinish_from s _ _ fun _ => rfl

theorem finishD_from (s : State) (fd : RegNum) (r : FpResult) : OutFrom s (s.finishD fd r) := fpFinish_from s _ _ fun _ => rfl

theorem finishPs_from (s : State) (fd : RegNum) (high low : FpResult) : OutFrom s (s.finishPs fd high low) :=
  fpFinish_from s _ _ fun _ => rfl

theorem compareS_from (s : State) (cond : BitVec 4) (fs ft : RegNum) : OutFrom s (s.compareS cond fs ft) :=
  whenCp1_from (fpFinish_from s _ _ fun _ => rfl)

theorem compareD_from (s : State) (cond : BitVec 4) (fs ft : RegNum) : OutFrom s (s.compareD cond fs ft) :=
  whenPairs_from (fpFinish_from s _ _ fun _ => rfl)

theorem comparePs_from (s : State) (cond : BitVec 4) (fs ft : RegNum) : OutFrom s (s.comparePs cond fs ft) :=
  whenPairs_from (fpFinish_from s _ _ fun _ => rfl)

theorem writeFcsr_from (s : State) (f : Fcsr) : OutFrom s (s.writeFcsr f) :=
  ite_from (OutFrom.trans evolves_of_kept (raise_from _ _)) (advance_from evolves_of_kept)

/-! ### Lines -/

theorem lineKey_lt {set way sets : Nat} (hs : set < sets) (hw : way < 4) : lineKey set way < sets * 4 := by
  unfold lineKey; omega

theorem l1Set_lt (va : Word) : l1Set va < 512 := (va.extractLsb' 5 9).isLt

theorem l2Set_lt (pa : PAddr) : l2Set pa < 4096 := (pa.extractLsb' 5 12).isLt

/-- The ways of a set that exists. -/
theorem mem_ways_lt {set sets k : Nat} (hs : set < sets) (h : k ∈ (List.range 4).map (lineKey set)) : k < sets * 4 := by
  obtain ⟨way, hw, rfl⟩ := List.mem_map.mp h
  exact lineKey_lt hs (List.mem_range.mp hw)

theorem mem_l1AliasSets_lt {pa : PAddr} {set : Nat} (h : set ∈ l1AliasSets pa) : set < 512 := by
  obtain ⟨i, hi, rfl⟩ := List.mem_map.mp h
  have := (pa.extractLsb' 5 7).isLt
  have := List.mem_range.mp hi
  omega

theorem mem_iHits_lt {s : State} {set k : Nat} {pa : PAddr} (hs : set < 512) (h : k ∈ s.iHits set pa) : k < 2048 :=
  mem_ways_lt hs (List.mem_filter.mp h).1

theorem mem_dHits_lt {s : State} {set k : Nat} {pa : PAddr} (hs : set < 512) (h : k ∈ s.dHits set pa) : k < 2048 :=
  mem_ways_lt hs (List.mem_filter.mp h).1

theorem mem_l2Hits_lt {s : State} {k : Nat} {pa : PAddr} (h : k ∈ s.l2Hits pa) : k < 16384 :=
  mem_ways_lt (l2Set_lt pa) (List.mem_filter.mp h).1

theorem mem_iCopies_lt {s : State} {k : Nat} {pa : PAddr} (h : k ∈ s.iCopies pa) : k < 2048 := by
  obtain ⟨set, hs, hk⟩ := List.mem_flatMap.mp h
  exact mem_iHits_lt (mem_l1AliasSets_lt hs) hk

theorem mem_dCopies_lt {s : State} {k : Nat} {pa : PAddr} (h : k ∈ s.dCopies pa) : k < 2048 := by
  obtain ⟨set, hs, hk⟩ := List.mem_flatMap.mp h
  exact mem_dHits_lt (mem_l1AliasSets_lt hs) hk

/-- The line that answers is one of those that hit. -/
theorem oneOf_mem {s : State} {lookup k : Nat} {hits : List Nat} (h : s.oneOf lookup hits = some k) : k ∈ hits := by
  cases hits with
  | nil => simp at h
  | cons j rest =>
    have hlt := drawBelow_lt s (j :: rest).length (.way lookup) (by simp)
    rw [State.oneOf, Option.some.injEq, List.getD_eq_getElem _ _ hlt] at h
    exact h ▸ List.getElem_mem hlt

theorem put_lines {α : Type} {l : List (Nat × α)} {k n : Nat} {v : α} (hk : k < n) (h : ∀ p ∈ l, p.1 < n) :
    ∀ p ∈ Lines.put l k v, p.1 < n := by
  intro p hp
  rcases Lines.mem_put l k v p hp with rfl | hp
  · exact hk
  · exact h p hp

theorem setIline_evolves (s : State) {k : Nat} (l : ILine) (hk : k < 2048) : s.Evolves (s.setIline k l) :=
  ⟨fun h => { h with icache := Lines.put_sorted _ k l h.icache, icacheLines := put_lines hk h.icacheLines }, id⟩

theorem setDline_evolves (s : State) {k : Nat} (l : DLine) (hk : k < 2048) : s.Evolves (s.setDline k l) :=
  ⟨fun h => { h with dcache := Lines.put_sorted _ k l h.dcache, dcacheLines := put_lines hk h.dcacheLines }, id⟩

theorem setL2line_evolves (s : State) {k : Nat} (l : L2Line) (hk : k < 16384) : s.Evolves (s.setL2line k l) :=
  ⟨fun h => { h with l2 := Lines.put_sorted _ k l h.l2, l2Lines := put_lines hk h.l2Lines }, id⟩

theorem settle_evolves (s : State) : s.Evolves s.settle := evolves_of_kept

theorem dropI_evolves (s : State) {k : Nat} (hk : k < 2048) : s.Evolves (s.dropI k) := setIline_evolves s _ hk

theorem dropD_evolves (s : State) {k : Nat} (hk : k < 2048) : s.Evolves (s.dropD k) :=
  (setDline_evolves s _ hk).trans (settle_evolves _)

/-- The L2 line that takes the data of a D-cache line exists. -/
theorem writeBackD_evolves (s : State) (k : Nat) : s.Evolves (s.writeBackD k) := by
  dsimp only [State.writeBackD]
  split
  · refine setL2line_evolves s _ ?_
    cases ho : s.oneOf 4 (s.l2Hits (s.dlineBase k)) with
    | none => exact lineKey_lt (l2Set_lt _) (s.dline k).scWay.isLt
    | some j => exact mem_l2Hits_lt (oneOf_mem ho)
  · exact State.Evolves.refl s

/-! ### Memory and the gather buffer -/

theorem evolves_of_storedPast {s t : State} (hf : s.StoredPast t) (hwf : Memory.wf s.memory = true → Memory.wf t.memory = true) :
    s.Evolves t := by
  unfold State.StoredPast at hf
  rw [hf]
  exact ⟨fun h => { h with memory := hwf h.memory }, id⟩

theorem writeBytes_evolves (s : State) (pa : PAddr) (n v : Nat) : s.Evolves (s.writeBytes pa n v) :=
  evolves_of_storedPast (writeBytes_frame s pa n v) (writeBytes_wf s pa n v)

/-- Issuing the stores that wait, whatever waited before. -/
theorem drainGather_evolves_of (s : State) (l : List GatheredStore) : s.Evolves ({ s with gather := l } : State).drainGather := by
  have hwf := drainGather_wf { s with gather := l }
  rw [drainGather_frame]
  exact ⟨fun h => { h with memory := hwf h.memory, gather := by simp [State.gatheredBytes] }, id⟩

theorem drainGather_evolves (s : State) : s.Evolves s.drainGather := drainGather_evolves_of s s.gather

/-- A store that fills the buffer is issued with it, so less than a line waits (20_memory.md R163). -/
theorem gatherStore_evolves (s : State) (pa : PAddr) (n : Nat) (v : Word) : s.Evolves (s.gatherStore pa n v) := by
  have hdrained : s.Evolves (if s.gatherContinues pa n then s else s.drainGather) := by
    split
    · exact State.Evolves.refl s
    · exact drainGather_evolves s
  refine hdrained.trans ?_
  simp only [State.gatherStore]
  generalize (if s.gatherContinues pa n then s else s.drainGather) = t
  split
  · exact drainGather_evolves_of t _
  · next hfew => exact ⟨fun h => { h with gather := not_le.mp hfew }, id⟩

theorem noteUncached_evolves (t s : State) (pa : PAddr) (n : Nat) : t.Evolves (t.noteUncached s pa n) := evolves_of_kept

theorem storeUncached_evolves (s : State) (pa : PAddr) (n v : Nat) : s.Evolves (s.storeUncached pa n v) :=
  ((drainGather_evolves s).trans (writeBytes_evolves _ pa n v)).trans (noteUncached_evolves _ s pa n)

theorem storeAccelerated_evolves (s : State) (pa : PAddr) (n : Nat) (v : Word) : s.Evolves (s.storeAccelerated pa n v) :=
  (gatherStore_evolves s pa n v).trans (noteUncached_evolves _ s pa n)

/-! ### Fills and write-backs -/

theorem dropL1Copies_evolves (s : State) {k : Nat} (keep : Bool) (hk : k < 16384) : s.Evolves (s.dropL1Copies k keep) := by
  dsimp only [State.dropL1Copies]
  refine State.Evolves.trans ?_ ((foldl_evolves State.dropI _ _ fun t j hj => dropI_evolves t (mem_iCopies_lt hj)).trans
    (foldl_evolves State.dropD _ _ fun t j hj => dropD_evolves t (mem_dCopies_lt hj)))
  split
  · exact setL2line_evolves s _ hk
  · exact State.Evolves.refl s

theorem dropL2_evolves (s : State) {k : Nat} (keep : Bool) (hk : k < 16384) : s.Evolves (s.dropL2 k keep) := by
  dsimp only [State.dropL2]
  split
  · refine (dropL1Copies_evolves s keep hk).trans (State.Evolves.trans ?_ ((setL2line_evolves _ _ hk).trans (settle_evolves _)))
    split
    · exact writeBytes_evolves _ _ _ _
    · exact State.Evolves.refl _
  · exact State.Evolves.refl s

theorem ensureL2_from (s : State) (pa : PAddr) (fetch : Bool) : (s.ensureL2 pa fetch).From s fun _ => True := by
  dsimp only [State.ensureL2]
  split
  · exact ⟨trivial, State.Evolves.refl s⟩
  · refine run_from _ fun _ => ⟨trivial, ?_⟩
    have hk := lineKey_lt (l2Set_lt pa) (drawBelow_lt s 4 (.victimL2 fetch) (by decide))
    exact (dropL2_evolves s true hk).trans (setL2line_evolves _ _ hk)

theorem ensureD_from (s : State) (va : Word) (pa : PAddr) : (s.ensureD va pa).From s (· < 2048) := by
  dsimp only [State.ensureD]
  split
  · next k hit => exact ⟨mem_dHits_lt (l1Set_lt va) (oneOf_mem hit), State.Evolves.refl s⟩
  · refine Run.From.bind (ensureL2_from s pa false) fun below t _ => ?_
    have hk := lineKey_lt (l1Set_lt va) (drawBelow_lt t 4 .victimD (by decide))
    exact ⟨hk, ((writeBackD_evolves t _).trans (dropD_evolves _ hk)).trans (setDline_evolves _ _ hk)⟩

theorem ensureI_from (s : State) (va : Word) (pa : PAddr) : (s.ensureI va pa).From s fun _ => True := by
  dsimp only [State.ensureI]
  split
  · exact ⟨trivial, State.Evolves.refl s⟩
  · refine Run.From.bind (ensureL2_from s pa true) fun below t _ => ⟨trivial, ?_⟩
    exact setIline_evolves t _ (lineKey_lt (l1Set_lt va) (drawBelow_lt t 4 .victimI (by decide)))

/-! ### Fetches, loads and stores -/

theorem loadUncached_from (s : State) (pa : PAddr) (n : Nat) : (s.loadUncached pa n).From s fun _ => True :=
  run_from _ fun _ => ⟨trivial, State.Evolves.refl s⟩

theorem loadCached_from (s : State) (va : Word) (pa : PAddr) (n : Nat) : (s.loadCached va pa n).From s fun _ => True :=
  Run.From.bind (ensureD_from s va pa) fun _ t _ => run_from _ fun _ => ⟨trivial, State.Evolves.refl t⟩

theorem storeLine_evolves (s : State) (va : Word) (pa : PAddr) {k : Nat} (n v : Nat) (hk : k < 2048) :
    s.Evolves (s.storeLine va pa k n v) :=
  (setDline_evolves s _ hk).trans evolves_of_kept

theorem storeCached_from (s : State) (va : Word) (pa : PAddr) (n v : Nat) : (s.storeCached va pa n v).From s fun _ => True := by
  have hline := ensureD_from s va pa
  unfold State.storeCached
  cases hd : s.ensureD va pa with
  | ok k t =>
    rw [hd] at hline
    exact Run.From.trans hline.2 (run_from _ fun _ => ⟨trivial, storeLine_evolves t va pa n v hline.1⟩)
  | raise e t => exact run_from _ fun _ => ⟨trivial, storeUncached_evolves s pa n v⟩
  | refuse r => trivial
  | fault f => trivial

theorem memRead_from (s : State) (va : Word) (pa : PAddr) (attr : BitVec 3) (n : Nat) :
    (s.memRead va pa attr n).From s fun _ => True := by
  unfold State.memRead
  split
  · trivial
  · split
    · exact loadCached_from s va pa n
    · exact loadUncached_from s pa n

theorem memWrite_from (s : State) (va : Word) (pa : PAddr) (attr : BitVec 3) (n : Nat) (v : Word) :
    (s.memWrite va pa attr n v).From s fun _ => True := by
  unfold State.memWrite
  split
  · exact storeCached_from s va pa n _
  · refine run_from _ fun _ => ⟨trivial, ?_⟩
    split
    · exact storeAccelerated_evolves s pa n v
    · exact storeUncached_evolves s pa n _

theorem watchCheck_from (s : State) (kind : Access) (va : Word) (pa : PAddr) (attr : BitVec 3) :
    (s.watchCheck kind va pa attr).From s fun _ => True := by
  have hline := ensureD_from s va pa
  unfold State.watchCheck
  split
  · exact ⟨trivial, State.Evolves.refl s⟩
  · split
    · exact ⟨trivial, evolves_of_kept⟩
    · split
      · split
        · next k t hd => rw [hd] at hline; exact hline.2
        · exact State.Evolves.refl s
      · exact State.Evolves.refl s

theorem prepare_from (s : State) (kind : Access) (va : Word) (align : Nat) : (s.prepare kind va align).From s fun _ => True :=
  run_from _ fun _ => Run.From.bind (watchCheck_from s kind va _ _) fun _ t _ => ⟨trivial, State.Evolves.refl t⟩

theorem loadVirt_from (s : State) (va : Word) (n : Nat) : (s.loadVirt va n).From s fun _ => True :=
  Run.From.bind (prepare_from s .load va n) fun _ t _ =>
    Run.From.bind (memRead_from t va _ _ n) fun _ u _ => ⟨trivial, State.Evolves.refl u⟩

theorem loadPart_from (s : State) (va : Word) (size skip n : Nat) : (s.loadPart va size skip n).From s fun _ => True :=
  Run.From.bind (prepare_from s .load va size) fun _ t _ =>
    Run.From.bind (memRead_from t _ _ _ n) fun _ u _ => ⟨trivial, State.Evolves.refl u⟩

theorem storeVirt_from (s : State) (va : Word) (align n : Nat) (v : Word) : (s.storeVirt va align n v).From s fun _ => True :=
  Run.From.bind (prepare_from s .store va align) fun _ t _ => memWrite_from t va _ _ n v

theorem fetch_from (s : State) : s.fetch.From s fun _ => True := by
  refine run_from _ fun r => Run.From.bind (P := fun _ => True) ?_ fun _ t _ => ⟨trivial, State.Evolves.refl t⟩
  split
  · exact Run.From.bind (ensureI_from s _ _) fun _ t _ => run_from _ fun _ => ⟨trivial, State.Evolves.refl t⟩
  · exact run_from _ fun _ => ⟨trivial, State.Evolves.refl s⟩

/-! ### Load and store instructions -/

theorem loadTo_from (s : State) (rt : RegNum) (va : Word) (n : Nat) (value : Word → Word) : OutFrom s (s.loadTo rt va n value) :=
  finish_from (P := fun _ => True) (Run.From.bind (loadVirt_from s va n) fun _ t _ => ⟨trivial, setGpr_evolves t rt _⟩)

theorem loadPartTo_from (s : State) (rt : RegNum) (va : Word) (size skip n : Nat) (value : Word → Word) :
    OutFrom s (s.loadPartTo rt va size skip n value) :=
  finish_from (P := fun _ => True) (Run.From.bind (loadPart_from s va size skip n) fun _ t _ => ⟨trivial, setGpr_evolves t rt _⟩)

theorem storeFrom_from (s : State) (va : Word) (align n : Nat) (v : Word) : OutFrom s (s.storeFrom va align n v) :=
  finish_from (storeVirt_from s va align n v)

theorem loadLinked_from (s : State) (rt : RegNum) (va : Word) (n : Nat) (value : Word → Word) :
    OutFrom s (s.loadLinked rt va n value) := by
  refine finish_from (P := fun _ => True) (Run.From.bind (prepare_from s .load va n) fun r t _ => ?_)
  split
  · trivial
  · exact Run.From.bind (memRead_from t va _ _ n) fun _ u _ =>
      ⟨trivial, State.Evolves.trans evolves_of_kept (setGpr_evolves (u.setLink r.1) rt _)⟩

theorem setGpr_conditional_evolves (s : State) (rt : RegNum) (v : Word) : s.Evolves (s.afterConditional.setGpr rt v) :=
  State.Evolves.trans evolves_of_kept (setGpr_evolves s.afterConditional rt v)

theorem storeConditional_from (s : State) (rt : RegNum) (va : Word) (n : Nat) : OutFrom s (s.storeConditional rt va n) := by
  refine finish_from (P := fun _ => True) (Run.From.bind (prepare_from s .store va n) fun r t _ => ?_)
  split
  · trivial
  · split
    · trivial
    · split
      · exact ⟨trivial, setGpr_conditional_evolves t rt 0⟩
      · exact Run.From.bind (memWrite_from t va _ _ n _) fun _ u _ => ⟨trivial, setGpr_conditional_evolves u rt 1⟩

theorem lwc1_from (s : State) (ft base : RegNum) (offset : BitVec 16) : OutFrom s (execLwc1 ft offset base s) :=
  whenCp1_from (finish_from (P := fun _ => True) (Run.From.bind (loadVirt_from s _ 4) fun _ _ _ => ⟨trivial, evolves_of_kept⟩))

theorem ldc1_from (s : State) (ft base : RegNum) (offset : BitVec 16) : OutFrom s (execLdc1 ft offset base s) :=
  whenPairs_from (finish_from (P := fun _ => True) (Run.From.bind (loadVirt_from s _ 8) fun _ _ _ => ⟨trivial, evolves_of_kept⟩))

end Machine
end Sys2Proof
end

section
/-! PROOF. What one step keeps, continued: CP0 and CACHE, the instructions by the shared operation that each one is, and the events. -/

namespace Sys2Proof
namespace Machine

/-! ### CP0 -/

/-- A CP0 register write that passes leaves a state that comes from `s`. -/
def ChkFrom (s : State) (c : Chk State) : Prop := ∀ t, c = .pass t → s.Evolves t

theorem pass_from {s t : State} (h : s.Evolves t) : ChkFrom s (.pass t) := by
  rintro u ⟨⟩; exact h

theorem refuse_from (s : State) (r : Refusal) : ChkFrom s (.refuse r) := by rintro u ⟨⟩

theorem whenReservedZero_from {s t : State} (v mask : Word32) (h : s.Evolves t) : ChkFrom s (whenReservedZero v mask t) := by
  unfold whenReservedZero
  split
  · exact pass_from h
  · exact refuse_from s _

theorem entryLo_from (s : State) (c : Chk EntryLo) (k : EntryLo → State) (h : ∀ l, (k l).kept = s.kept) :
    ChkFrom s (c.bind fun l => .pass (k l)) := by
  cases c with
  | pass l => exact pass_from (evolves_of_kept (h l))
  | raise e => rintro u ⟨⟩
  | refuse r => rintro u ⟨⟩
  | fault f => rintro u ⟨⟩

/-- A write of Wired sets Random to 63, the top of its range (10_state.md R44). -/
theorem writeWired_from (s : State) (v : Word32) : ChkFrom s (s.writeWired v) :=
  whenReservedZero_from v _ ⟨fun h => { h with random := Nat.le_of_lt_succ (v.extractLsb' 0 6).isLt }, id⟩

theorem writeConfig_from (s : State) (v : Word32) : ChkFrom s (s.writeConfig v) := by
  unfold State.writeConfig
  split
  · exact refuse_from s _
  · exact whenReservedZero_from _ _ evolves_of_kept

/-- A write of any CP0 register but Compare. -/
theorem cp0Write_from (s : State) (r : RegNum) (v : Word) (exact : Bool) (hr : r ≠ 11) : ChkFrom s (s.cp0Write r v exact) := by
  unfold State.cp0Write
  split
  case h_7 => exact writeWired_from s _
  case h_11 h => exact absurd (BitVec.eq_of_toNat_eq h) hr
  case h_3 | h_4 => exact entryLo_from s _ _ fun _ => rfl
  case h_1 | h_5 | h_6 | h_12 | h_20 => exact whenReservedZero_from _ _ evolves_of_kept
  case h_16 => exact writeConfig_from s _
  case h_27 => exact refuse_from s _
  all_goals exact pass_from evolves_of_kept

theorem moveToCp0_from (s : State) (rd : RegNum) (v : Word) (exact : Bool) (hr : rd ≠ 11) :
    OutFrom s (s.moveToCp0 rd v exact) := by
  have hw := cp0Write_from s rd v exact hr
  refine whenCp0_from (finish_from (P := fun _ => True) ?_)
  cases hc : s.cp0Write rd v exact with
  | pass t => exact ⟨trivial, hw t hc⟩
  | raise e => exact State.Evolves.refl s
  | refuse r => trivial
  | fault f => trivial

theorem moveFromCp0_from (s : State) (rt rd : RegNum) (value : Word → Word) : OutFrom s (s.moveFromCp0 rt rd value) := by
  have hread : OutFrom s (match s.cp0Read rd with
      | some v => s.writeGpr rt (value v)
      | none => .refused .unnamedCp0Register) := by
    split
    · exact writeGpr_from s rt _
    · exact refused_from s _
  exact ite_from hread (whenCp0_from hread)

/-- MTC0 and DMTC0 to Compare: where CP0 is usable, Compare is written and the timer request cleared (46_cp0.md R451, R453,
60_exceptions.md R643). -/
theorem moveToCp0_compare (s : State) (v : Word) (exact : Bool) :
    s.moveToCp0 11 v exact = s.whenCp0 { s with cp0 := { s.cp0 with compare := low32 v }, timerIp := false : State }.advance := rfl

theorem tlbp_from (s : State) : OutFrom s (execTlbp s) := by
  refine whenCp0_from ?_
  split
  · exact advance_from evolves_of_kept
  · exact advance_from evolves_of_kept
  · exact fault_from s _

theorem tlbr_from (s : State) : OutFrom s (execTlbr s) := whenCp0_from (advance_from evolves_of_kept)

theorem writeTlb_from (s : State) (i : BitVec 6) : OutFrom s (s.writeTlb i) :=
  whenCp0_from (ite_from (refused_from s _) (ite_from (advance_from evolves_of_kept) (refused_from s _)))

theorem exceptionReturn_evolves (s : State) : s.Evolves s.exceptionReturn := by
  unfold State.exceptionReturn
  split <;> exact evolves_of_kept

theorem eret_from (s : State) : OutFrom s (execEret s) := whenCp0_from (outsideSlot_from (next_from (exceptionReturn_evolves s)))

/-! ### CACHE -/

theorem dIndexKey_lt (va : Word) : dIndexKey va < 2048 := lineKey_lt (l1Set_lt va) (Nat.mod_lt _ (by decide))

theorem sIndexKey_lt (pa : PAddr) : sIndexKey pa < 16384 := lineKey_lt (l2Set_lt pa) (Nat.mod_lt _ (by decide))

theorem invalidateCode_evolves (s : State) (va : Word) : s.Evolves (s.invalidateCode va) := evolves_of_kept

theorem pushCode_evolves (s : State) (line : Option Nat) (back : Bool) : s.Evolves (s.pushCode line back) := evolves_of_kept

theorem cacheIndexInvalidateI_evolves (s : State) (va : Word) : s.Evolves (s.cacheIndexInvalidateI va) :=
  (foldl_evolves State.dropI _ s fun t _ hk => dropI_evolves t (mem_ways_lt (l1Set_lt va) hk)).trans (invalidateCode_evolves _ va)

theorem cacheIndexWriteBackInvalidateD_evolves (s : State) (va : Word) : s.Evolves (s.cacheIndexWriteBackInvalidateD va) :=
  ((writeBackD_evolves s _).trans (dropD_evolves _ (dIndexKey_lt va))).trans (pushCode_evolves _ _ true)

theorem cacheIndexWriteBackInvalidateS_evolves (s : State) (pa : PAddr) : s.Evolves (s.cacheIndexWriteBackInvalidateS pa) :=
  (dropL2_evolves s true (sIndexKey_lt pa)).trans (pushCode_evolves _ _ true)

theorem cacheHitInvalidateD_evolves (s : State) (va : Word) (pa : PAddr) : s.Evolves (s.cacheHitInvalidateD va pa) :=
  foldl_evolves State.dropD _ s fun t _ hk => dropD_evolves t (mem_dHits_lt (l1Set_lt va) hk)

theorem cacheHitWriteBackInvalidateD_evolves (s : State) (va : Word) (pa : PAddr) :
    s.Evolves (s.cacheHitWriteBackInvalidateD va pa) :=
  (foldl_evolves _ _ s fun t k hk =>
    (writeBackD_evolves t k).trans (dropD_evolves _ (mem_dHits_lt (l1Set_lt va) hk))).trans (pushCode_evolves _ _ true)

theorem dropL2Hits_evolves (s : State) (pa : PAddr) (keep : Bool) :
    s.Evolves ((s.l2Hits pa).foldl (fun t k => t.dropL2 k keep) s) :=
  foldl_evolves _ _ s fun t _ hk => dropL2_evolves t keep (mem_l2Hits_lt hk)

/-- Every listed operation stays within the relation. -/
theorem cacheOp_evolves (s t : State) (op : BitVec 5) (va : Word) (pa : PAddr) (h : s.cacheOp op va pa = some t) :
    s.Evolves t := by
  unfold State.cacheOp at h
  split at h <;> cases h
  case h_1 => exact cacheIndexInvalidateI_evolves s va
  case h_2 => exact cacheIndexWriteBackInvalidateD_evolves s va
  case h_3 | h_7 | h_10 | h_14 => exact evolves_of_kept
  case h_4 => exact (setDline_evolves s _ (dIndexKey_lt va)).trans (settle_evolves _)
  case h_5 => exact cacheHitInvalidateD_evolves s va pa
  case h_6 => exact cacheHitWriteBackInvalidateD_evolves s va pa
  case h_8 => exact setDline_evolves s _ (dIndexKey_lt va)
  case h_9 => exact cacheIndexWriteBackInvalidateS_evolves s pa
  case h_11 => exact (setL2line_evolves s _ (sIndexKey_lt pa)).trans (settle_evolves _)
  case h_12 => exact (dropL2Hits_evolves s pa false).trans (pushCode_evolves _ _ false)
  case h_13 => exact (dropL2Hits_evolves s pa true).trans (pushCode_evolves _ _ true)
  case h_15 => exact setL2line_evolves s _ (sIndexKey_lt pa)

theorem cache_from (s : State) (op : BitVec 5) (offset : BitVec 16) (base : RegNum) : OutFrom s (execCache op offset base s) := by
  refine whenCp0_from (finish_from (P := fun _ => True) (run_from _ fun r => ?_))
  split
  · trivial
  · next t ht =>
    split
    · exact ⟨trivial, cacheOp_evolves s t op _ _ ht⟩
    · trivial

end Machine
end Sys2Proof
end

section
/-! PROOF. What one step keeps, concluded. -/

namespace Sys2Proof
namespace Machine

/-! ### Instructions, by the shared operation that each one is -/

theorem cfc1_from (s : State) (rt fs : RegNum) : OutFrom s (execCfc1 rt fs s) := by
  refine whenCp1_from ?_
  split
  · exact writeGpr_from s rt _
  · exact writeGpr_from s rt _
  · exact refused_from s _

theorem ctc1_from (s : State) (rt fs : RegNum) : OutFrom s (execCtc1 rt fs s) := by
  refine whenCp1_from ?_
  split
  · exact advance_from (State.Evolves.refl s)
  · exact writeFcsr_from s _
  · exact refused_from s _

theorem sync_from (s : State) : OutFrom s (execSync s) :=
  advance_from ((drainGather_evolves s).trans evolves_of_kept)

/-- No instruction loses the invariant or a timer request, but for the writes of Compare, which are left out here. -/
theorem exec_from (i : Instr) (s : State) (hm : ∀ rt, i ≠ .mtc0 rt 11) (hd : ∀ rt, i ≠ .dmtc0 rt 11) : OutFrom s (exec i s) := by
  cases i with
  | lb | lbu | lh | lhu | lw | lwu | ld => exact loadTo_from s _ _ _ _
  | lwl | lwr | ldl | ldr => exact loadPartTo_from s _ _ _ _ _ _
  | ll => exact loadLinked_from s _ _ 4 fun v => sext32 (low32 v)
  | lld => exact loadLinked_from s _ _ 8 fun v => v
  | sb | sh | sw | sd | swl | swr | sdl | sdr => exact storeFrom_from s _ _ _ _
  | sc | scd => exact storeConditional_from s _ _ _
  | sync => exact sync_from s
  | addi | add | sub => exact trappingWord_from s _ _ _ _
  | daddi | dadd | dsub => exact trappingDouble_from s _ _ _
  | addiu | daddiu | slti | sltiu | andi | ori | xori | lui | addu | daddu | subu | dsubu | slt | sltu | and | or | xor | nor =>
    exact writeGpr_from s _ _
  | mfhi | mflo | multG | multuG | dmultG | dmultuG | divG | divuG | modG | moduG | ddivG | ddivuG | dmodG | dmoduG =>
    exact writeGpr_from s _ _
  | sll | srl | sra | sllv | srlv | srav | dsll | dsrl | dsra | dsllv | dsrlv | dsrav | dsll32 | dsrl32 | dsra32 =>
    exact writeGpr_from s _ _
  | mult | multu => exact whenWords_from _ _ (writeHiLo_from s _ _)
  | div | divu => exact whenWords_from _ _ (ite_from (writeHiLo_from s _ _) (writeHiLo_from s _ _))
  | dmult | dmultu | mthi | mtlo => exact writeHiLo_from s _ _
  | ddiv | ddivu => exact ite_from (writeHiLo_from s _ _) (writeHiLo_from s _ _)
  | j | jr => exact outsideSlot_from (enterSlot_from (State.Evolves.refl s) _)
  | jal => exact outsideSlot_from (enterSlot_from (setGpr_evolves s _ _) _)
  | jalr => exact outsideSlot_from (ite_from (refused_from s _) (enterSlot_from (setGpr_evolves s _ _) _))
  | beq | bne | blez | bgtz | bltz | bgez => exact branch_from s _ _
  | bltzal | bgezal => exact linkBranch_from s _ _ _
  | beql | bnel | blezl | bgtzl | bltzl | bgezl => exact likely_from s _ _
  | bltzall | bgezall => exact linkLikely_from s _ _ _
  | bc1f | bc1t => exact whenCp1_from (branch_from s _ _)
  | bc1fl | bc1tl => exact whenCp1_from (likely_from s _ _)
  | syscall | break_ => exact raise_from s _
  | tge | tgeu | tlt | tltu | teq | tne | tgei | tgeiu | tlti | tltiu | teqi | tnei => exact trapWhen_from s _
  | mfc0 | dmfc0 => exact moveFromCp0_from s _ _ _
  | mtc0 rt rd => exact moveToCp0_from s rd _ _ fun h => hm rt (h ▸ rfl)
  | dmtc0 rt rd => exact moveToCp0_from s rd _ _ fun h => hd rt (h ▸ rfl)
  | tlbp => exact tlbp_from s
  | tlbr => exact tlbr_from s
  | tlbwi | tlbwr => exact writeTlb_from s _
  | eret => exact eret_from s
  | cache => exact cache_from s _ _ _
  | mfc1 => exact whenCp1_from (writeGpr_from s _ _)
  | dmfc1 => exact whenPairs_from (writeGpr_from s _ _)
  | mtc1 | movS => exact whenCp1_from (advance_from evolves_of_kept)
  | dmtc1 | movD | movPs => exact whenPairs_from (advance_from evolves_of_kept)
  | cfc1 => exact cfc1_from s _ _
  | ctc1 => exact ctc1_from s _ _
  | lwc1 => exact lwc1_from s _ _ _
  | ldc1 => exact ldc1_from s _ _ _
  | swc1 => exact whenCp1_from (finish_from (storeVirt_from s _ _ _ _))
  | sdc1 => exact whenPairs_from (finish_from (storeVirt_from s _ _ _ _))
  | cFS | cUnS | cEqS | cUeqS | cOltS | cUltS | cOleS | cUleS | cSfS | cNgleS | cSeqS | cNglS | cLtS | cNgeS | cLeS | cNgtS =>
    exact compareS_from s _ _ _
  | cFD | cUnD | cEqD | cUeqD | cOltD | cUltD | cOleD | cUleD | cSfD | cNgleD | cSeqD | cNglD | cLtD | cNgeD | cLeD | cNgtD =>
    exact compareD_from s _ _ _
  | cFPs | cUnPs | cEqPs | cUeqPs | cOltPs | cUltPs | cOlePs | cUlePs | cSfPs | cNglePs | cSeqPs | cNglPs | cLtPs | cNgePs
  | cLePs | cNgtPs => exact comparePs_from s _ _ _
  | addS | subS | mulS | divS | sqrtS | absS | negS | maddS | msubS | nmaddS | nmsubS | cvtSW =>
    exact whenCp1_from (finishW_from s _ _)
  | addD | subD | mulD | divD | sqrtD | absD | negD | maddD | msubD | nmaddD | nmsubD | cvtDS | cvtDW | cvtDL =>
    exact whenPairs_from (finishD_from s _ _)
  | addPs | subPs | mulPs | absPs | negPs | maddPs | msubPs | nmaddPs | nmsubPs => exact whenPairs_from (finishPs_from s _ _ _)
  | roundLS | roundLD | truncLS | truncLD | ceilLS | ceilLD | floorLS | floorLD | cvtLS | cvtLD =>
    exact whenPairs_from (finishD_from s _ _)
  | roundWS | roundWD | truncWS | truncWD | ceilWS | ceilWD | floorWS | floorWD | cvtWS | cvtWD | cvtSD | cvtSL =>
    exact whenPairs_from (finishW_from s _ _)

/-! ### Decoded words -/

/-- The instruction is a write of Compare. -/
def Decoded.writesCompare (d : Decoded) : Prop := ∃ rt, d = .instr (.mtc0 rt 11) ∨ d = .instr (.dmtc0 rt 11)

theorem execDecoded_from (d : Decoded) (s : State) (h : ¬Decoded.writesCompare d) : OutFrom s (execDecoded d s) := by
  cases d with
  | instr i =>
    exact exec_from i s (fun rt hi => h ⟨rt, .inl (hi ▸ rfl)⟩) fun rt hi => h ⟨rt, .inr (hi ▸ rfl)⟩
  | reserved => exact raise_from s _
  | cop0Other => exact whenCp0_from (refused_from s _)
  | cop1Other => exact whenCp1_from (refused_from s _)
  | cop2 => exact ite_from (refused_from s _) (raise_from s _)
  | refused r => exact refused_from s _

/-- A write of Compare keeps the invariant, though not the timer request. -/
theorem moveToCp0_compare_inv (s t : State) (v : Word) (exact : Bool) (hi : s.Inv) (h : s.moveToCp0 11 v exact = .next t) :
    t.Inv := by
  rw [moveToCp0_compare] at h
  unfold State.whenCp0 at h
  split at h
  · exact (advance_from (State.Evolves.refl _) t h).inv { hi with }
  · exact (raise_from s _ t h).inv hi

theorem execDecoded_inv (d : Decoded) (s t : State) (hi : s.Inv) (h : execDecoded d s = .next t) : t.Inv := by
  by_cases hc : Decoded.writesCompare d
  · obtain ⟨rt, rfl | rfl⟩ := hc
    · exact moveToCp0_compare_inv s t _ _ hi h
    · exact moveToCp0_compare_inv s t _ _ hi h
  · exact (execDecoded_from d s hc t h).inv hi

/-- An instruction step either executes the word that the fetch answers, or takes the exception of the fetch. -/
theorem runFetched_cases (s t : State) (h : s.runFetched = .next t) :
    (∃ w u, s.fetch = .ok w u ∧ execDecoded (decode w) u = .next t) ∨ ∃ e u, s.fetch = .raise e u ∧ t = u.takeException e := by
  unfold State.runFetched at h
  split at h
  · next w u hf => exact .inl ⟨w, u, hf, h⟩
  · next e u hf => cases h; exact .inr ⟨e, u, hf, rfl⟩
  · cases h
  · cases h

theorem fetch_ok_evolves {s u : State} {w : Word32} (h : s.fetch = .ok w u) : s.Evolves u := by
  have hf := fetch_from s
  rw [h] at hf
  exact hf.2

theorem fetch_raise_evolves {s u : State} {e : Exc} (h : s.fetch = .raise e u) : s.Evolves u := by
  have hf := fetch_from s
  rw [h] at hf
  exact hf

theorem runFetched_inv (s t : State) (hi : s.Inv) (h : s.runFetched = .next t) : t.Inv := by
  rcases runFetched_cases s t h with ⟨w, u, hf, hx⟩ | ⟨e, u, hf, rfl⟩
  · exact execDecoded_inv (decode w) u t ((fetch_ok_evolves hf).inv hi) hx
  · exact ((fetch_raise_evolves hf).trans (takeException_evolves u e)).inv hi

/-- An instruction step that does not write Compare. -/
theorem runFetched_from (s : State) (hc : ∀ w u, s.fetch = .ok w u → ¬Decoded.writesCompare (decode w)) :
    OutFrom s s.runFetched := by
  intro t h
  rcases runFetched_cases s t h with ⟨w, u, hf, hx⟩ | ⟨e, u, hf, rfl⟩
  · exact (fetch_ok_evolves hf).trans (execDecoded_from (decode w) u (hc w u hf) t hx)
  · exact (fetch_raise_evolves hf).trans (takeException_evolves u e)

/-! ### The end of a step -/

/-- Random stays between Wired and 63 (10_state.md R44). -/
theorem tickRandom_range (s : State) (h : s.cp0.wired.toNat ≤ s.cp0.random.toNat) :
    s.cp0.wired.toNat ≤ s.tickRandom.cp0.random.toNat := by
  unfold State.tickRandom
  split
  · exact h
  · have hw := s.cp0.wired.isLt
    have hd := drawBelow_lt s (64 - s.cp0.wired.toNat) .random (by omega)
    simp only [BitVec.toNat_ofNat]
    omega

@[simp] theorem tickRandom_wired (s : State) : s.tickRandom.cp0.wired = s.cp0.wired := by
  unfold State.tickRandom; split <;> rfl

theorem tickRandom_evolves (s : State) : s.Evolves s.tickRandom := by
  refine ⟨fun h => ⟨?_, ?_, ?_, ?_, ?_, ?_, ?_, ?_, ?_, ?_⟩, fun h => by simpa using h⟩
  case refine_8 => simpa using tickRandom_range s h.random
  case refine_9 => simpa [State.gatheredBytes] using h.gather
  case refine_1 => simpa using h.memory
  case refine_10 => simpa using h.count
  all_goals rw [tickRandom_caches]
  · exact h.icache
  · exact h.dcache
  · exact h.l2
  · exact h.icacheLines
  · exact h.dcacheLines
  · exact h.l2Lines

/-- Count stands still only before its window has run out (70_reset_and_hazards.md R730). -/
theorem countIdle_lt_of_countStep_zero (s : State) (h : s.countStep = 0) : s.countIdle < Config.countWindow := by
  unfold State.countStep at h
  split at h
  · exact absurd h (by decide)
  · next hgo => simpa [h] using hgo

theorem tickTime_countIdle (s : State) (c : Bool) : (s.tickTime c).countIdle ≤ Config.countWindow := by
  show (if s.countStep = 0 then s.countIdle + 1 else 0) ≤ Config.countWindow
  split
  · next hz => exact countIdle_lt_of_countStep_zero s hz
  · exact Nat.zero_le _

theorem tickTime_evolves (s : State) (c : Bool) : s.Evolves (s.tickTime c) :=
  ⟨fun h => { h with count := tickTime_countIdle s c }, fun h => by simp [State.tickTime, h]⟩

theorem tickInstruction_evolves (s t : State) : t.Evolves (s.tickInstruction t) :=
  (tickRandom_evolves t).trans (tickTime_evolves _ _)

theorem tickEvent_evolves (s t : State) : t.Evolves (s.tickEvent t) := tickTime_evolves t _

/-! ### Events -/

/-- Every line of the caches is lost, so the lines that are left are in canonical form. -/
theorem loseCaches_evolves (s : State) : s.Evolves s.loseCaches :=
  ⟨fun h => { h with
    icache := rfl
    dcache := rfl
    l2 := rfl
    icacheLines := List.forall_mem_nil _
    dcacheLines := List.forall_mem_nil _
    l2Lines := List.forall_mem_nil _ }, id⟩

theorem takeSoftReset_evolves (s : State) : s.Evolves s.takeSoftReset :=
  (((drainGather_evolves s).trans (evolves_of_kept (t := s.drainGather.errorEntry))).trans (loseCaches_evolves _)).trans
    evolves_of_kept

theorem takeNmi_evolves (s : State) : s.Evolves s.takeNmi := evolves_of_kept

theorem takeWatch_evolves (s : State) : s.Evolves s.takeWatch :=
  State.Evolves.trans evolves_of_kept (takeException_evolves { s with pendingWatch := false } .watch)

@[simp] theorem takeColdReset_memory (s : State) : s.takeColdReset.memory = s.memory := by
  unfold State.takeColdReset; rfl

theorem takeColdReset_inv (s : State) (h : s.Inv) : s.takeColdReset.Inv :=
  { memory := by simpa using h.memory, icache := rfl, dcache := rfl, l2 := rfl, icacheLines := List.forall_mem_nil _,
    dcacheLines := List.forall_mem_nil _,
    l2Lines := List.forall_mem_nil _, random := Nat.zero_le _, gather := Nat.zero_lt_succ _, count := Nat.zero_le _ }

/-! ### The step -/

/-- What a step that answers a next state can be: a cold reset, another event, or an instruction (60_exceptions.md R608, R609). -/
theorem step_cases (s t : State) (h : step s = .next t) :
    (s.pins.coldReset = true ∧ t = s.tickEvent s.takeColdReset) ∨ (∃ u, s.Evolves u ∧ t = s.tickEvent u) ∨
      ∃ u, s.runFetched = .next u ∧ t = s.tickInstruction u := by
  unfold step State.cycle at h
  split at h
  · next hcold => exact .inl ⟨hcold, (Host.Outcome.next.inj h).symm⟩
  · refine .inr ?_
    split at h
    · exact .inl ⟨_, takeSoftReset_evolves s, (Host.Outcome.next.inj h).symm⟩
    split at h
    · exact .inl ⟨_, takeNmi_evolves s, (Host.Outcome.next.inj h).symm⟩
    split at h
    · cases h
    split at h
    · exact .inl ⟨_, takeWatch_evolves s, (Host.Outcome.next.inj h).symm⟩
    split at h
    · exact .inl ⟨_, takeException_evolves s _, (Host.Outcome.next.inj h).symm⟩
    · unfold State.instructionStep finishStep at h
      split at h
      · next u hu => exact .inr ⟨u, hu, (Host.Outcome.next.inj h).symm⟩
      · cases h
      · cases h

/-- Settles O58: every shared operation of the model keeps the invariant, so every event and every instruction does, and the end of
the step. -/
theorem stepKeepsInvariant : Obligations.StepKeepsInvariant := by
  unfold Obligations.StepKeepsInvariant
  intro s t hi h
  rcases step_cases s t h with ⟨-, rfl⟩ | ⟨u, hu, rfl⟩ | ⟨u, hu, rfl⟩
  · exact (tickEvent_evolves s _).inv (takeColdReset_inv s hi)
  · exact (tickEvent_evolves s u).inv (hu.inv hi)
  · exact (tickInstruction_evolves s u).inv (runFetched_inv s u hi hu)

/-- Settles O59. -/
theorem resetHasInvariant : Obligations.ResetHasInvariant :=
  { memory := rfl, icache := rfl, dcache := rfl, l2 := rfl, icacheLines := List.forall_mem_nil _, dcacheLines := List.forall_mem_nil _,
    l2Lines := List.forall_mem_nil _, random := by decide, gather := by decide, count := Nat.zero_le _ }

end Machine
end Sys2Proof
end

section
/-! PROOF. General register 0 (O8), the end of a step (O6) and the timer request (O24). The frame of the end of a step is that of
`tickTime` after that of `tickRandom`; that a request stays is what `Evolves` says of a step. -/

namespace Sys2Proof
namespace Machine

/-- Settles O8. -/
theorem registerZero : Obligations.RegisterZero := by
  unfold Obligations.RegisterZero
  intro s r v
  exact ⟨gpr_zero s, setGpr_zero s v, fun hr => (setGpr_gpr_self s r v).trans (if_neg hr), fun q hq => setGpr_gpr_ne s r q v hq⟩

/-! ### The end of a step -/

/-- Random's move changes Random and the model's mark of a write of Wired. -/
theorem tickRandom_frame (s : State) :
    s.tickRandom = { s with cp0 := { s.cp0 with random := s.tickRandom.cp0.random }, randomHold := false } := by
  unfold State.tickRandom
  split
  · rfl
  · next h => rw [← Bool.eq_false_iff.mpr h]

@[simp] theorem tickRandom_count (s : State) : s.tickRandom.cp0.count = s.cp0.count := by rw [tickRandom_frame]
@[simp] theorem tickRandom_compare (s : State) : s.tickRandom.cp0.compare = s.cp0.compare := by rw [tickRandom_frame]
@[simp] theorem tickRandom_counter0 (s : State) : s.tickRandom.cp0.counter0 = s.cp0.counter0 := by rw [tickRandom_frame]
@[simp] theorem tickRandom_counter1 (s : State) : s.tickRandom.cp0.counter1 = s.cp0.counter1 := by rw [tickRandom_frame]
@[simp] theorem tickRandom_countStep (s : State) : s.tickRandom.countStep = s.countStep := by rw [tickRandom_frame]; rfl

theorem tickRandom_held (s : State) (h : s.randomHold = true) : s.tickRandom.cp0.random = s.cp0.random := by
  simp [State.tickRandom, h]

@[simp] theorem tickTime_count (s : State) (c : Bool) : (s.tickTime c).cp0.count = s.cp0.count + s.countStep := rfl
@[simp] theorem tickTime_compare (s : State) (c : Bool) : (s.tickTime c).cp0.compare = s.cp0.compare := rfl
@[simp] theorem tickTime_random (s : State) (c : Bool) : (s.tickTime c).cp0.random = s.cp0.random := rfl
@[simp] theorem tickTime_counter0 (s : State) : (s.tickTime false).cp0.counter0 = s.cp0.counter0 := rfl
@[simp] theorem tickTime_counter1 (s : State) : (s.tickTime false).cp0.counter1 = s.cp0.counter1 := rfl
@[simp] theorem tickTime_timerIp (s : State) (c : Bool) : (s.tickTime c).timerIp = (s.timerIp || s.timerMatches) := rfl

/-- The idle steps go on exactly where Count stands. -/
theorem tickTime_countIdle_eq (s : State) (c : Bool) :
    (s.tickTime c).countIdle = if (s.tickTime c).cp0.count = s.cp0.count then s.countIdle + 1 else 0 := by
  have hstands : s.cp0.count + s.countStep = s.cp0.count ↔ s.countStep = 0 := by simp
  simp only [tickTime_count, hstands]
  rfl

/-- Without enables nothing counts (10_state.md R76). -/
theorem perfCounts_eq_false (s : State) (h : s.cp0.perfControl.enables = 0) : s.perfCounts = false := by
  have hoff : ∀ which, s.perfEnabled which = false := fun which => by simp [State.perfEnabled, h]
  unfold State.perfCounts
  simp only [hoff]
  repeat' split
  all_goals rfl

/-- Settles O6: the end of a step is Random's move, then that of the time. -/
theorem endOfStepFrame : Obligations.EndOfStepFrame := by
  unfold Obligations.EndOfStepFrame State.tickInstruction
  intro s t hinv
  refine ⟨fun r => gpr_eq_of_gprs _ _ (by simp) r, fun a => by simp [State.byteAt], ?cp0, ?frame, ?range, ?held, ?counters,
    ?timer, ?idle, tickTime_countIdle _ _⟩
  case cp0 => rw [tickRandom_frame]; rfl
  case frame => rw [tickRandom_frame]; rfl
  case range => exact tickRandom_range t hinv.random
  case held => exact tickRandom_held t
  case counters =>
    intro hs ht
    simp [perfCounts_eq_false s hs, perfCounts_eq_false t ht]
  case timer =>
    intro h
    simp [h]
  case idle => simpa using tickTime_countIdle_eq t.tickRandom (s.perfCounts || t.perfCounts)

/-! ### The timer request -/

/-- Count meets Compare on its way exactly where it takes a number of its steps to get there. -/
theorem timerMatches_iff (s : State) :
    s.timerMatches = true ↔ ∃ n : Nat, n ≤ s.countStep.toNat ∧ s.cp0.count + BitVec.ofNat 32 n = s.cp0.compare := by
  rw [State.timerMatches, decide_eq_true_iff]
  constructor
  · intro h
    refine ⟨_, h, ?_⟩
    rw [BitVec.ofNat_toNat, BitVec.setWidth_eq, add_sub_cancel]
  · rintro ⟨n, hn, hmeet⟩
    rw [← hmeet, add_sub_cancel_left, BitVec.toNat_ofNat]
    exact (Nat.mod_le _ _).trans hn

theorem tickTime_goesOn (s : State) (c : Bool) :
    (s.tickTime c).cp0.count = s.cp0.count + s.countStep ∧ (s.tickTime c).cp0.compare = s.cp0.compare ∧
      ((s.tickTime c).timerIp = true ↔
        s.timerIp = true ∨ ∃ n : Nat, n ≤ s.countStep.toNat ∧ s.cp0.count + BitVec.ofNat 32 n = s.cp0.compare) := by
  simp [← timerMatches_iff]

theorem countGoesOn : Claim.CountGoesOn := by
  unfold Claim.CountGoesOn
  intro s u c t ht
  simp only [List.mem_cons, List.not_mem_nil, or_false] at ht
  rcases ht with rfl | rfl | rfl
  · simpa [State.tickInstruction] using tickTime_goesOn s.tickRandom (u.perfCounts || s.perfCounts)
  · exact tickTime_goesOn s _
  · exact tickTime_goesOn s c

@[simp] theorem low32_mtc0Value (s : State) (v : Word) : low32 (s.mtc0Value v) = low32 v := by
  unfold State.mtc0Value
  split
  · rfl
  · exact BitVec.extractLsb'_append_eq_right

theorem moveToCp0_count (s : State) (v : Word) (exact : Bool) :
    s.moveToCp0 9 v exact = s.whenCp0 { s with cp0 := { s.cp0 with count := low32 v } : State }.advance := rfl

theorem whenCp0_usable (s : State) (act : Out) (h : s.cp0Usable = true) : s.whenCp0 act = act := if_pos h

theorem timerWrites : Claim.TimerWrites := by
  unfold Claim.TimerWrites
  intro s rt hu hl
  simp only [List.forall_mem_cons]
  have hcompare : ∀ v exact, low32 v = low32 (s.gpr rt) → s.moveToCp0 11 v exact =
      .next { s with cp0 := { s.cp0 with compare := low32 (s.gpr rt) }, timerIp := false : State }.stepped := by
    intro v exact hv
    rw [moveToCp0_compare, whenCp0_usable s _ hu, hv]
    exact advance_next _ hl
  have hcount : ∀ v exact, low32 v = low32 (s.gpr rt) → s.moveToCp0 9 v exact =
      .next { s with cp0 := { s.cp0 with count := low32 (s.gpr rt) } : State }.stepped := by
    intro v exact hv
    rw [moveToCp0_count, whenCp0_usable s _ hu, hv]
    exact advance_next _ hl
  refine ⟨⟨?_, ?_, List.forall_mem_nil _⟩, ?_, ?_, List.forall_mem_nil _⟩
  · exact ⟨_, hcompare _ _ (low32_mtc0Value s _), ⟨rfl, rfl⟩, rfl, rfl, rfl⟩
  · exact ⟨_, hcompare _ _ rfl, ⟨rfl, rfl⟩, rfl, rfl, rfl⟩
  · exact ⟨_, hcount _ _ (low32_mtc0Value s _), ⟨rfl, rfl⟩, rfl, fun _ => rfl, fun _ => rfl, rfl⟩
  · exact ⟨_, hcount _ _ rfl, ⟨rfl, rfl⟩, rfl, fun _ => rfl, fun _ => rfl, rfl⟩

theorem timerRequestStays : Claim.TimerRequestStays := by
  unfold Claim.TimerRequestStays
  intro s t htimer hcold hc h
  rcases step_cases s t h with ⟨hreset, -⟩ | ⟨u, hu, rfl⟩ | ⟨u, hu, rfl⟩
  · rw [hcold] at hreset; cases hreset
  · exact (tickEvent_evolves s u).timer (hu.timer htimer)
  · have hnot : ∀ w v, s.fetch = .ok w v → ¬Decoded.writesCompare (decode w) := by
      rintro w v hf ⟨rt, hd | hd⟩
      · exact (hc v w rt hf).1 hd
      · exact (hc v w rt hf).2 hd
    exact (tickInstruction_evolves s u).timer ((runFetched_from s hnot u hu).timer htimer)

/-- Settles O24. -/
theorem timerRequest : Obligations.TimerRequest := by
  unfold Obligations.TimerRequest
  exact ⟨countGoesOn, timerWrites, timerRequestStays⟩

end Machine
end Sys2Proof
end

section
/-! PROOF. Exception entry (O19). `takeException` is `recordException`, which only TLB exceptions and address errors have, followed by
what every exception does; the lemmas say each part once. -/

namespace Sys2Proof
namespace Machine

/-! ### What every exception does -/

theorem recordException_epc (s : State) (e : Exc) : (s.recordException e).cp0.epc = s.cp0.epc := by cases e <;> rfl

theorem recordException_status (s : State) (e : Exc) : (s.recordException e).cp0.status = s.cp0.status := by cases e <;> rfl

theorem takeException_status (s : State) (e : Exc) : (s.takeException e).cp0.status = { s.cp0.status with exl := true } := by
  rw [State.takeException]
  simp only [recordException_status]

theorem takeException_epc (s : State) (e : Exc) :
    (s.takeException e).cp0.epc = if s.cp0.status.exl then s.cp0.epc else s.restartPc := rfl

theorem takeException_cause (s : State) (e : Exc) :
    (s.takeException e).cp0.cause =
      { bd := if s.cp0.status.exl then s.cp0.cause.bd else s.inDelaySlot
        ce := s.causeCe e
        excCode := e.code
        softIp := s.cp0.cause.softIp } := rfl

/-- An entry changes CP0, the pairs a fetch may still use, the pc and the delay. -/
theorem takeException_frame (s : State) (e : Exc) :
    s.takeException e =
      { s with cp0 := (s.takeException e).cp0, itlbStale := (s.takeException e).itlbStale, pc := (s.takeException e).pc,
               delay := .none } := by
  cases e <;> rfl

/-- The exceptions that name no failing address have no registers of their own. -/
theorem recordException_eq_self (s : State) (e : Exc)
    (h : ∀ va, e ≠ .tlbModified va ∧ ∀ store, e ≠ .tlbRefill store va ∧ e ≠ .tlbInvalid store va ∧ e ≠ .addressError store va) :
    s.recordException e = s := by
  cases e with
  | tlbModified va => exact absurd rfl (h va).1
  | tlbRefill store va => exact absurd rfl ((h va).2 store).1
  | tlbInvalid store va => exact absurd rfl ((h va).2 store).2.1
  | addressError store va => exact absurd rfl ((h va).2 store).2.2
  | _ => rfl

/-! ### The registers of a TLB exception -/

/-- What `recordTlb` loads from the failing address (60_exceptions.md R623). -/
theorem recordTlb_loads (s : State) (va : Word) : Claim.LoadsTlbRegisters s (s.recordTlb va) va := by
  have hr : (va.extractLsb' 62 2).toNat = va.toNat / 2 ^ 62 := by
    rw [BitVec.extractLsb'_toNat, Nat.shiftRight_eq_div_pow]
    exact Nat.mod_eq_of_lt (by have := va.isLt; omega)
  have hvpn : ∀ w, (va.extractLsb' 13 w).toNat = va.toNat / 2 ^ 13 % 2 ^ w := fun w => by
    rw [BitVec.extractLsb'_toNat, Nat.shiftRight_eq_div_pow]
  exact ⟨rfl, hvpn 19, rfl, hvpn 31, hr, rfl, hvpn 31, hr, rfl⟩

/-- After its record an exception keeps the registers of the failing address. -/
theorem takeException_loads (s : State) (va : Word) (store : Bool) (e : Exc)
    (h : e ∈ [Exc.tlbModified va, .tlbRefill store va, .tlbInvalid store va]) :
    Claim.LoadsTlbRegisters s (s.takeException e) va := by
  have hrecord : s.recordException e = s.recordTlb va := by
    simp only [List.mem_cons, List.not_mem_nil, or_false] at h
    rcases h with rfl | rfl | rfl <;> rfl
  have hloads := recordTlb_loads s va
  rw [← hrecord] at hloads
  exact hloads

/-! ### Mode, vector and restart address -/

theorem mode_of_exl (s : State) (h : s.cp0.status.exl = true) : s.mode = .kernel := by simp [State.mode, h]

theorem interruptsEnabled_of_exl (s : State) (h : s.cp0.status.exl = true) : s.interruptsEnabled = false := by
  simp [State.interruptsEnabled, h]

theorem inDelaySlot_eq_false (s : State) (h : s.delay = .none) : s.inDelaySlot = false := by simp [State.inDelaySlot, h]

theorem inDelaySlot_eq_true (s : State) (h : s.delay ≠ .none) : s.inDelaySlot = true := by
  unfold State.inDelaySlot
  split
  · next hnone => exact absurd hnone h
  · rfl

theorem vectorOffset_of_not_refill (s : State) (e : Exc) (h : e.isRefill = false ∨ s.cp0.status.exl = true) :
    s.vectorOffset e = 0x180 := by
  rcases h with h | h <;> simp [State.vectorOffset, h]

theorem vectorOffset_of_refill (s : State) (e : Exc) (he : e.isRefill = true) (h : s.cp0.status.exl = false) :
    s.vectorOffset e = refillOffset := by
  simp [State.vectorOffset, he, h]

/-! ### The statement -/

theorem exceptionCodes : Claim.ExceptionCodes := by
  unfold Claim.ExceptionCodes
  intro s va unit
  simp [takeException_cause, Exc.code]

theorem exceptionState : Claim.ExceptionState := by
  unfold Claim.ExceptionState
  intro s e
  have hexl : (s.takeException e).cp0.status.exl = true := by rw [takeException_status]
  refine ⟨takeException_status s e, rfl, rfl, ?level0, ?slot, ?nested, ?vector, ?refill, ?unit,
    fun va store => takeException_loads s va store e, ?address, rfl, mode_of_exl _ hexl, interruptsEnabled_of_exl _ hexl,
    takeException_llBit s e, takeException_gpr s e, ?bytes, takeException_frame s e, ?others⟩
  case level0 =>
    intro h hd
    simp [takeException_epc, takeException_cause, State.restartPc, h, inDelaySlot_eq_false s hd]
  case slot =>
    intro h hd
    simp [takeException_epc, takeException_cause, State.restartPc, h, inDelaySlot_eq_true s hd]
  case nested =>
    intro h
    simp [takeException_epc, takeException_cause, h]
  case vector => exact fun h => congrArg (s.vectorBase + ·) (vectorOffset_of_not_refill s e h)
  case refill => exact fun he h => congrArg (s.vectorBase + ·) (vectorOffset_of_refill s e he h)
  case unit =>
    rintro unit rfl
    rfl
  case address =>
    rintro va store rfl
    rfl
  case bytes => exact fun a => by simp [State.byteAt]
  case others =>
    intro h
    rw [State.takeException, recordException_eq_self s e h]
    exact ⟨rfl, rfl⟩

/-- Settles O19. -/
theorem exceptionEntry : Obligations.ExceptionEntry := by
  unfold Obligations.ExceptionEntry
  exact ⟨exceptionCodes, exceptionState⟩

end Machine
end Sys2Proof
end

section
/-! PROOF. Soft reset, NMI and cold reset (O25). A soft reset is the entry at error level after the gathered stores have been issued,
an NMI the same entry from the state as it is; the end of the step leaves what they wrote. -/

namespace Sys2Proof
namespace Machine

/-! ### Issuing the gathered stores -/

@[simp] theorem drainGather_gprs (s : State) : s.drainGather.gprs = s.gprs := by rw [drainGather_frame]
@[simp] theorem drainGather_fprs (s : State) : s.drainGather.fprs = s.fprs := by rw [drainGather_frame]
@[simp] theorem drainGather_fcsr (s : State) : s.drainGather.fcsr = s.fcsr := by rw [drainGather_frame]
@[simp] theorem drainGather_hi (s : State) : s.drainGather.hi = s.hi := by rw [drainGather_frame]
@[simp] theorem drainGather_lo (s : State) : s.drainGather.lo = s.lo := by rw [drainGather_frame]
@[simp] theorem drainGather_llBit (s : State) : s.drainGather.llBit = s.llBit := by rw [drainGather_frame]
@[simp] theorem drainGather_cp0 (s : State) : s.drainGather.cp0 = s.cp0 := by rw [drainGather_frame]
@[simp] theorem drainGather_tlb (s : State) : s.drainGather.tlb = s.tlb := by rw [drainGather_frame]
@[simp] theorem drainGather_gather (s : State) : s.drainGather.gather = [] := by rw [drainGather_frame]
@[simp] theorem drainGather_restartPc (s : State) : s.drainGather.restartPc = s.restartPc := by rw [drainGather_frame]; rfl

@[simp] theorem drainGather_free (s : State) : s.drainGather.free = s.free := by rw [drainGather_frame]

/-! ### The entry at error level -/

/-- What a soft reset and an NMI write, and what both leave (10_state.md R122). -/
def EntersReset (s t : State) : Prop :=
  t.pc = resetVector ∧ t.delay = .none ∧ t.cp0.errorEpc = s.restartPc ∧
  t.cp0.status = { s.cp0.status with erl := true, sr := true, bev := true } ∧ t.cp0.cause = s.cp0.cause ∧
  t.cp0.epc = s.cp0.epc ∧ t.cp0.random = s.cp0.random ∧ t.cp0.wired = s.cp0.wired ∧ t.tlb = s.tlb ∧
  t.hi = s.hi ∧ t.lo = s.lo ∧ t.fcsr = s.fcsr ∧ t.llBit = s.llBit ∧
  (∀ r, t.gpr r = s.gpr r) ∧ (∀ r, t.fprRaw r = s.fprRaw r)

theorem takeNmi_enters (s : State) : EntersReset s s.takeNmi :=
  ⟨rfl, rfl, rfl, rfl, rfl, rfl, rfl, rfl, rfl, rfl, rfl, rfl, rfl, fun _ => rfl, fun _ => rfl⟩

theorem takeSoftReset_entersFromDrained (s : State) : EntersReset s.drainGather s.takeSoftReset :=
  ⟨rfl, rfl, rfl, rfl, rfl, rfl, rfl, rfl, rfl, rfl, rfl, rfl, rfl, fun _ => rfl, fun _ => rfl⟩

theorem takeSoftReset_enters (s : State) : EntersReset s s.takeSoftReset := by
  simpa [EntersReset, State.gpr, State.fprRaw] using takeSoftReset_entersFromDrained s

/-- The end of the step leaves all of it. -/
theorem EntersReset.tickEvent {s t : State} (h : EntersReset s t) (u : State) : EntersReset s (u.tickEvent t) := h

@[simp] theorem tickEvent_memory (s t : State) : (s.tickEvent t).memory = t.memory := rfl

theorem softReset_step (s : State) (hcold : s.pins.coldReset = false) (hsoft : s.pins.softReset = true) :
    step s = .next (s.tickEvent s.takeSoftReset) := by
  simp [step, State.cycle, hcold, hsoft]

theorem nmi_step (s : State) (hcold : s.pins.coldReset = false) (hsoft : s.pins.softReset = false) (hnmi : s.pins.nmi = true) :
    step s = .next (s.tickEvent s.takeNmi) := by
  simp [step, State.cycle, hcold, hsoft, hnmi]

theorem coldReset_step (s : State) (hcold : s.pins.coldReset = true) : step s = .next (s.tickEvent s.takeColdReset) := by
  simp [step, State.cycle, hcold]

theorem softResetAndNmi : Claim.SoftResetAndNmi := by
  unfold Claim.SoftResetAndNmi
  intro s hcold
  refine ⟨fun hsoft => ⟨_, softReset_step s hcold hsoft, ?soft, rfl, rfl, rfl, ?lines, rfl, ?gather, ?bytes, ?nothing⟩,
    fun hsoft hnmi => ⟨_, nmi_step s hcold hsoft hnmi, ?nmi, rfl, rfl, rfl, rfl, rfl, rfl, rfl, fun _ => rfl⟩⟩
  case soft => exact (takeSoftReset_enters s).tickEvent s
  case lines => exact congrArg (fun free => (⟨free + 1, [], [], []⟩ : Caches)) (drainGather_free s)
  case gather => exact drainGather_gather s
  case bytes => exact fun _ => rfl
  case nothing =>
    intro h a
    have hdrained : (s.tickEvent s.takeSoftReset).byteAt a = s.drainGather.byteAt a := rfl
    rw [hdrained, drainGather_empty s h]
  case nmi => exact (takeNmi_enters s).tickEvent s

theorem mode_of_erl (s : State) (h : s.cp0.status.erl = true) : s.mode = .kernel := by simp [State.mode, h]

theorem coldResetStep : Claim.ColdResetStep := by
  unfold Claim.ColdResetStep
  intro s hcold
  refine ⟨_, coldReset_step s hcold, rfl, rfl, rfl, rfl, rfl, rfl, rfl, rfl, rfl, rfl, rfl, rfl, rfl, rfl, ?mode, ?interrupts, ?tlb,
    ?bytes⟩
  case mode => exact mode_of_erl _ rfl
  case interrupts => exact Bool.and_false _
  case tlb => exact fun j => Vector.getElem_replicate j.isLt
  case bytes => exact fun a => by simp only [State.byteAt, tickEvent_memory, takeColdReset_memory]

theorem resetValues : Claim.ResetValues := by
  unfold Claim.ResetValues
  refine ⟨rfl, rfl, rfl, rfl, rfl, rfl, rfl, rfl, rfl, rfl, rfl, rfl, ?_⟩
  rfl

/-- Settles O25. -/
theorem resetsAndNmi : Obligations.ResetsAndNmi := by
  unfold Obligations.ResetsAndNmi Claim.ResetsAndNmi
  exact ⟨⟨softResetAndNmi, coldResetStep⟩, resetValues⟩

end Machine
end Sys2Proof
end

section
/-! PROOF. The segments of the address space and sequential flow out of one (O60). -/

namespace Sys2Proof
namespace Machine

/-! ### The segment of an address -/

/-- A field of an address as arithmetic on its number. -/
theorem extractLsb'_beq (va : Word) (start len : Nat) (v : BitVec len) :
    (va.extractLsb' start len == v) = decide (va.toNat / 2 ^ start % 2 ^ len = v.toNat) := by
  rw [← Nat.shiftRight_eq_div_pow, ← BitVec.extractLsb'_toNat]
  exact decide_eq_decide.mpr BitVec.toNat_inj.symm

/-- The segment by the number of the address. -/
theorem segmentName_eq (va : Word) :
    segmentName va =
      if va.toNat / 2 ^ 62 = 0 then if va.toNat / 2 ^ 40 % 2 ^ 22 = 0 then .xuseg else .gap
      else if va.toNat / 2 ^ 62 = 1 then if va.toNat / 2 ^ 40 % 2 ^ 22 = 0 then .xsseg else .gap
      else if va.toNat / 2 ^ 62 = 2 then if va.toNat / 2 ^ 40 % 2 ^ 19 = 0 then .xkphys else .gap
      else if va.toNat / 2 ^ 31 % 2 ^ 31 = 2 ^ 31 - 1 then
        if va.toNat / 2 ^ 29 % 2 ^ 2 = 0 then .ckseg0
        else if va.toNat / 2 ^ 29 % 2 ^ 2 = 1 then .ckseg1
        else if va.toNat / 2 ^ 29 % 2 ^ 2 = 2 then .csseg
        else .ckseg3
      else if va.toNat / 2 ^ 40 % 2 ^ 22 = 0 ∧ va.toNat % 2 ^ 40 < 0xFF80000000 then .xkseg
      else .gap := by
  have htop : va.toNat / 2 ^ 62 % 2 ^ 2 = va.toNat / 2 ^ 62 := Nat.mod_eq_of_lt (by have := va.isLt; omega)
  simp only [segmentName, extractLsb'_beq, BitVec.extractLsb'_toNat, Nat.shiftRight_eq_div_pow, htop, BitVec.ult]
  generalize va.toNat / 2 ^ 62 = top
  generalize va.toNat / 2 ^ 29 % 2 ^ 2 = row
  match top, row with
  | 0, _ | 1, _ | 2, _ => simp
  | top + 3, 0 | top + 3, 1 | top + 3, 2 | top + 3, row + 3 => simp

theorem segmentRanges : Claim.SegmentRanges := by
  unfold Claim.SegmentRanges
  intro va
  have hva := va.isLt
  rw [segmentName_eq]
  generalize va.toNat = n at hva ⊢
  repeat' split
  all_goals
    simp only [reduceCtorEq, true_iff, false_iff]
    omega

/-! ### Flow out of a segment -/

theorem leavesAfter_eq_true (s : State) (n : Nat) (h : segmentName (s.pc + BitVec.ofNat 64 n) ≠ segmentName s.pc) :
    s.leavesAfter n = true := bne_iff_ne.mpr h

theorem leavesSegment_eq_true (s : State) (h : segmentName (s.pc + 4) ≠ segmentName s.pc)
    (hd : ∀ target, s.delay ≠ .slot (some target)) : s.leavesSegment = true := by
  unfold State.leavesSegment
  split
  · next target hslot => exact absurd hslot (hd target)
  · exact leavesAfter_eq_true s 4 h

theorem writeGpr_refused (s : State) (r : RegNum) (v : Word) (h : s.leavesSegment = true) :
    s.writeGpr r v = .refused .leavesSegment :=
  advance_refused _ ((setGpr_leavesSegment s r v).trans h)

theorem writeHiLo_refused (s : State) (hi lo : Word) (h : s.leavesSegment = true) :
    s.writeHiLo hi lo = .refused .leavesSegment :=
  advance_refused _ h

theorem enterSlot_refused (s : State) (target : Option Word) (h : s.leavesAfter 4 = true) :
    s.enterSlot target = .refused .leavesSegment := if_pos h

theorem setGpr_leavesAfter (s : State) (r : RegNum) (v : Word) (n : Nat) : (s.setGpr r v).leavesAfter n = s.leavesAfter n := by
  simp [State.leavesAfter]

theorem setGpr_enterSlot_refused (s : State) (r : RegNum) (v : Word) (target : Option Word) (h : s.leavesAfter 4 = true) :
    (s.setGpr r v).enterSlot target = .refused .leavesSegment :=
  enterSlot_refused _ target ((setGpr_leavesAfter s r v 4).trans h)

theorem outsideSlot_of_none (s : State) (act : Out) (h : s.delay = .none) : s.outsideSlot act = act :=
  if_neg (by simp [inDelaySlot_eq_false s h])

theorem branchLikely_refused (s : State) (offset : BitVec 16) (h : s.leavesAfter 8 = true) :
    s.branchLikely false offset = .refused .leavesSegment := if_pos h

/-- What is no branch is refused at the end of its segment. -/
theorem straightLine_refused (s : State) (rd rs rt : RegNum) (imm : BitVec 16) (h : s.leavesSegment = true) :
    ∀ i ∈ [Instr.daddiu rt rs imm, .ori rt rs imm, .lui rt imm, .daddu rd rs rt, .or rd rs rt, .sltu rd rs rt, .mfhi rd, .mthi rs],
      exec i s = .refused .leavesSegment := by
  have hgpr : ∀ r v, s.writeGpr r v = .refused .leavesSegment := fun r v => writeGpr_refused s r v h
  simp only [List.forall_mem_cons]
  exact ⟨hgpr rt _, hgpr rt _, hgpr rt _, hgpr rd _, hgpr rd _, hgpr rd _, hgpr rd _, writeHiLo_refused s _ _ h,
    List.forall_mem_nil _⟩

/-- A jump or a branch is refused where its slot lies in another segment. -/
theorem slot_refused (s : State) (rs rt : RegNum) (offset : BitVec 16) (j : BitVec 26) (hd : s.delay = .none)
    (h : s.leavesAfter 4 = true) :
    ∀ i ∈ [Instr.j j, .jal j, .jr rs, .beq rs rt offset, .bne rs rt offset, .blez rs offset, .bgtz rs offset, .bltz rs offset,
        .bgez rs offset],
      exec i s = .refused .leavesSegment := by
  have hout : ∀ act, s.outsideSlot act = act := fun act => outsideSlot_of_none s act hd
  have henter : ∀ target, s.outsideSlot (s.enterSlot target) = .refused .leavesSegment := fun target =>
    (hout _).trans (enterSlot_refused s target h)
  simp only [List.forall_mem_cons]
  exact ⟨henter _, (hout _).trans (setGpr_enterSlot_refused s 31 _ _ h), henter _, henter _, henter _, henter _, henter _, henter _,
    henter _, List.forall_mem_nil _⟩

theorem flowOutOfSegment : Claim.FlowOutOfSegment := by
  unfold Claim.FlowOutOfSegment
  intro s rd rs rt imm offset j
  refine ⟨fun hseg => ⟨fun hd => straightLine_refused s rd rs rt imm (leavesSegment_eq_true s hseg hd), fun hd => ⟨?jalr, ?slot⟩⟩,
    fun hseg hd => ⟨?beql, ?bnel⟩, ?target⟩
  case jalr =>
    intro hne
    calc exec (.jalr rd rs) s
        = (s.setGpr rd s.linkValue).enterSlot (some (s.gpr rs)) := (outsideSlot_of_none s _ hd).trans (if_neg hne)
      _ = .refused .leavesSegment := setGpr_enterSlot_refused s rd _ _ (leavesAfter_eq_true s 4 hseg)
  case slot => exact slot_refused s rs rt offset j hd (leavesAfter_eq_true s 4 hseg)
  case beql =>
    intro hne
    calc exec (.beql rs rt offset) s
        = s.branchLikely (s.gpr rs == s.gpr rt) offset := outsideSlot_of_none s _ hd
      _ = .refused .leavesSegment := by
        rw [beq_false_of_ne hne]; exact branchLikely_refused s offset (leavesAfter_eq_true s 8 hseg)
  case bnel =>
    intro heq
    calc exec (.bnel rs rt offset) s
        = s.branchLikely (s.gpr rs != s.gpr rt) offset := outsideSlot_of_none s _ hd
      _ = .refused .leavesSegment := by
        rw [heq, bne_self_eq_false]; exact branchLikely_refused s offset (leavesAfter_eq_true s 8 hseg)
  case target =>
    intro target hd
    have hstays : s.leavesSegment = false := by simp [State.leavesSegment, hd]
    have hnext : s.nextPc = target := by simp [State.nextPc, hd]
    obtain ⟨t, hexec, ⟨hpc, hdelay⟩, -⟩ := writeGpr_result s rt (s.gpr rs + immSext imm) hstays
    exact ⟨t, hexec, hpc.trans hnext, hdelay⟩

/-- Settles O60. -/
theorem flowStaysInSegment : Obligations.FlowStaysInSegment := by
  unfold Obligations.FlowStaysInSegment
  exact ⟨segmentRanges, flowOutOfSegment⟩

end Machine
end Sys2Proof
end

section
/-! PROOF. CFC1 and CTC1 (O47). -/

namespace Sys2Proof
namespace Machine

/-- Writing FCR31 forces bits 22:18 to 0 and keeps the others (47_fpu_move_branch.md R509). -/
theorem fcsr_word_ofWord (w : Word32) : (Fcsr.ofWord w).word = w &&& 0xFF83FFFF := by
  refine BitVec.eq_of_getLsbD_eq fun i hi => ?_
  have hfields : (Fcsr.ofWord w).word.getLsbD i = BitVec.getLsbD (w := 7 + 1 + 1 + 5 + 6 + 5 + 5 + 2)
      (w.extractLsb' 25 7 ++ bit (w.getLsbD 24) ++ bit (w.getLsbD 23) ++ 0#5 ++ w.extractLsb' 12 6 ++ w.extractLsb' 7 5 ++
        w.extractLsb' 2 5 ++ w.extractLsb' 0 2) i := rfl
  rw [hfields]
  simp only [BitVec.getLsbD_append, BitVec.getLsbD_extractLsb', BitVec.getLsbD_and, bit]
  interval_cases i <;> simp

theorem fcsr_traps_iff (f : Fcsr) (cause : BitVec 6) :
    f.traps cause = true ↔ cause.getLsbD 5 = true ∨ cause.extractLsb' 0 5 &&& f.enables ≠ 0 := by
  simp [Fcsr.traps]

theorem whenCp1_usable (s : State) (act : Out) (h : s.cp1Usable = true) : s.whenCp1 act = act := if_pos h

/-- CTC1 to FCR31 where nothing traps: the word is written and the instruction is over. -/
theorem writeFcsr_next (s : State) (f : Fcsr) (hl : s.leavesSegment = false) (h : f.traps f.cause = false) :
    s.writeFcsr f = .next { s with fcsr := f : State }.stepped := by
  simp only [State.writeFcsr, h]
  exact advance_next _ hl

theorem writeFcsr_traps (s : State) (f : Fcsr) (h : f.traps f.cause = true) :
    s.writeFcsr f = .next ({ s with fcsr := f }.takeException .floatingPoint) := if_pos h

/-- Settles O47. -/
theorem fpControlMoves : Obligations.FpControlMoves := by
  unfold Obligations.FpControlMoves
  intro s rt hl hu w cause trapping
  have hwritten : exec (.ctc1 rt 31) s = s.writeFcsr (.ofWord w) := whenCp1_usable s _ hu
  have hread0 : exec (.cfc1 rt 0) s = s.writeGpr rt 0x501 := whenCp1_usable s _ hu
  have hread31 : exec (.cfc1 rt 31) s = s.writeGpr rt (s.fcsr.word.signExtend 64) := whenCp1_usable s _ hu
  have hignored : exec (.ctc1 rt 0) s = s.advance := whenCp1_usable s _ hu
  have htraps : (Fcsr.ofWord w).traps cause = true ↔ trapping := fcsr_traps_iff _ _
  rw [hwritten, hread0, hread31, hignored]
  refine ⟨writeGpr_result s rt _ hl, writeGpr_result s rt _ hl, advance_noEffect s hl, fun hno => ?completes, fun htrap => ?traps⟩
  case completes =>
    exact ⟨_, writeFcsr_next s _ hl (Bool.eq_false_iff.mpr (mt htraps.mp hno)), ⟨rfl, rfl⟩, fcsr_word_ofWord w, fun _ => rfl,
      fun _ => rfl, fun _ => rfl, rfl⟩
  case traps => exact ⟨_, fcsr_word_ofWord w, writeFcsr_traps s _ (htraps.mpr htrap)⟩

end Machine
end Sys2Proof
end

section
/-! PROOF. The forms that are refused by name (O45): register moves, TLB writes and CACHE, the FPU control registers, the linked
accesses, loads of bytes that a gathered store has still to write, and coprocessor 2. -/

namespace Sys2Proof
namespace Machine

/-! ### CP0 register moves -/

theorem cp0Read_unnamed (s : State) (r : RegNum) (h : cp0Named r = false) : s.cp0Read r = none := by
  have hr : ∀ r, cp0Named r = false → r = 7 ∨ r = 21 ∨ r = 23 ∨ r = 26 ∨ r = 27 ∨ r = 31 := by decide
  rcases hr r h with rfl | rfl | rfl | rfl | rfl | rfl <;> rfl

theorem cp0Write_unnamed (s : State) (r : RegNum) (v : Word) (exact : Bool) (h : cp0Named r = false) :
    s.cp0Write r v exact = .refuse .unnamedCp0Register := by
  have hr : ∀ r, cp0Named r = false → r = 7 ∨ r = 21 ∨ r = 23 ∨ r = 26 ∨ r = 27 ∨ r = 31 := by decide
  rcases hr r h with rfl | rfl | rfl | rfl | rfl | rfl <;> rfl

theorem moveFromCp0_unnamed (s : State) (rt rd : RegNum) (value : Word → Word) (hu : s.cp0Usable = true) (h : cp0Named rd = false) :
    s.moveFromCp0 rt rd value = .refused .unnamedCp0Register := by
  simp [State.moveFromCp0, cp0Read_unnamed s rd h, whenCp0_usable s _ hu]

/-- A write that is refused stops the instruction. -/
theorem moveToCp0_refused (s : State) (rd : RegNum) (v : Word) (exact : Bool) (r : Refusal) (hu : s.cp0Usable = true)
    (h : s.cp0Write rd v exact = .refuse r) : s.moveToCp0 rd v exact = .refused r := by
  rw [State.moveToCp0, whenCp0_usable s _ hu, h]
  rfl

/-- A 1 in a reserved bit of Status (10_state.md R42). -/
theorem cp0Write_status_reserved (s : State) (v : Word) (exact : Bool) (h : low32 v &&& 0x0BAF0000 ≠ 0) :
    s.cp0Write 12 v exact = .refuse .reservedRegisterBit := if_neg h

/-- A write that clears Config.IB or DB (10_state.md R70). -/
theorem cp0Write_config_lineSize (s : State) (v : Word) (exact : Bool) (h : (low32 v).extractLsb' 4 2 ≠ 3) :
    s.cp0Write 16 v exact = .refuse .configLineSize := if_pos h

theorem low32_lineSize (v : Word) : (low32 v).extractLsb' 4 2 = v.extractLsb' 4 2 := by
  ext i hi
  simp [low32]

/-- DMTC0 and MTC0 write the low word of the register, whatever MTC0 makes of the upper half. -/
theorem moves_refused (s : State) (rt rd : RegNum) (r : Refusal) (hu : s.cp0Usable = true)
    (h : ∀ v exact, low32 v = low32 (s.gpr rt) → s.cp0Write rd v exact = .refuse r) :
    exec (.dmtc0 rt rd) s = .refused r ∧ exec (.mtc0 rt rd) s = .refused r :=
  ⟨moveToCp0_refused s rd _ _ r hu (h _ _ rfl), moveToCp0_refused s rd _ _ r hu (h _ _ (low32_mtc0Value s _))⟩

/-! ### TLB writes and CACHE -/

theorem writeTlb_undefinedPageMask (s : State) (i : BitVec 6) (hu : s.cp0Usable = true) (h : pageMaskLegal s.cp0.pageMask = false) :
    s.writeTlb i = .refused .undefinedPageMask := by
  simp [State.writeTlb, whenCp0_usable s _ hu, h]

/-- The operations of Table 8-3 are the listed ones (46_cp0.md R465). -/
theorem cacheOp_isSome (s : State) (op : BitVec 5) (va : Word) (pa : PAddr) : (s.cacheOp op va pa).isSome = cacheOpListed op := by
  unfold State.cacheOp
  split
  case h_16 => simp_all [cacheOpListed]
  all_goals simp [cacheOpListed, *]

theorem cache_unlisted (s : State) (op : BitVec 5) (offset : BitVec 16) (base : RegNum) (r : PAddr × BitVec 3)
    (hu : s.cp0Usable = true) (ht : s.translate .load (s.address base offset) = .pass r) (hop : cacheOpListed op = false) :
    exec (.cache op offset base) s = .refused .undefinedCacheOp := by
  have hnone : s.cacheOp op (s.address base offset) r.1 = none := by
    rw [← Option.isNone_iff_eq_none, ← Option.not_isSome, cacheOp_isSome, hop, Bool.not_false]
  refine (whenCp0_usable s _ hu).trans ?_
  simp [ht, hnone, Chk.run, Run.finish]

theorem cache_uncached (s : State) (op : BitVec 5) (offset : BitVec 16) (base : RegNum) (r : PAddr × BitVec 3)
    (hu : s.cp0Usable = true) (ht : s.translate .load (s.address base offset) = .pass r) (hop : cacheOpListed op = true) (hc : r.2 ≠ 3#3) :
    exec (.cache op offset base) s = .refused .uncachedCacheOp := by
  obtain ⟨t, hsome⟩ := Option.isSome_iff_exists.mp ((cacheOp_isSome s op (s.address base offset) r.1).trans hop)
  refine (whenCp0_usable s _ hu).trans ?_
  simp [ht, hsome, hc, Chk.run, Run.finish]

/-! ### FPU control registers -/

theorem fcr_unnamed (s : State) (rt rd : RegNum) (hu : s.cp1Usable = true) (h0 : rd ≠ 0) (h31 : rd ≠ 31) :
    exec (.cfc1 rt rd) s = .refused .unnamedFcr ∧ exec (.ctc1 rt rd) s = .refused .unnamedFcr := by
  have hnat : ∀ n : RegNum, rd ≠ n → rd.toNat ≠ n.toNat := fun n h e => h (BitVec.eq_of_toNat_eq e)
  constructor
  · refine (whenCp1_usable s _ hu).trans ?_
    split
    · next h => exact absurd h (hnat 0 h0)
    · next h => exact absurd h (hnat 31 h31)
    · rfl
  · refine (whenCp1_usable s _ hu).trans ?_
    split
    · next h => exact absurd h (hnat 0 h0)
    · next h => exact absurd h (hnat 31 h31)
    · rfl

/-! ### Linked accesses -/

theorem loadLinked_uncached (s : State) (rt : RegNum) (va : Word) (n : Nat) (value : Word → Word) (r : PAddr × BitVec 3)
    (ht : s.translateAligned .load va n = .pass r) (hw : s.watched .load r.1 = false) (hc : r.2 ≠ 3#3) :
    s.loadLinked rt va n value = .refused .linkedUncached := by
  simp [State.loadLinked, prepare_pass s .load va n r ht hw, hc, Run.bind, Run.finish]

theorem storeConditional_uncached (s : State) (rt : RegNum) (va : Word) (n : Nat) (r : PAddr × BitVec 3)
    (ht : s.translateAligned .store va n = .pass r) (hw : s.watched .store r.1 = false) (hc : r.2 ≠ 3#3) :
    s.storeConditional rt va n = .refused .linkedUncached := by
  simp [State.storeConditional, prepare_pass s .store va n r ht hw, hc, Run.bind, Run.finish]

theorem storeConditional_otherAddress (s : State) (rt : RegNum) (va : Word) (n : Nat) (pa p : PAddr)
    (ht : s.translateAligned .store va n = .pass (pa, 3)) (hw : s.watched .store pa = false) (hp : s.llPa = some p) (hne : p ≠ pa) :
    s.storeConditional rt va n = .refused .linkedAddress := by
  have hdiffers : s.linkDiffers pa = true := by simp [State.linkDiffers, hp, hne]
  simp [State.storeConditional, prepare_pass s .store va n (pa, 3) ht hw, hdiffers, Run.bind, Run.finish]

/-! ### Loads of gathered bytes -/

theorem memRead_gathered (s : State) (va : Word) (pa : PAddr) (attr : BitVec 3) (n : Nat) (h : s.gathered pa n = true) :
    s.memRead va pa attr n = .refuse .gatheredLoad := if_pos h

theorem alignedLoad_gathered (s : State) (rt base : RegNum) (offset : BitVec 16) (r : PAddr × BitVec 3) (q : Nat × Instr)
    (hq : q ∈ alignedLoads rt base offset) (hw : s.watched .load r.1 = false)
    (ht : s.translateAligned .load (s.address base offset) q.1 = .pass r) (hg : s.gathered r.1 q.1 = true) :
    exec q.2 s = .refused .gatheredLoad := by
  obtain ⟨value, hexec⟩ := exec_alignedLoad rt base offset q hq
  exact (hexec s).trans (loadTo_refuse s rt _ _ value r _ (prepare_pass s .load _ _ r ht hw) (memRead_gathered s _ _ _ _ hg))

/-! ### The statement -/

/-- Settles O45. -/
theorem formsRefused : Obligations.FormsRefused := by
  unfold Obligations.FormsRefused
  intro s rt rd base op offset pa p c w va
  have hva : va = s.address base offset := rfl
  clear_value va
  subst hva
  refine ⟨fun hu => ⟨fun hrd => ?moves, fun hmask => ⟨?tlbwi, ?tlbwr⟩, fun ht hop => cache_unlisted s op offset base _ hu ht hop,
      fun ht hop hc => cache_uncached s op offset base _ hu ht hop hc, fun h => ?status, fun h => ?config⟩,
    fun hu h0 h31 => fcr_unnamed s rt rd hu h0 h31, fun hw hc => ⟨fun ht => ?ll, fun ht => ?lld⟩,
    fun hw => ⟨fun hc ht => storeConditional_uncached s rt _ 4 (pa, c) ht hw hc,
      fun hc ht => storeConditional_uncached s rt _ 8 (pa, c) ht hw hc,
      fun hp hne => ⟨fun ht => storeConditional_otherAddress s rt _ 4 pa p ht hw hp hne,
        fun ht => storeConditional_otherAddress s rt _ 8 pa p ht hw hp hne⟩⟩,
    fun hw _ q hq ht hg => alignedLoad_gathered s rt base offset (pa, c) q hq hw ht hg,
    fun hcop2 => ⟨fun hcu => ?usable, fun hcu => ?unusable⟩⟩
  case moves =>
    simp only [List.forall_mem_cons]
    exact ⟨moveFromCp0_unnamed s rt rd _ hu hrd, moveToCp0_refused s rd _ _ _ hu (cp0Write_unnamed s rd _ _ hrd),
      moveFromCp0_unnamed s rt rd _ hu hrd, moveToCp0_refused s rd _ _ _ hu (cp0Write_unnamed s rd _ _ hrd), List.forall_mem_nil _⟩
  case tlbwi => exact writeTlb_undefinedPageMask s _ hu hmask
  case tlbwr => exact writeTlb_undefinedPageMask s _ hu hmask
  case status => exact moves_refused s rt 12 _ hu fun v exact hv => cp0Write_status_reserved s v exact (hv ▸ h)
  case config =>
    refine moves_refused s rt 16 _ hu fun v exact hv => cp0Write_config_lineSize s v exact ?_
    rwa [hv, low32_lineSize]
  case ll => exact loadLinked_uncached s rt _ 4 (fun v => sext32 (low32 v)) (pa, c) ht hw hc
  case lld => exact loadLinked_uncached s rt _ 8 (fun v => v) (pa, c) ht hw hc
  case usable =>
    rw [hcop2]
    exact if_pos hcu
  case unusable =>
    rw [hcop2]
    exact if_neg (Bool.eq_false_iff.mp hcu)

end Machine
end Sys2Proof
end

section
/-! PROOF. Rounding is correct (O54). A magnitude is cut to the precision: a significand `q` and, below its last place, a tail in
[0, 1) of which the dropped bits and the sticky bit tell whether it is 0 and on which side of a half it lies. That decides each mode in
units of the last place; the result scales with the unit, and the range of the exponent picks the number, the overflow or the
underflow. -/

namespace Sys2Proof
namespace Machine

/-! ### Bit patterns from fields -/

theorem fractionBits_succ (f : FpFormat) : f.fractionBits + 1 = f.precision := by cases f <;> rfl

/-- The fields of a bit pattern that was made of fields in their ranges. -/
theorem pack_fields (f : FpFormat) (neg : Bool) (ex fr : Nat) (hex : ex < 2 ^ f.exponentBits) (hfr : fr < 2 ^ f.fractionBits) :
    f.negative (f.pack neg ex fr) = neg ∧ f.exponent (f.pack neg ex fr) = ex ∧ f.fraction (f.pack neg ex fr) = fr := by
  cases f <;> cases neg <;>
    simp only [FpFormat.negative, FpFormat.exponent, FpFormat.fraction, FpFormat.pack, FpFormat.width, FpFormat.fractionBits,
      FpFormat.precision, FpFormat.exponentBits, Nat.testBit_eq_decide_div_mod_eq, decide_eq_true_eq, decide_eq_false_iff_not,
      if_true, Bool.false_eq_true, if_false] at hex hfr ⊢ <;>
    omega

/-- The number of a bit pattern with the exponent of a normal number. -/
theorem value_pack (f : FpFormat) (neg : Bool) (ex fr : Nat) (h0 : ex ≠ 0) (hmax : ex < f.exponentMax) (hfr : fr < 2 ^ f.fractionBits) :
    f.value (f.pack neg ex fr) = .finite neg (2 ^ f.fractionBits + fr) (ex - f.emax - f.fractionBits) := by
  obtain ⟨hneg, hexp, hfrac⟩ := pack_fields f neg ex fr (hmax.trans_le (Nat.sub_le _ _)) hfr
  simp [FpFormat.value, hneg, hexp, hfrac, h0, hmax.ne]

/-! ### Cutting to the precision -/

/-- The number of bits dropped. -/
def FpFormat.cutShift (f : FpFormat) (m : Nat) : Nat := Nat.log2 m + 1 - f.precision

/-- The significand kept. -/
def FpFormat.cut (f : FpFormat) (m : Nat) : Nat := m / 2 ^ f.cutShift m * 2 ^ (f.precision - (Nat.log2 m + 1))

/-- The bits dropped. -/
def FpFormat.dropped (f : FpFormat) (m : Nat) : Nat := m % 2 ^ f.cutShift m

/-- The exponent of the last place of the significand. -/
def FpFormat.lastPlace (f : FpFormat) (m : Nat) (e : Int) : Int := e + (Nat.log2 m + 1) - f.precision

/-- The significand `q` after rounding, by the dropped part `r` of `2 ^ shift` and the sticky bit. -/
def roundedUnits (rm : BitVec 2) (neg : Bool) (q r shift : Nat) (sticky : Bool) : Nat :=
  if roundsUp rm neg q r shift sticky then q + 1 else q

/-- The significand of a magnitude after rounding; it may be the next power of two. -/
def FpFormat.rounded (f : FpFormat) (rm : BitVec 2) (neg : Bool) (m : Nat) (sticky : Bool) : Nat :=
  roundedUnits rm neg (f.cut m) (f.dropped m) (f.cutShift m) sticky

theorem log2_bounds (m : Nat) (hm : 0 < m) : 2 ^ Nat.log2 m ≤ m ∧ m < 2 ^ (Nat.log2 m + 1) :=
  ⟨Nat.log2_self_le hm.ne', Nat.lt_log2_self⟩

/-- The significand kept has exactly the precision. -/
theorem cut_bounds (f : FpFormat) (m : Nat) (hm : 0 < m) : 2 ^ f.fractionBits ≤ f.cut m ∧ f.cut m < 2 ^ f.precision := by
  obtain ⟨hlow, hhigh⟩ := log2_bounds m hm
  have hp := fractionBits_succ f
  unfold FpFormat.cut FpFormat.cutShift
  generalize Nat.log2 m = l at hlow hhigh ⊢
  rcases le_total f.precision (l + 1) with hle | hle
  · obtain ⟨k, hk⟩ := Nat.exists_eq_add_of_le hle
    have hl : l = f.fractionBits + k := by omega
    rw [hk, Nat.add_sub_cancel_left, Nat.sub_eq_zero_of_le (Nat.le_add_right _ _), pow_zero, mul_one]
    rw [hl, pow_add] at hlow
    rw [hk, pow_add] at hhigh
    exact ⟨(Nat.le_div_iff_mul_le (by positivity)).mpr hlow, Nat.div_lt_of_lt_mul (by rwa [mul_comm])⟩
  · obtain ⟨k, hk⟩ := Nat.exists_eq_add_of_le hle
    have hl : f.fractionBits = l + k := by omega
    rw [hk, Nat.add_sub_cancel_left, Nat.sub_eq_zero_of_le (Nat.le_add_right _ _), pow_zero, Nat.div_one, hl, pow_add, pow_add]
    exact ⟨Nat.mul_le_mul_right _ hlow, Nat.mul_lt_mul_of_pos_right hhigh (by positivity)⟩

/-- What the dropped bits `r` of `2 ^ shift` and the sticky bit tell of the tail `d` of a magnitude, in units of the last place. -/
structure Tail (r shift : Nat) (sticky : Bool) (d : ℝ) : Prop where
  bound : r < 2 ^ shift
  exact : sticky = false → d * 2 ^ shift = r
  above : sticky = true → 1 ≤ shift ∧ r < d * 2 ^ shift ∧ d * 2 ^ shift < r + 1

/-- The number of places a magnitude of fewer bits than the precision moves up. -/
def FpFormat.fillShift (f : FpFormat) (m : Nat) : Nat := f.precision - (Nat.log2 m + 1)

theorem cut_add_dropped (f : FpFormat) (m : Nat) : f.cut m * 2 ^ f.cutShift m + f.dropped m = m * 2 ^ f.fillShift m := by
  unfold FpFormat.cut FpFormat.dropped FpFormat.cutShift FpFormat.fillShift
  rcases le_total f.precision (Nat.log2 m + 1) with hle | hle
  · rw [Nat.sub_eq_zero_of_le hle, pow_zero, mul_one, mul_one, Nat.div_add_mod']
  · rw [Nat.sub_eq_zero_of_le hle, pow_zero, Nat.div_one, Nat.mod_one, mul_one, add_zero]

theorem lastPlace_eq (f : FpFormat) (m : Nat) (e : Int) : f.lastPlace m e = f.cutShift m + (e - f.fillShift m) := by
  unfold FpFormat.lastPlace FpFormat.cutShift FpFormat.fillShift
  omega

/-- A magnitude of more bits than the precision loses some of them and moves up no place. -/
theorem shifts_of_long (f : FpFormat) (m : Nat) (h : 2 ^ f.precision ≤ m) : 1 ≤ f.cutShift m ∧ f.fillShift m = 0 := by
  have hlong : f.precision < Nat.log2 m + 1 := (Nat.pow_lt_pow_iff_right (by decide)).mp (h.trans_lt Nat.lt_log2_self)
  unfold FpFormat.cutShift FpFormat.fillShift
  omega

/-- A magnitude is its significand and a tail, in units of the last place. -/
theorem exists_tail (f : FpFormat) (m : Nat) (e : Int) (sticky : Bool) (x : ℝ) (hexact : sticky = false → x = m * 2 ^ e)
    (habove : sticky = true → 2 ^ f.precision ≤ m ∧ m * 2 ^ e < x ∧ x < (m + 1) * 2 ^ e) :
    ∃ d : ℝ, x = (f.cut m + d) * 2 ^ f.lastPlace m e ∧ Tail (f.dropped m) (f.cutShift m) sticky d := by
  have hpow : ∀ k : Int, (0 : ℝ) < 2 ^ k := fun k => zpow_pos (by norm_num) k
  have hcut : (f.cut m : ℝ) * 2 ^ f.cutShift m + f.dropped m = m * 2 ^ f.fillShift m := by exact_mod_cast cut_add_dropped f m
  obtain ⟨z, rfl⟩ : ∃ z : ℝ, x = z * 2 ^ e := ⟨x / 2 ^ e, (div_mul_cancel₀ x (hpow e).ne').symm⟩
  have hscaled : (z * 2 ^ f.fillShift m / 2 ^ f.cutShift m - f.cut m) * 2 ^ f.cutShift m =
      z * 2 ^ f.fillShift m - f.cut m * 2 ^ f.cutShift m := by
    rw [sub_mul, div_mul_cancel₀ _ (by positivity)]
  refine ⟨z * 2 ^ f.fillShift m / 2 ^ f.cutShift m - f.cut m, ?_, Nat.mod_lt _ (by positivity), fun hs => ?_, fun hs => ?_⟩
  · rw [lastPlace_eq, zpow_add₀ (by norm_num), zpow_sub₀ (by norm_num), zpow_natCast, zpow_natCast]
    field_simp
    ring
  · have hz : z = m := mul_right_cancel₀ (hpow e).ne' (hexact hs)
    rw [hscaled, hz]
    linarith
  · obtain ⟨hlong, hlow, hhigh⟩ := habove hs
    obtain ⟨hshift, hfill⟩ := shifts_of_long f m hlong
    have hz := lt_of_mul_lt_mul_right hlow (hpow e).le
    have hz' := lt_of_mul_lt_mul_right hhigh (hpow e).le
    rw [hscaled]
    rw [hfill, pow_zero, mul_one] at hcut ⊢
    exact ⟨hshift, by linarith, by linarith⟩

/-! ### Rounding in units of the last place -/

section
variable {r shift : Nat} {sticky : Bool} {d : ℝ}

theorem Tail.nonneg (h : Tail r shift sticky d) : 0 ≤ d := by
  have hpow : (0 : ℝ) < 2 ^ shift := by positivity
  have hr : (0 : ℝ) ≤ r := by positivity
  have hd : (r : ℝ) ≤ d * 2 ^ shift := by
    cases sticky with
    | false => exact (h.exact rfl).ge
    | true => exact (h.above rfl).2.1.le
  exact nonneg_of_mul_nonneg_left (hr.trans hd) hpow

theorem Tail.lt_one (h : Tail r shift sticky d) : d < 1 := by
  have hpow : (0 : ℝ) < 2 ^ shift := by positivity
  have hr : (r : ℝ) + 1 ≤ 2 ^ shift := by exact_mod_cast h.bound
  have hd : d * 2 ^ shift < r + 1 := by
    cases sticky with
    | false => linarith [h.exact rfl]
    | true => exact (h.above rfl).2.2
  exact lt_of_mul_lt_mul_right (by linarith : d * 2 ^ shift < 1 * 2 ^ shift) hpow.le

/-- The tail is 0 where nothing was dropped. -/
theorem Tail.eq_zero_iff (h : Tail r shift sticky d) : d = 0 ↔ (r != 0 || sticky) = false := by
  have hpow : (0 : ℝ) < 2 ^ shift := by positivity
  cases sticky with
  | false =>
    have hd : d = 0 ↔ (r : ℝ) = 0 := by rw [← h.exact rfl, mul_eq_zero, or_iff_left hpow.ne']
    simp [hd]
  | true =>
    have hd : 0 < d := pos_of_mul_pos_left ((Nat.cast_nonneg r).trans_lt (h.above rfl).2.1) hpow.le
    simp [hd.ne']

/-- The dropped bits tell on which side of a half the tail lies. -/
theorem Tail.half (h : Tail r shift sticky d) :
    (2 * r < 2 ^ shift → 2 * d < 1) ∧ (2 * r = 2 ^ shift → sticky = false → 2 * d = 1) ∧
    (2 * r = 2 ^ shift → sticky = true → 1 < 2 * d) ∧ (2 ^ shift < 2 * r → 1 < 2 * d) := by
  have hpow : (0 : ℝ) < 2 ^ shift := by positivity
  have below : 2 * (d * 2 ^ shift) < 2 ^ shift → 2 * d < 1 := fun hlt =>
    lt_of_mul_lt_mul_right (by linarith : 2 * d * 2 ^ shift < 1 * 2 ^ shift) hpow.le
  have beyond : (2 : ℝ) ^ shift < 2 * (d * 2 ^ shift) → 1 < 2 * d := fun hlt =>
    lt_of_mul_lt_mul_right (by linarith : 1 * 2 ^ shift < 2 * d * 2 ^ shift) hpow.le
  refine ⟨fun hr => below ?_, fun hr hs => ?_, fun hr hs => beyond ?_, fun hr => beyond ?_⟩
  · cases sticky with
    | false =>
      rw [h.exact rfl]
      exact_mod_cast hr
    | true =>
      obtain ⟨hshift, -, hhigh⟩ := h.above rfl
      obtain ⟨k, rfl⟩ := Nat.exists_eq_add_of_le' hshift
      have hroom : 2 * (r + 1) ≤ 2 ^ (k + 1) := by omega
      have hroom' : 2 * ((r : ℝ) + 1) ≤ 2 ^ (k + 1) := by exact_mod_cast hroom
      linarith
  · have hr' : 2 * (r : ℝ) = 2 ^ shift := by exact_mod_cast hr
    rw [← h.exact hs] at hr'
    exact mul_right_cancel₀ hpow.ne' (by linarith)
  · have hr' : 2 * (r : ℝ) = 2 ^ shift := by exact_mod_cast hr
    linarith [(h.above hs).2.1]
  · have hr' : (2 : ℝ) ^ shift < 2 * r := by exact_mod_cast hr
    cases sticky with
    | false => linarith [h.exact rfl]
    | true => linarith [(h.above rfl).2.1]

theorem roundsUp_nothing (rm : BitVec 2) (neg : Bool) (q shift : Nat) : roundsUp rm neg q 0 shift false = false := by
  unfold roundsUp
  split <;> simp [(Nat.two_pow_pos shift).ne]

/-- To the nearest, ties to even (RM = 0). -/
theorem Tail.nearest (h : Tail r shift sticky d) (neg : Bool) (q : Nat) :
    2 * |(roundedUnits 0 neg q r shift sticky : ℝ) - (q + d)| ≤ 1 ∧
      (2 * |(roundedUnits 0 neg q r shift sticky : ℝ) - (q + d)| = 1 → roundedUnits 0 neg q r shift sticky % 2 = 0) := by
  obtain ⟨hbelow, htie, htieAbove, hbeyond⟩ := h.half
  have hup : roundsUp 0 neg q r shift sticky = true ↔ 2 ^ shift < 2 * r ∨ 2 * r = 2 ^ shift ∧ (sticky = true ∨ q % 2 = 1) := by
    simp [roundsUp]
  unfold roundedUnits
  split
  · next hr =>
    have hdist : |((q + 1 : Nat) : ℝ) - (q + d)| = 1 - d := by
      rw [Nat.cast_succ, add_sub_add_left_eq_sub, abs_of_pos (sub_pos.mpr h.lt_one)]
    rw [hdist]
    rcases hup.mp hr with hr | ⟨hr, hs | hodd⟩
    · have := hbeyond hr
      exact ⟨by linarith, fun _ => by linarith⟩
    · have := htieAbove hr hs
      exact ⟨by linarith, fun _ => by linarith⟩
    · rcases Bool.eq_false_or_eq_true sticky with hs | hs
      · have := htieAbove hr hs
        exact ⟨by linarith, fun _ => by linarith⟩
      · have := htie hr hs
        exact ⟨by linarith, fun _ => by omega⟩
  · next hr =>
    have hdist : |(q : ℝ) - (q + d)| = d := by rw [sub_add_cancel_left, abs_neg, abs_of_nonneg h.nonneg]
    rw [hdist]
    obtain ⟨hle, hstays⟩ := not_or.mp (mt hup.mpr hr)
    rcases (not_lt.mp hle).lt_or_eq with hr | hr
    · have := hbelow hr
      exact ⟨by linarith, fun _ => by linarith⟩
    · obtain ⟨hs, heven⟩ := not_or.mp fun h => hstays ⟨hr, h⟩
      have := htie hr (Bool.eq_false_iff.mpr hs)
      exact ⟨by linarith, fun _ => by omega⟩

/-- Toward zero. -/
theorem Tail.inward (h : Tail r shift sticky d) (q : Nat) : (q : ℝ) ≤ q + d ∧ (q : ℝ) + d < q + 1 :=
  ⟨by linarith [h.nonneg], by linarith [h.lt_one]⟩

/-- Away from zero. -/
theorem Tail.outward (h : Tail r shift sticky d) (q : Nat) :
    (q : ℝ) + d ≤ ((if r != 0 || sticky then q + 1 else q : Nat) : ℝ) ∧
      ((if r != 0 || sticky then q + 1 else q : Nat) : ℝ) < q + d + 1 := by
  split
  · next hr =>
    have hd : d ≠ 0 := mt h.eq_zero_iff.mp (by simp [hr])
    have hpos : 0 < d := lt_of_le_of_ne h.nonneg hd.symm
    rw [Nat.cast_succ]
    exact ⟨by linarith [h.lt_one], by linarith⟩
  · next hr =>
    have hd : d = 0 := h.eq_zero_iff.mpr (Bool.eq_false_iff.mpr hr)
    exact ⟨by linarith, by linarith⟩


/-- Every mode, in units of the last place. -/
theorem Tail.rounded_units (h : Tail r shift sticky d) (rm : BitVec 2) (neg : Bool) (q : Nat) :
    Claim.Rounded rm neg (q + d) (roundedUnits rm neg q r shift sticky) 1 (roundedUnits rm neg q r shift sticky % 2 = 0) := by
  refine ⟨?nearest, ?zero, ?up, ?down⟩
  case nearest =>
    rintro rfl
    exact h.nearest neg q
  case zero =>
    rintro rfl
    exact h.inward q
  case up =>
    rintro rfl
    cases neg
    · exact h.outward q
    · exact h.inward q
  case down =>
    rintro rfl
    cases neg
    · exact h.inward q
    · exact h.outward q

/-- The rounded number of units is the exact one only where nothing was dropped. -/
theorem Tail.roundedUnits_eq_iff (h : Tail r shift sticky d) (rm : BitVec 2) (neg : Bool) (q : Nat) :
    (roundedUnits rm neg q r shift sticky : ℝ) = q + d ↔ (r != 0 || sticky) = false := by
  constructor
  · intro heq
    refine h.eq_zero_iff.mp ?_
    unfold roundedUnits at heq
    split at heq
    · rw [Nat.cast_succ] at heq
      linarith [h.lt_one]
    · linarith
  · intro hexact
    have hd := h.eq_zero_iff.mpr hexact
    obtain ⟨hr, hs⟩ := Bool.or_eq_false_iff.mp hexact
    obtain rfl : r = 0 := by simpa using hr
    simp [roundedUnits, hs, roundsUp_nothing, hd]

end

/-- Rounding to a multiple of a unit is rounding of the number of units. -/
theorem rounded_scale (rm : BitVec 2) (neg : Bool) (x y unit : ℝ) (even : Prop) (hunit : 0 < unit)
    (h : Claim.Rounded rm neg x y 1 even) : Claim.Rounded rm neg (x * unit) (y * unit) unit even := by
  obtain ⟨hnearest, hzero, hup, hdown⟩ := h
  have hle : ∀ {a b : ℝ}, a ≤ b → a * unit ≤ b * unit := fun hab => mul_le_mul_of_nonneg_right hab hunit.le
  have hlt : ∀ {a b : ℝ}, a < b + 1 → a * unit < b * unit + unit := fun hab => by nlinarith
  have hdist : 2 * |y * unit - x * unit| = 2 * |y - x| * unit := by rw [← sub_mul, abs_mul, abs_of_pos hunit, mul_assoc]
  have hinward : y ≤ x ∧ x < y + 1 → y * unit ≤ x * unit ∧ x * unit < y * unit + unit := fun ⟨h1, h2⟩ => ⟨hle h1, hlt h2⟩
  have houtward : x ≤ y ∧ y < x + 1 → x * unit ≤ y * unit ∧ y * unit < x * unit + unit := fun ⟨h1, h2⟩ => ⟨hle h1, hlt h2⟩
  refine ⟨fun hrm => ?_, fun hrm => hinward (hzero hrm), fun hrm => ?_, fun hrm => ?_⟩
  · obtain ⟨hhalf, htie⟩ := hnearest hrm
    rw [hdist]
    exact ⟨by nlinarith, fun heq => htie (mul_right_cancel₀ hunit.ne' (heq.trans (one_mul unit).symm))⟩
  · have := hup hrm
    cases neg
    · exact houtward this
    · exact hinward this
  · have := hdown hrm
    cases neg
    · exact hinward this
    · exact houtward this

/-! ### Overflow and underflow -/

/-- The modes that round away from zero (10_state.md R102). -/
def Outward (rm : BitVec 2) (neg : Bool) : Prop := (rm = 2 ∧ neg = false) ∨ (rm = 3 ∧ neg = true)

theorem overflowed_eq (f : FpFormat) (rm : BitVec 2) (neg : Bool) :
    (rm = 0 ∨ Outward rm neg → f.overflowed rm neg = f.infinity neg) ∧
      (rm ≠ 0 → ¬Outward rm neg → f.overflowed rm neg = f.largest neg) := by
  have hrm : ∀ rm : BitVec 2, rm = 0 ∨ rm = 1 ∨ rm = 2 ∨ rm = 3 := by decide
  rcases hrm rm with rfl | rfl | rfl | rfl <;> cases neg <;> simp [FpFormat.overflowed, Outward]

theorem flushed_eq (f : FpFormat) (rm : BitVec 2) (neg : Bool) :
    (Outward rm neg → f.flushed rm neg = f.smallestNormal neg) ∧ (¬Outward rm neg → f.flushed rm neg = f.zero neg) := by
  have hrm : ∀ rm : BitVec 2, rm = 0 ∨ rm = 1 ∨ rm = 2 ∨ rm = 3 := by decide
  rcases hrm rm with rfl | rfl | rfl | rfl <;> cases neg <;> simp [FpFormat.flushed, Outward]

/-! ### The result -/

/-- The significand after a carry into the next power of two. -/
def FpFormat.normalized (f : FpFormat) (q : Nat) : Nat := if q = 2 ^ f.precision then 2 ^ (f.precision - 1) else q

/-- The exponent of the last place after that carry. -/
def FpFormat.normalizedPlace (f : FpFormat) (q : Nat) (u : Int) : Int := if q = 2 ^ f.precision then u + 1 else u

/-- The exponent of the top bit after that carry. -/
def FpFormat.normalizedTop (f : FpFormat) (q : Nat) (u : Int) : Int := f.normalizedPlace q u + (f.precision - 1 : Nat)

/-- The result from the significand `q` of exponent `u` that the rounding gave, and whether that is inexact. -/
def FpFormat.placed (f : FpFormat) (md : FpMode) (neg : Bool) (q : Nat) (u : Int) (inexact : Bool) : FpResult :=
  if f.normalizedTop q u > f.emax then { cause := causeO ||| causeI, bits := f.overflowed md.rm neg }
  else if f.normalizedTop q u < f.emin then
    if md.flush then { cause := causeU ||| causeI, bits := f.flushed md.rm neg }
    else { cause := causeE, bits := 0 }
  else
    { cause := if inexact then causeI else 0
      bits := f.pack neg (f.normalizedTop q u + f.emax).toNat (f.normalized q - 2 ^ f.fractionBits) }

theorem roundSignificand_eq (f : FpFormat) (rm : BitVec 2) (neg : Bool) (m : Nat) (e : Int) (sticky : Bool) :
    f.roundSignificand rm neg m e sticky =
      (f.normalized (f.rounded rm neg m sticky), f.normalizedTop (f.rounded rm neg m sticky) (f.lastPlace m e),
        f.dropped m != 0 || sticky) := by
  have hp := fractionBits_succ f
  have htop : e + (Nat.log2 m + 1 : Nat) - 1 = f.lastPlace m e + (f.precision - 1 : Nat) := by
    unfold FpFormat.lastPlace
    omega
  have hplaces : f.roundSignificand rm neg m e sticky =
      if f.rounded rm neg m sticky = 2 ^ f.precision then
        (2 ^ f.fractionBits, e + (Nat.log2 m + 1 : Nat) - 1 + 1, f.dropped m != 0 || sticky)
      else (f.rounded rm neg m sticky, e + (Nat.log2 m + 1 : Nat) - 1, f.dropped m != 0 || sticky) := rfl
  rw [hplaces, htop, FpFormat.normalized, FpFormat.normalizedTop, FpFormat.normalizedPlace]
  split
  · rw [add_right_comm, FpFormat.fractionBits]
  · rfl

theorem round_eq_placed (f : FpFormat) (md : FpMode) (neg : Bool) (m : Nat) (e : Int) (sticky : Bool) :
    f.round md neg m e sticky =
      f.placed md neg (f.rounded md.rm neg m sticky) (f.lastPlace m e) (f.dropped m != 0 || sticky) := by
  rw [FpFormat.round, roundSignificand_eq]
  rfl

/-- The significand after a carry has exactly the precision. -/
theorem normalized_bounds (f : FpFormat) (q : Nat) (h : 2 ^ f.fractionBits ≤ q ∧ q ≤ 2 ^ f.precision) :
    2 ^ f.fractionBits ≤ f.normalized q ∧ f.normalized q < 2 ^ f.precision := by
  unfold FpFormat.normalized
  split
  · exact ⟨le_rfl, Nat.pow_lt_pow_right (by decide) (by have := fractionBits_succ f; omega)⟩
  · next hq => exact ⟨h.1, lt_of_le_of_ne h.2 hq⟩

theorem rounded_bounds (f : FpFormat) (rm : BitVec 2) (neg : Bool) (m : Nat) (sticky : Bool) (hm : 0 < m) :
    2 ^ f.fractionBits ≤ f.rounded rm neg m sticky ∧ f.rounded rm neg m sticky ≤ 2 ^ f.precision := by
  obtain ⟨hlow, hhigh⟩ := cut_bounds f m hm
  unfold FpFormat.rounded roundedUnits
  split
  · exact ⟨hlow.trans (Nat.le_succ _), hhigh⟩
  · exact ⟨hlow, hhigh.le⟩

theorem placed_overflow (f : FpFormat) (md : FpMode) (neg : Bool) (q : Nat) (u : Int) (inexact : Bool)
    (h : f.emax < f.normalizedTop q u) :
    f.placed md neg q u inexact = { cause := causeO ||| causeI, bits := f.overflowed md.rm neg } := if_pos h

theorem placed_underflow (f : FpFormat) (md : FpMode) (neg : Bool) (q : Nat) (u : Int) (inexact : Bool)
    (h : f.normalizedTop q u < f.emin) :
    f.placed md neg q u inexact =
      if md.flush then { cause := causeU ||| causeI, bits := f.flushed md.rm neg } else { cause := causeE, bits := 0 } := by
  have hemin : f.emin ≤ f.emax := by cases f <;> decide
  rw [FpFormat.placed, if_neg (not_lt.mpr (h.le.trans hemin)), if_pos h]

/-- In the range the result is the rounded number. -/
theorem placed_value (f : FpFormat) (md : FpMode) (neg : Bool) (q : Nat) (u : Int) (inexact : Bool)
    (hq : 2 ^ f.fractionBits ≤ q ∧ q ≤ 2 ^ f.precision) (hmin : f.emin ≤ f.normalizedTop q u) (hmax : f.normalizedTop q u ≤ f.emax) :
    f.value (f.placed md neg q u inexact).bits = .finite neg (f.normalized q) (f.normalizedPlace q u) ∧
      (f.placed md neg q u inexact).cause = if inexact then causeI else 0 := by
  obtain ⟨hlow, hhigh⟩ := normalized_bounds f q hq
  have hp := fractionBits_succ f
  have hrange : (f.exponentMax : Int) = 2 * f.emax + 1 := by cases f <;> rfl
  have hplaced : f.placed md neg q u inexact =
      { cause := if inexact then causeI else 0
        bits := f.pack neg (f.normalizedTop q u + f.emax).toNat (f.normalized q - 2 ^ f.fractionBits) } := by
    rw [FpFormat.placed, if_neg (not_lt.mpr hmax), if_neg (not_lt.mpr hmin)]
  have hfraction : f.normalized q - 2 ^ f.fractionBits < 2 ^ f.fractionBits := by
    rw [← hp, pow_succ] at hhigh
    omega
  unfold FpFormat.emin at hmin
  have hexponent : ((f.normalizedTop q u + f.emax).toNat : Int) = f.normalizedTop q u + f.emax := Int.toNat_of_nonneg (by omega)
  refine ⟨?_, by rw [hplaced]⟩
  rw [hplaced, value_pack f neg _ _ (by omega) (by omega) hfraction, hexponent, Nat.add_sub_cancel' hlow]
  congr 1
  unfold FpFormat.normalizedTop FpFormat.fractionBits
  omega

/-- Settles O54. -/
theorem roundingIsCorrect : Obligations.RoundingIsCorrect := by
  unfold Obligations.RoundingIsCorrect
  intro f md neg m e sticky x hm hexact habove
  obtain ⟨d, hx, htail⟩ := exists_tail f m e sticky x hexact habove
  obtain ⟨hlow, hhigh⟩ := cut_bounds f m hm
  have hq := rounded_bounds f md.rm neg m sticky hm
  have hunit : (0 : ℝ) < 2 ^ f.lastPlace m e := zpow_pos (by norm_num) _
  rw [round_eq_placed]
  refine ⟨f.rounded md.rm neg m sticky, f.lastPlace m e, ?low, ?high, ?rounded, fun hover => ?overflow, fun hunder hflush => ?flushed,
    fun hunder hflush => ?unimplemented, fun hmin hmax => ?number⟩
  case low =>
    rw [hx]
    refine mul_le_mul_of_nonneg_right ?_ hunit.le
    have hlow' : (2 : ℝ) ^ (f.precision - 1) ≤ f.cut m := by exact_mod_cast hlow
    linarith [htail.nonneg]
  case high =>
    rw [hx]
    refine mul_lt_mul_of_pos_right ?_ hunit
    have hhigh' : (f.cut m : ℝ) + 1 ≤ 2 ^ f.precision := by exact_mod_cast hhigh
    linarith [htail.lt_one]
  case rounded =>
    rw [hx]
    exact rounded_scale md.rm neg _ _ _ _ hunit (htail.rounded_units md.rm neg (f.cut m))
  case overflow =>
    rw [placed_overflow f md neg _ _ _ hover]
    exact ⟨rfl, overflowed_eq f md.rm neg⟩
  case flushed =>
    rw [placed_underflow f md neg _ _ _ hunder, hflush]
    exact ⟨rfl, flushed_eq f md.rm neg⟩
  case unimplemented =>
    rw [placed_underflow f md neg _ _ _ hunder, hflush]
    rfl
  case number =>
    obtain ⟨hvalue, hcause⟩ := placed_value f md neg _ _ (f.dropped m != 0 || sticky) hq hmin hmax
    have hsame : (f.rounded md.rm neg m sticky : ℝ) * 2 ^ f.lastPlace m e = x ↔ (f.dropped m != 0 || sticky) = false := by
      rw [hx, mul_left_inj' hunit.ne']
      exact htail.roundedUnits_eq_iff md.rm neg (f.cut m)
    refine ⟨hvalue, ?_, ?_⟩
    · rw [hcause, hsame]
      cases f.dropped m != 0 || sticky <;> decide
    · rw [hcause, Ne, hsame]
      cases f.dropped m != 0 || sticky <;> decide

end Machine
end Sys2Proof
end

section
/-! PROOF. What a step without an event does (O5), and misaligned fetches, loads and stores (O34). -/

namespace Sys2Proof
namespace Machine

/-! ### A step without an event -/

/-- With nothing to take, a step is fetch, decode and execute (60_exceptions.md R609). -/
theorem step_quiet (s : State) (h : s.Quiet) : step s = finishStep s s.runFetched := by
  obtain ⟨hcold, hsoft, hnmi, hmode, hwatch, hinterrupt⟩ := h
  simp [step, State.cycle, State.instructionStep, hcold, hsoft, hnmi, hmode, hwatch, hinterrupt]

theorem runFetched_of_ok (s t : State) (w : Word32) (h : s.fetch = .ok w t) : s.runFetched = execDecoded (decode w) t := by
  rw [State.runFetched, h]

theorem runFetched_of_raise (s t : State) (e : Exc) (h : s.fetch = .raise e t) : s.runFetched = t.raise e := by
  rw [State.runFetched, h]

/-- Settles O5. -/
theorem stepRunsDecodedInstruction : Obligations.StepRunsDecodedInstruction := by
  unfold Obligations.StepRunsDecodedInstruction
  intro s t w i hquiet hfetch hdecode _
  have hstep : step s = finishStep s (exec i t) := by
    rw [step_quiet s hquiet, runFetched_of_ok s t w hfetch, hdecode, execDecoded]
  rw [hstep]
  refine ⟨?next, ?fault, ?refused⟩
  case next => intro u hu; rw [hu, finishStep]
  case fault => intro f hf; rw [hf, finishStep]
  case refused => intro r hr; rw [hr, finishStep]

/-! ### Misaligned fetches -/

/-- The alignment check comes before any translation (20_memory.md R135, R137). -/
theorem translateAligned_misaligned (s : State) (kind : Access) (va : Word) (size : Nat) (h : va.toNat % size ≠ 0) :
    s.translateAligned kind va size = .raise (.addressError kind.isStore va) := if_pos h

theorem fetch_misaligned (s : State) (h : s.pc.toNat % 4 ≠ 0) : s.fetch = .raise (.addressError false s.pc) s := by
  simp [State.fetch, translateAligned_misaligned s .fetch s.pc 4 h, Chk.run, Access.isStore]

theorem restartPc_of_none (s : State) (h : s.delay = .none) : s.restartPc = s.pc := by
  simp [State.restartPc, inDelaySlot_eq_false s h]

/-- The end of a step leaves what an exception has written. -/
theorem tickInstruction_cp0 (s t : State) :
    (s.tickInstruction t).cp0.cause = t.cp0.cause ∧ (s.tickInstruction t).cp0.badVAddr = t.cp0.badVAddr ∧
      (s.tickInstruction t).cp0.epc = t.cp0.epc ∧ (s.tickInstruction t).cp0.status = t.cp0.status := by
  rw [State.tickInstruction, tickRandom_frame]
  exact ⟨rfl, rfl, rfl, rfl⟩

theorem misalignedFetchRaises : Claim.MisalignedFetchRaises := by
  unfold Claim.MisalignedFetchRaises
  intro s hquiet hpc
  let t := s.takeException (.addressError false s.pc)
  have hstep : step s = .next (s.tickInstruction t) := by
    rw [step_quiet s hquiet, runFetched_of_raise s s _ (fetch_misaligned s hpc)]
    rfl
  obtain ⟨hcause, hbad, hepc, hstatus⟩ := tickInstruction_cp0 s t
  refine ⟨_, hstep, ?code, hbad, ?level0, ?nested, ?exl, ?vector, ?gprs, ?bytes⟩
  case code => rw [hcause]; rfl
  case level0 =>
    intro hexl hdelay
    rw [hepc, takeException_epc, hexl, ← restartPc_of_none s hdelay]
    rfl
  case nested =>
    intro hexl
    rw [hepc, takeException_epc, hexl]
    rfl
  case exl => rw [hstatus, takeException_status]
  case vector =>
    have hoffset : s.vectorOffset (.addressError false s.pc) = 0x180 := vectorOffset_of_not_refill s _ (.inl rfl)
    simp [State.tickInstruction, t, hoffset]
  case gprs => exact fun r => gpr_eq_of_gprs _ _ (by simp [State.tickInstruction, t]) r
  case bytes => exact fun a => by simp [State.byteAt, State.tickInstruction, t]

/-! ### Misaligned loads and stores -/

theorem loadVirt_misaligned (s : State) (va : Word) (n : Nat) (h : va.toNat % n ≠ 0) :
    s.loadVirt va n = .raise (.addressError false va) s := by
  simp [State.loadVirt, prepare_misaligned s .load va n h, Run.bind, Access.isStore]

theorem storeVirt_misaligned (s : State) (va : Word) (align n : Nat) (v : Word) (h : va.toNat % align ≠ 0) :
    s.storeVirt va align n v = .raise (.addressError true va) s := by
  simp [State.storeVirt, prepare_misaligned s .store va align h, Run.bind, Access.isStore]

/-- A load into any register: the address error comes before what is done with the datum. -/
theorem load_misaligned (s : State) (va : Word) (n : Nat) (done : Word → State → Run Unit) (h : va.toNat % n ≠ 0) :
    Takes s ((s.loadVirt va n).bind done).finish (.addressError false va) := by
  rw [loadVirt_misaligned s va n h]
  rfl

theorem loadLinked_misaligned (s : State) (rt : RegNum) (va : Word) (n : Nat) (value : Word → Word) (h : va.toNat % n ≠ 0) :
    Takes s (s.loadLinked rt va n value) (.addressError false va) := by
  rw [State.loadLinked, prepare_misaligned s .load va n h]
  rfl

theorem storeFrom_misaligned (s : State) (va : Word) (n : Nat) (v : Word) (h : va.toNat % n ≠ 0) :
    Takes s (s.storeFrom va n n v) (.addressError true va) := by
  rw [State.storeFrom, storeVirt_misaligned s va n n v h]
  rfl

theorem storeConditional_misaligned (s : State) (rt : RegNum) (va : Word) (n : Nat) (h : va.toNat % n ≠ 0) :
    Takes s (s.storeConditional rt va n) (.addressError true va) := by
  rw [State.storeConditional, prepare_misaligned s .store va n h]
  rfl

theorem whenPairs_usable (s : State) (names : List RegNum) (act : Out) (hu : s.cp1Usable = true) (he : s.evenFprs names = true) :
    s.whenPairs names act = act := (whenCp1_usable s _ hu).trans (if_pos he)

theorem misalignedAccessesRaise : Claim.MisalignedAccessesRaise := by
  unfold Claim.MisalignedAccessesRaise
  intro s rt base offset va
  simp only [List.forall_mem_cons]
  refine ⟨fun h => ⟨⟨?_, ?_, List.forall_mem_nil _⟩, ?_⟩,
    fun h => ⟨⟨?_, ?_, ?_, List.forall_mem_nil _⟩, ⟨?_, ?_, List.forall_mem_nil _⟩, fun hu => ⟨?lwc1, ?swc1⟩⟩,
    fun h => ⟨⟨?_, ?_, List.forall_mem_nil _⟩, ⟨?_, ?_, List.forall_mem_nil _⟩, fun hu he => ⟨?ldc1, ?sdc1⟩⟩⟩
  case lwc1 => exact (whenCp1_usable s _ hu).trans (load_misaligned s va 4 _ h)
  case swc1 => exact (whenCp1_usable s _ hu).trans (storeFrom_misaligned s va 4 _ h)
  case ldc1 => exact (whenPairs_usable s _ _ hu he).trans (load_misaligned s va 8 _ h)
  case sdc1 => exact (whenPairs_usable s _ _ hu he).trans (storeFrom_misaligned s va 8 _ h)
  · exact load_misaligned s va 2 _ h
  · exact load_misaligned s va 2 _ h
  · exact storeFrom_misaligned s va 2 _ h
  · exact load_misaligned s va 4 _ h
  · exact load_misaligned s va 4 _ h
  · exact loadLinked_misaligned s rt va 4 (fun v => sext32 (low32 v)) h
  · exact storeFrom_misaligned s va 4 _ h
  · exact storeConditional_misaligned s rt va 4 h
  · exact load_misaligned s va 8 _ h
  · exact loadLinked_misaligned s rt va 8 (fun v => v) h
  · exact storeFrom_misaligned s va 8 _ h
  · exact storeConditional_misaligned s rt va 8 h

/-- Settles O34. -/
theorem misalignmentRaises : Obligations.MisalignmentRaises := by
  unfold Obligations.MisalignmentRaises
  exact ⟨misalignedFetchRaises, misalignedAccessesRaise⟩

end Machine
end Sys2Proof
end

section
/-! PROOF. The segment table (O32): what each mode makes of the row an address lies in, and the ranges of the rows. -/

namespace Sys2Proof
namespace Machine

/-! ### Translation by the row of the segment table -/

/-- The modes and addresses that 20_memory.md R149 does not refuse: a defined mode, and no user segment at error level. -/
structure State.MayTranslate (s : State) (va : Word) : Prop where
  mode : s.mode ≠ .undefined
  level : s.cp0.status.erl = false ∨ 2 ^ 62 ≤ va.toNat

theorem State.MayTranslate.notErrorLevel {s : State} {va : Word} (h : s.MayTranslate va) :
    ¬(s.cp0.status.erl && va.extractLsb' 62 2 == 0) = true := by
  rw [Bool.not_eq_true, Bool.and_eq_false_iff, extractLsb'_beq, decide_eq_false_iff_not]
  refine h.level.imp_right fun hva => ?_
  have := va.isLt
  change ¬ va.toNat / 2 ^ 62 % 2 ^ 2 = 0
  omega

/-- A translation must give an attribute that an access may use (20_memory.md R148, R160). -/
def Chk.known (c : Chk (PAddr × BitVec 3)) : Chk (PAddr × BitVec 3) :=
  c.bind fun r => if attributeKnown r.2 then .pass r else .refuse .reservedAttribute

theorem known_pass (pa : PAddr) (c : BitVec 3) (h : c = 2 ∨ c = 3 ∨ c = 7) :
    Chk.known (.pass (pa, c)) = .pass (pa, c) := by
  rcases h with rfl | rfl | rfl <;> rfl

theorem known_reserved (pa : PAddr) (c : BitVec 3) (h : ¬(c = 2 ∨ c = 3 ∨ c = 7)) :
    Chk.known (.pass (pa, c)) = .refuse .reservedAttribute := by
  have hc : attributeKnown c = false := by simpa [attributeKnown, and_assoc] using h
  simp [Chk.known, Chk.bind, hc]

theorem translate_addressError (s : State) (kind : Access) (va : Word) (h : s.MayTranslate va)
    (hs : segment s.mode s.cp0.configK0 va = .addressError) : s.translate kind va = .raise (.addressError (kind == .store) va) := by
  rw [State.translate, if_neg (by simp [h.mode]), if_neg h.notErrorLevel, hs]
  rfl

theorem translate_unmapped (s : State) (kind : Access) (va : Word) (pa : PAddr) (c : BitVec 3) (h : s.MayTranslate va)
    (hs : segment s.mode s.cp0.configK0 va = .unmapped pa c) : s.translate kind va = Chk.known (.pass (pa, c)) := by
  rw [State.translate, if_neg (by simp [h.mode]), if_neg h.notErrorLevel, hs]
  rfl

theorem translate_mapped (s : State) (kind : Access) (va : Word) (h : s.MayTranslate va)
    (hs : segment s.mode s.cp0.configK0 va = .mapped) : s.translate kind va = Chk.known (s.translateMapped kind va) := by
  rw [State.translate, if_neg (by simp [h.mode]), if_neg h.notErrorLevel, hs]
  rfl

/-! ### What each mode may use -/

theorem segment_user (k0 : BitVec 3) (va : Word) (h : segmentName va ≠ .xuseg) : segment .user k0 va = .addressError := by
  unfold segment
  cases hn : segmentName va with
  | xuseg => exact absurd hn h
  | _ => rfl

theorem segment_supervisor (k0 : BitVec 3) (va : Word) (hu : segmentName va ≠ .xuseg) (hs : segmentName va ≠ .xsseg)
    (hc : segmentName va ≠ .csseg) : segment .supervisor k0 va = .addressError := by
  unfold segment
  cases hn : segmentName va with
  | xuseg => exact absurd hn hu
  | xsseg => exact absurd hn hs
  | csseg => exact absurd hn hc
  | _ => rfl

theorem segment_gap (m : Mode) (k0 : BitVec 3) (va : Word) (h : segmentName va = .gap) : segment m k0 va = .addressError := by
  rw [segment, h]

/-- Only at level 0 is the mode another than kernel. -/
theorem erl_of_mode (s : State) (h : s.mode ≠ .kernel) : s.cp0.status.erl = false :=
  Bool.eq_false_iff.mpr fun herl => h (mode_of_erl s herl)

theorem mayTranslate_below_kernel (s : State) (va : Word) (m : Mode) (hm : s.mode = m) (h : m = .user ∨ m = .supervisor) :
    s.MayTranslate va := by
  rcases h with rfl | rfl <;> exact ⟨by simp [hm], .inl (erl_of_mode s (by simp [hm]))⟩

/-- An address of no range of the table. -/
theorem segmentName_gap (va : Word)
    (h : (2 ^ 40 ≤ va.toNat ∧ va.toNat < 2 ^ 62) ∨ (2 ^ 62 + 2 ^ 40 ≤ va.toNat ∧ va.toNat < 2 ^ 63) ∨
      (0x8000000000000000 ≤ va.toNat ∧ va.toNat < 0xC000000000000000 ∧ va.toNat / 2 ^ 40 % 2 ^ 19 ≠ 0) ∨
      (0xC00000FF80000000 ≤ va.toNat ∧ va.toNat < 0xFFFFFFFF80000000)) : segmentName va = .gap := by
  obtain ⟨hxuseg, hxsseg, hxkphys, hxkseg, hckseg0, hckseg1, hcsseg, hckseg3⟩ := segmentRanges va
  cases hn : segmentName va with
  | gap => rfl
  | xuseg => have := hxuseg.mp hn; omega
  | xsseg => have := hxsseg.mp hn; omega
  | xkphys => have := hxkphys.mp hn; omega
  | xkseg => have := hxkseg.mp hn; omega
  | ckseg0 => have := hckseg0.mp hn; omega
  | ckseg1 => have := hckseg1.mp hn; omega
  | csseg => have := hcsseg.mp hn; omega
  | ckseg3 => have := hckseg3.mp hn; omega

theorem segmentsByMode : Claim.SegmentsByMode := by
  unfold Claim.SegmentsByMode
  intro s kind va
  obtain ⟨hxuseg, hxsseg, -, -, -, -, hcsseg, -⟩ := segmentRanges va
  refine ⟨fun hm hva => ?user, fun hm hva hss hcs => ?supervisor, fun hm hva => ?kernel⟩
  case user =>
    refine translate_addressError s kind va (mayTranslate_below_kernel s va _ hm (.inl rfl)) ?_
    rw [hm]
    exact segment_user _ va fun h => absurd (hxuseg.mp h) (by omega)
  case supervisor =>
    refine translate_addressError s kind va (mayTranslate_below_kernel s va _ hm (.inr rfl)) ?_
    rw [hm]
    exact segment_supervisor _ va (fun h => absurd (hxuseg.mp h) (by omega)) (fun h => hss (hxsseg.mp h)) fun h => hcs (hcsseg.mp h)
  case kernel =>
    have hlevel : s.cp0.status.erl = false ∨ 2 ^ 62 ≤ va.toNat := by
      rcases hva with h | h | h | h
      · exact .inl h.2.2
      all_goals exact .inr (by omega)
    refine translate_addressError s kind va ⟨by simp [hm], hlevel⟩ (segment_gap _ _ va (segmentName_gap va ?_))
    exact hva.imp_left fun h => ⟨h.1, h.2.1⟩

/-! ### The unmapped segments -/

/-- The physical address of the compatibility segments is the offset in them (20_memory.md R146). -/
theorem compatibility_offset (va : Word) (base : Nat) (hb : base % 2 ^ 29 = 0) (hlow : base ≤ va.toNat)
    (hhigh : va.toNat < base + 2 ^ 29) : (va.extractLsb' 0 29).setWidth 40 = BitVec.ofNat 40 (va.toNat - base) := by
  apply BitVec.eq_of_toNat_eq
  simp only [BitVec.toNat_setWidth, BitVec.extractLsb'_toNat, BitVec.toNat_ofNat, Nat.shiftRight_zero]
  omega

theorem segment_ckseg0 (k0 : BitVec 3) (va : Word) (h : segmentName va = .ckseg0) :
    segment .kernel k0 va = .unmapped ((va.extractLsb' 0 29).setWidth 40) k0 := by
  rw [segment, h]; rfl

theorem segment_ckseg1 (k0 : BitVec 3) (va : Word) (h : segmentName va = .ckseg1) :
    segment .kernel k0 va = .unmapped ((va.extractLsb' 0 29).setWidth 40) 2 := by
  rw [segment, h]; rfl

theorem segment_xkphys (k0 : BitVec 3) (va : Word) (h : segmentName va = .xkphys) :
    segment .kernel k0 va = .unmapped (va.extractLsb' 0 40) (va.extractLsb' 59 3) := by
  rw [segment, h]; rfl

theorem unmappedSegments : Claim.UnmappedSegments := by
  unfold Claim.UnmappedSegments
  intro s kind va hm known
  obtain ⟨-, -, hxkphys, -, hckseg0, hckseg1, -, -⟩ := segmentRanges va
  have hmay : 2 ^ 62 ≤ va.toNat → s.MayTranslate va := fun h => ⟨by simp [hm], .inr h⟩
  refine ⟨fun hlow hhigh => ?ckseg0, fun hlow hhigh => ?ckseg1, fun hlow hhigh hzero => ?xkphys⟩
  case ckseg0 =>
    have ht := translate_unmapped s kind va _ _ (hmay (by omega))
      (hm ▸ segment_ckseg0 s.cp0.configK0 va (hckseg0.mpr ⟨hlow, hhigh⟩))
    rw [compatibility_offset va 0xFFFFFFFF80000000 (by decide) hlow (by omega)] at ht
    exact ⟨fun h => ht.trans (known_pass _ _ h), fun h => ht.trans (known_reserved _ _ h)⟩
  case ckseg1 =>
    have ht := translate_unmapped s kind va _ _ (hmay (by omega))
      (hm ▸ segment_ckseg1 s.cp0.configK0 va (hckseg1.mpr ⟨hlow, hhigh⟩))
    rw [compatibility_offset va 0xFFFFFFFFA0000000 (by decide) hlow (by omega)] at ht
    exact ht.trans (known_pass _ _ (.inl rfl))
  case xkphys =>
    have ht := translate_unmapped s kind va _ _ (hmay (by omega))
      (hm ▸ segment_xkphys s.cp0.configK0 va (hxkphys.mpr ⟨hlow, hhigh, hzero⟩))
    have hpa : va.extractLsb' 0 40 = BitVec.ofNat 40 (va.toNat % 2 ^ 40) := by
      apply BitVec.eq_of_toNat_eq
      simp
    rw [hpa] at ht
    exact ⟨fun h => ht.trans (known_pass _ _ h), fun h => ht.trans (known_reserved _ _ h)⟩

/-- Settles O32. -/
theorem addressSpaces : Obligations.AddressSpaces := by
  unfold Obligations.AddressSpaces
  exact ⟨segmentsByMode, unmappedSegments⟩

end Machine
end Sys2Proof
end

section
/-! PROOF. Translation by the TLB (O33): when an entry matches, what the match gives, what a fetch may take from the stale entries, and
which instructions add to them. -/

namespace Sys2Proof
namespace Machine

/-! ### When an entry matches -/

theorem maskBits_ones (mask : BitVec 12) (k : Nat) (h : mask.toNat = 2 ^ k - 1) : maskBits mask = k := by
  have hk : k < 13 := by
    by_contra hge
    have := Nat.pow_le_pow_right (n := 2) (by decide) (not_lt.mp hge)
    have := mask.isLt
    omega
  obtain rfl : mask = BitVec.ofNat 12 (2 ^ k - 1) := by rw [← h, BitVec.ofNat_toNat, BitVec.setWidth_eq]
  interval_cases k <;> rfl

theorem matchesVa_iff (e : TlbEntry) (asid : BitVec 8) (va : Word) :
    e.matchesVa asid va = true ↔
      (∀ i, i < 31 → e.mask.getLsbD i = false → e.vpn2.getLsbD i = va.getLsbD (13 + i)) ∧ e.r.toNat = va.toNat / 2 ^ 62 ∧
        (e.g = true ∨ e.asid = asid) := by
  have hregion : e.r = va.extractLsb' 62 2 ↔ e.r.toNat = va.toNat / 2 ^ 62 := by
    have := va.isLt
    rw [← BitVec.toNat_inj, BitVec.extractLsb'_toNat, Nat.shiftRight_eq_div_pow, Nat.mod_eq_of_lt (by omega)]
  have hpages : e.vpn2 &&& ~~~(e.mask.setWidth 31) = va.extractLsb' 13 31 &&& ~~~(e.mask.setWidth 31) ↔
      ∀ i, i < 31 → e.mask.getLsbD i = false → e.vpn2.getLsbD i = va.getLsbD (13 + i) := by
    rw [BitVec.eq_of_getLsbD_eq_iff]
    refine forall₂_congr fun i hi => ?_
    simp only [BitVec.getLsbD_and, BitVec.getLsbD_not, BitVec.getLsbD_setWidth, BitVec.getLsbD_extractLsb', hi, decide_true,
      Bool.true_and]
    cases e.mask.getLsbD i <;> simp
  simp only [TlbEntry.matchesVa, Bool.and_eq_true, Bool.or_eq_true, beq_iff_eq, hregion, hpages, and_assoc]

theorem mayBeCached_iff (e : TlbEntry) : e.mayBeCached = true ↔ e.page0.v = true ∨ e.page1.v = true := by
  simp [TlbEntry.mayBeCached]

/-- A statement about the entries of the TLB, by their numbers. -/
theorem forall_mem_tlb {α : Type} {n : Nat} (v : Vector α n) (P : α → Prop) :
    (∀ e ∈ v.toList, P e) ↔ ∀ i : Fin n, P v[i] := by
  simp only [List.forall_mem_iff_forall_getElem, Vector.getElem_toList, Vector.length_toList]
  exact ⟨fun h i => h i i.isLt, fun h i hi => h ⟨i, hi⟩⟩

theorem pageSizesAgree_iff (s : State) :
    s.pageSizesAgree = true ↔
      ∀ i : Fin 64, (s.tlb[i]).page0.v = true ∨ (s.tlb[i]).page1.v = true → (s.tlb[i]).mask = s.cp0.pageMask := by
  rw [State.pageSizesAgree, List.all_eq_true,
    forall_mem_tlb s.tlb fun e => (!e.mayBeCached || e.mask == s.cp0.pageMask) = true]
  refine forall_congr' fun i => ?_
  rw [← mayBeCached_iff]
  cases (s.tlb[i]).mayBeCached <;> simp

theorem tlbMatches : Claim.TlbMatches := by
  unfold Claim.TlbMatches
  exact ⟨matchesVa_iff, maskBits_ones, pageSizesAgree_iff⟩

/-! ### What a match gives -/

theorem maskBits_le (mask : BitVec 12) : maskBits mask ≤ 12 := List.countP_le_length

/-- The frame number above the page offset is an address of 40 bits. -/
theorem physical_lt (pfn k va : Nat) (hp : pfn < 2 ^ 28) (hk : k ≤ 12) :
    pfn / 2 ^ k * 2 ^ (12 + k) + va % 2 ^ (12 + k) < 2 ^ 40 := by
  have hoffset : va % 2 ^ (12 + k) < 2 ^ (12 + k) := Nat.mod_lt _ (Nat.two_pow_pos _)
  have hframe : pfn / 2 ^ k < 2 ^ (28 - k) := by
    rwa [Nat.div_lt_iff_lt_mul (Nat.two_pow_pos k), ← Nat.pow_add, Nat.sub_add_cancel (by omega)]
  calc pfn / 2 ^ k * 2 ^ (12 + k) + va % 2 ^ (12 + k)
      < (pfn / 2 ^ k + 1) * 2 ^ (12 + k) := by rw [Nat.add_one_mul]; omega
    _ ≤ 2 ^ (28 - k) * 2 ^ (12 + k) := Nat.mul_le_mul_right _ hframe
    _ = 2 ^ 40 := by rw [← Nat.pow_add]; congr 1; omega

/-- What the access checks make of the page that an entry gives. -/
theorem translate_entry (e : TlbEntry) (kind : Access) (va : Word) :
    Claim.EntryTranslates e kind va (Chk.known (e.translate kind va)) := by
  have hpage : e.page va = if va.getLsbD (12 + maskBits e.mask) then e.page1 else e.page0 := rfl
  unfold Claim.EntryTranslates
  simp only [← hpage]
  refine ⟨fun hv => ?invalid, fun hv hk hd => ?modified, fun hv hk he => ?inhibited, fun hv hd he => ?translates⟩
  case invalid => simp [TlbEntry.translate, hv, Chk.known, Chk.bind, Access.isStore]
  case modified => subst hk; simp [TlbEntry.translate, hv, hd, Chk.known, Chk.bind]
  case inhibited => subst hk; simp [TlbEntry.translate, hv, he, Chk.known, Chk.bind]
  case translates =>
    have hpass : e.translate kind va = .pass (e.physical va, (e.page va).c) := by
      cases kind <;> simp_all [TlbEntry.translate]
    rw [hpass]
    exact ⟨fun hc => ⟨known_pass _ _ hc, physical_lt _ _ _ (e.page va).pfn.isLt (maskBits_le e.mask)⟩,
      fun hc => known_reserved _ _ hc⟩

/-! ### The translation of a mapped address -/

theorem segment_mapped (m : Mode) (k0 : BitVec 3) (va : Word) (h : Claim.inMappedSegment m va) : segment m k0 va = .mapped := by
  obtain ⟨hxuseg, hxsseg, -, hxkseg, -, -, hcsseg, hckseg3⟩ := segmentRanges va
  rcases h with h | ⟨hm, h1, h2⟩ | ⟨rfl, h1, h2⟩ | ⟨hm, h1, h2⟩ | ⟨rfl, h⟩
  · rw [segment, hxuseg.mpr h]
  · rw [segment, hxsseg.mpr ⟨h1, h2⟩]; simp [hm]
  · rw [segment, hxkseg.mpr ⟨h1, h2⟩]; rfl
  · rw [segment, hcsseg.mpr ⟨h1, h2⟩]; simp [hm]
  · rw [segment, hckseg3.mpr h]; rfl

theorem translateMapped_mixed (s : State) (kind : Access) (va : Word) (h : s.pageSizesAgree = false) :
    s.translateMapped kind va = .refuse .mixedPageSizes := by
  simp [State.translateMapped, h]

/-- Without stale entries only the TLB as it is counts. -/
theorem translateMapped_now (s : State) (kind : Access) (va : Word) (h : s.pageSizesAgree = true)
    (hs : kind = .fetch → s.itlbStale = []) : s.translateMapped kind va = s.translateTlb kind va := by
  cases kind with
  | fetch => simp [State.translateMapped, h, State.staleTranslations, hs rfl]
  | load => simp [State.translateMapped, h]
  | store => simp [State.translateMapped, h]

/-- A fetch takes the translation of the TLB or one that the ITLB may still hold. -/
theorem translateMapped_fetch (s : State) (va : Word) (h : s.pageSizesAgree = true) :
    s.translateMapped .fetch va = s.translateTlb .fetch va ∨ s.translateMapped .fetch va ∈ s.staleTranslations va := by
  let choices := (s.translateTlb .fetch va :: s.staleTranslations va).dedup
  have hchoice : s.translateMapped .fetch va =
      choices.getD (s.drawBelow choices.length .fetchPath) (s.translateTlb .fetch va) := by
    simp [State.translateMapped, h, choices]
  have hpos : 0 < choices.length := List.length_pos_iff.mpr (by simp [choices, List.dedup_eq_nil])
  have hlt := drawBelow_lt s _ .fetchPath hpos
  rw [hchoice, List.getD_eq_getElem _ _ hlt]
  exact List.mem_cons.mp (List.mem_dedup.mp (List.getElem_mem hlt))

theorem tlbTranslates : Claim.TlbTranslates := by
  unfold Claim.TlbTranslates
  intro s kind va hmode hlevel hseg hstale found
  have ht := translate_mapped s kind va ⟨hmode, hlevel⟩ (segment_mapped _ _ va hseg)
  refine ⟨fun h => ?mixed, fun h => ?agree⟩
  case mixed => rw [ht, translateMapped_mixed s kind va h]; rfl
  case agree =>
    rw [ht, translateMapped_now s kind va h hstale]
    have hnow : ∀ l, found = l → s.translateTlb kind va =
        match l with
        | [] => .raise (.tlbRefill kind.isStore va)
        | [e] => e.translate kind va
        | _ => .fault .multipleTlbMatch := by
      rintro _ rfl
      rfl
    refine ⟨fun hnone => ?refill, fun hmany => ?many, fun e hone => ?one⟩
    case refill => rw [hnow _ hnone]; rfl
    case many =>
      obtain ⟨e1, e2, rest, hl⟩ : ∃ e1 e2 rest, found = e1 :: e2 :: rest := by
        match found, hmany with
        | e1 :: e2 :: rest, _ => exact ⟨e1, e2, rest, rfl⟩
      rw [hnow _ hl]; rfl
    case one => rw [hnow _ hone]; exact translate_entry e kind va

/-! ### Stale entries -/

theorem staleFetchTranslates : Claim.StaleFetchTranslates := by
  unfold Claim.StaleFetchTranslates
  intro s va hmode hlevel hseg r now
  have hmapped := segment_mapped s.mode s.cp0.configK0 va hseg
  have hr : r = Chk.known (s.translateMapped .fetch va) := translate_mapped s .fetch va ⟨hmode, hlevel⟩ hmapped
  refine ⟨fun h => ?mixed, fun h => ?agree⟩
  case mixed => rw [hr, translateMapped_mixed s .fetch va h]; rfl
  case agree =>
    rw [hr]
    rcases translateMapped_fetch s va h with hnow | hstale
    · left
      rw [hnow, translate_mapped now .fetch va ⟨hmode, hlevel⟩ hmapped, translateMapped_now now .fetch va h fun _ => rfl]
      rfl
    · right
      obtain ⟨p, hp, hgives⟩ := List.mem_map.mp hstale
      obtain ⟨hp, hserves⟩ := List.mem_filter.mp hp
      obtain ⟨e, he, hmatch⟩ := List.any_eq_true.mp hserves
      obtain ⟨hva, hv⟩ := (Bool.and_eq_true _ _).mp hmatch
      refine ⟨p, hp, e, he, hva, hv, fun hm => ?_, fun hm => ?_⟩
      · rw [← hgives, if_pos (by simp [hm])]
        exact translate_entry p.1 .fetch va
      · rw [← hgives, if_neg (by simp [hm])]
        rfl

/-! ### The instructions that leave stale entries -/

theorem mem_setTlb_itlbStale (s : State) (i : BitVec 6) (e : TlbEntry) (p : TlbEntry × BitVec 8) :
    p ∈ (s.setTlb i e).itlbStale ↔
      p ∈ s.itlbStale ∨ (p = (s.tlb[i.toFin], s.cp0.entryHi.asid) ∧ (s.tlb[i.toFin]).mayBeCached = true) := by
  have hold : (s.setTlb i e).itlbStale =
      if (s.tlb[i.toFin]).mayBeCached then (s.tlb[i.toFin], s.cp0.entryHi.asid) :: s.itlbStale else s.itlbStale := rfl
  rw [hold]
  split
  · next h => simp only [List.mem_cons, h, and_true]; exact or_comm
  · next h => simp only [h, Bool.false_eq_true, and_false, or_false]

theorem mem_setEntryHi_itlbStale (s : State) (h : EntryHi) (p : TlbEntry × BitVec 8) :
    p ∈ (s.setEntryHi h).itlbStale ↔
      p ∈ s.itlbStale ∨ (h.asid ≠ s.cp0.entryHi.asid ∧
        ∃ i : Fin 64, p = (s.tlb[i], s.cp0.entryHi.asid) ∧ (s.tlb[i]).mayBeCached = true ∧ (s.tlb[i]).g = false) := by
  unfold State.setEntryHi
  dsimp only
  split
  · next heq => simp [heq]
  · next hne =>
    have hmem : ∀ e, e ∈ s.tlb.toList ↔ ∃ i : Fin 64, s.tlb[i] = e := fun e => by
      simpa using not_congr (forall_mem_tlb s.tlb fun x => x ≠ e)
    simp only [List.mem_append, List.mem_map, List.mem_filter, hmem, Bool.and_eq_true, Bool.not_eq_true', ne_eq, hne,
      not_false_iff, true_and]
    rw [or_comm]
    refine or_congr_right ⟨?_, ?_⟩
    · rintro ⟨_, ⟨⟨i, rfl⟩, hc, hg⟩, rfl⟩
      exact ⟨i, rfl, hc, hg⟩
    · rintro ⟨i, rfl, hc, hg⟩
      exact ⟨_, ⟨⟨i, rfl⟩, hc, hg⟩, rfl⟩

/-- With a new entry of PageMask in its place, the page sizes agree where they agree for the other entries. -/
theorem writtenSizesAgree_setTlb (s : State) (i : BitVec 6) (h : s.sizesFit i) :
    (s.setTlb i s.cp0.tlbEntry).writtenSizesAgree = true := by
  rw [State.writtenSizesAgree, List.all_eq_true, List.forall_mem_iff_forall_getElem]
  intro j hj
  have hj64 : j < 64 := by simpa using hj
  simp only [List.getElem_zip, Vector.getElem_toList, setTlb_tlb, setTlb_tlbWritten, Vector.getElem_set]
  split
  · next heq => simp [Cp0.tlbEntry]
  · next hne =>
    have hother : s.tlbWritten[j] = true → (s.tlb[j]).mayBeCached = true → (s.tlb[j]).mask = s.cp0.pageMask := fun hw hc =>
      h ⟨j, hj64⟩ (Ne.symm hne) hw ((mayBeCached_iff _).mp hc)
    have hmask : (s.setTlb i s.cp0.tlbEntry).cp0.pageMask = s.cp0.pageMask := rfl
    rw [hmask]
    by_cases hc : (s.tlbWritten[j] && (s.tlb[j]).mayBeCached) = true
    · obtain ⟨hw, hv⟩ := (Bool.and_eq_true _ _).mp hc
      simp [hother hw hv]
    · simp [Bool.eq_false_iff.mpr hc]

theorem staleEntriesJoin : Claim.StaleEntriesJoin := by
  unfold Claim.StaleEntriesJoin
  intro s rt hu hl asid copied
  refine ⟨fun hmask w hw hfit => ?_, ?_⟩
  · have hnext := writeTlb_next s w.2 hu hmask (writtenSizesAgree_setTlb s w.2 hfit) hl
    have hexec : exec w.1 s = s.writeTlb w.2 := by
      simp only [List.mem_cons, List.not_mem_nil, or_false] at hw
      rcases hw with rfl | rfl <;> rfl
    refine ⟨_, hexec.trans hnext, fun p => ?_⟩
    simp only [stepped_itlbStale, mem_setTlb_itlbStale, mayBeCached_iff, asid, copied]
  · let h : EntryHi := { r := (s.gpr rt).extractLsb' 62 2, vpn2 := (s.gpr rt).extractLsb' 13 31, asid := (s.gpr rt).extractLsb' 0 8 }
    have hexec : exec (.dmtc0 rt 10) s = (s.setEntryHi h).advance := whenCp0_usable s _ hu
    refine ⟨_, hexec.trans (advance_next _ hl), fun p => ?_⟩
    simp only [stepped_itlbStale, mem_setEntryHi_itlbStale, mayBeCached_iff, asid, copied, h]

/-- Settles O33. -/
theorem tlbTranslation : Obligations.TlbTranslation := by
  unfold Obligations.TlbTranslation
  exact ⟨tlbMatches, tlbTranslates, staleFetchTranslates, staleEntriesJoin⟩

end Machine
end Sys2Proof
end

section
/-! PROOF. The gather buffer and SYNC (O40). -/

namespace Sys2Proof
namespace Machine

/-! ### The end of an instruction that leaves the pc alone -/

/-- An instruction that has not touched the pc and its delay slot advances as from the state it began in. -/
theorem advance_of_same (s t : State) (hpc : t.pc = s.pc) (hd : t.delay = s.delay) (hl : s.leavesSegment = false) :
    t.advance = .next t.stepped ∧ Advanced s t.stepped := by
  have hseg : t.leavesSegment = false := by simpa [State.leavesSegment, State.leavesAfter, hpc, hd] using hl
  exact ⟨advance_next t hseg, by simp [State.nextPc, hpc, hd], rfl⟩

@[simp] theorem drainGather_pc (s : State) : s.drainGather.pc = s.pc := by rw [drainGather_frame]
@[simp] theorem drainGather_delay (s : State) : s.drainGather.delay = s.delay := by rw [drainGather_frame]
@[simp] theorem drainGather_caches (s : State) : s.drainGather.caches = s.caches := by rw [drainGather_frame]
@[simp] theorem drainGather_code (s : State) : s.drainGather.code = s.code := by rw [drainGather_frame]

theorem low32_eq_ofNat (v : Word) : low32 v = BitVec.ofNat 32 v.toNat := by
  apply BitVec.eq_of_toNat_eq
  simp [low32]

/-! ### When a store goes on from the waiting ones -/

theorem gatherContinues_empty (s : State) (pa : PAddr) (n : Nat) (h : s.gather = []) : s.gatherContinues pa n = true := by
  simp [State.gatherContinues, h]

theorem storesGather : Claim.StoresGather := by
  unfold Claim.StoresGather
  refine fun s pa n => ⟨gatherContinues_empty s pa n, fun earlier g hg => ?_⟩
  simp only [State.gatherContinues, hg, List.getLast?_concat, lineNumber, Bool.and_eq_true, beq_iff_eq, and_assoc]
  exact and_congr_right fun _ => and_congr eq_comm eq_comm

/-! ### Uncached-accelerated stores (20_memory.md R163) -/

/-- The state in which a store joins the gather buffer: as it is, or with the earlier stores issued. -/
def State.beforeGather (s : State) (pa : PAddr) (n : Nat) : State := if s.gatherContinues pa n then s else s.drainGather

/-- The stores that wait once a store has joined them. -/
def State.waitingWith (s : State) (pa : PAddr) (n : Nat) (v : Word) : List GatheredStore :=
  s.gather ++ [{ pa := pa, size := n, value := v }]

theorem gatheredBytes_waitingWith (s : State) (pa : PAddr) (n : Nat) (v : Word) :
    ({ s with gather := s.waitingWith pa n v } : State).gatheredBytes = s.gatheredBytes + n := by
  simp [State.gatheredBytes, State.waitingWith]

theorem gatherStore_waits (s : State) (pa : PAddr) (n : Nat) (v : Word) (h : (s.beforeGather pa n).gatheredBytes + n < 32) :
    s.gatherStore pa n v = { s.beforeGather pa n with gather := (s.beforeGather pa n).waitingWith pa n v } := by
  rw [← gatheredBytes_waitingWith _ pa n v] at h
  exact if_neg (not_le.mpr h)

theorem gatherStore_issues (s : State) (pa : PAddr) (n : Nat) (v : Word) (h : 32 ≤ (s.beforeGather pa n).gatheredBytes + n) :
    s.gatherStore pa n v =
      ({ s.beforeGather pa n with gather := (s.beforeGather pa n).waitingWith pa n v } : State).drainGather := by
  rw [← gatheredBytes_waitingWith _ pa n v] at h
  exact if_pos h

theorem beforeGather_control (s : State) (pa : PAddr) (n : Nat) :
    (s.beforeGather pa n).pc = s.pc ∧ (s.beforeGather pa n).delay = s.delay ∧ (s.beforeGather pa n).gprs = s.gprs := by
  unfold State.beforeGather
  split <;> simp

/-- An uncached-accelerated store where the stores that wait with it do not fill a block. -/
theorem storeAccelerated_waits (s : State) (pa : PAddr) (n : Nat) (v : Word) (h : (s.beforeGather pa n).gatheredBytes + n < 32) :
    ∃ raced code, s.storeAccelerated pa n v =
      { s.beforeGather pa n with gather := (s.beforeGather pa n).waitingWith pa n v, raced := raced, code := code } := by
  rw [State.storeAccelerated, gatherStore_waits s pa n v h]
  exact ⟨_, _, rfl⟩

/-- An uncached-accelerated store that fills a block of 32 bytes. -/
theorem storeAccelerated_issues (s : State) (pa : PAddr) (n : Nat) (v : Word) (h : 32 ≤ (s.beforeGather pa n).gatheredBytes + n) :
    ∃ raced code, s.storeAccelerated pa n v =
      { ({ s.beforeGather pa n with gather := (s.beforeGather pa n).waitingWith pa n v } : State).drainGather with
        raced := raced, code := code } := by
  rw [State.storeAccelerated, gatherStore_issues s pa n v h]
  exact ⟨_, _, rfl⟩

/-- An uncached-accelerated store leaves the control state and the general registers alone. -/
theorem storeAccelerated_control (s : State) (pa : PAddr) (n : Nat) (v : Word) :
    (s.storeAccelerated pa n v).pc = s.pc ∧ (s.storeAccelerated pa n v).delay = s.delay ∧
      (s.storeAccelerated pa n v).gprs = s.gprs := by
  rcases lt_or_ge ((s.beforeGather pa n).gatheredBytes + n) 32 with h | h
  · obtain ⟨raced, code, hstore⟩ := storeAccelerated_waits s pa n v h
    rw [hstore]
    exact beforeGather_control s pa n
  · obtain ⟨raced, code, hstore⟩ := storeAccelerated_issues s pa n v h
    rw [hstore]
    simpa only [drainGather_pc, drainGather_delay, drainGather_gprs] using beforeGather_control s pa n

/-- What an uncached-accelerated store instruction does, whatever its size and alignment. -/
theorem storeFrom_accelerated (s : State) (va : Word) (align n : Nat) (pa : PAddr) (v : Word) (hl : s.leavesSegment = false)
    (h : AcceleratedStore s va align n pa) : GatherResult s (s.storeFrom va align n v) pa n v := by
  obtain ⟨hpc, hdelay, hgprs⟩ := storeAccelerated_control s pa n v
  obtain ⟨hnext, hadv⟩ := advance_of_same s (s.storeAccelerated pa n v) hpc hdelay hl
  have hfinish : s.storeFrom va align n v = (s.storeAccelerated pa n v).advance := by
    rw [State.storeFrom, storeVirt_accelerated s va align n pa v h, Run.finish]
  refine ⟨_, hfinish.trans hnext, hadv, fun r => gpr_eq_of_gprs s _ hgprs r, fun hfew => ?waits, fun hmany => ?issued⟩
  case waits =>
    obtain ⟨raced, code, hstore⟩ := storeAccelerated_waits s pa n v hfew
    rw [hstore]
    exact ⟨rfl, rfl⟩
  case issued =>
    obtain ⟨raced, code, hstore⟩ := storeAccelerated_issues s pa n v hmany
    rw [hstore]
    exact ⟨drainGather_gather { s.beforeGather pa n with gather := (s.beforeGather pa n).waitingWith pa n v }, rfl⟩

theorem acceleratedStores : Claim.AcceleratedStores := by
  unfold Claim.AcceleratedStores
  intro s rt base offset pa hl va v b4 b8 waits
  refine ⟨storeFrom_accelerated s va 1 1 pa v hl, storeFrom_accelerated s va 2 2 pa v hl,
    fun h => ⟨storeFrom_accelerated s va 4 4 pa v hl h, fun hu => ?swc1⟩,
    fun h => ⟨storeFrom_accelerated s va 8 8 pa v hl h, fun hu he => ?sdc1⟩,
    fun h => ?swl, storeFrom_accelerated s va 1 (4 - b4) pa v hl, storeFrom_accelerated s _ 1 (b8 + 1) pa _ hl,
    storeFrom_accelerated s va 1 (8 - b8) pa v hl⟩
  case swc1 =>
    have hexec : exec (.swc1 rt offset base) s = s.storeFrom va 4 4 ((s.fprW rt).setWidth 64) := whenCp1_usable s _ hu
    simpa only [waits, hexec] using storeFrom_accelerated s va 4 4 pa _ hl h
  case sdc1 =>
    have hexec : exec (.sdc1 rt offset base) s = s.storeFrom va 8 8 (s.fprD rt) := whenPairs_usable s _ _ hu he
    simpa only [waits, hexec] using storeFrom_accelerated s va 8 8 pa _ hl h
  case swl =>
    have hexec : exec (.swl rt offset base) s =
        s.storeFrom (va - BitVec.ofNat 64 b4) 1 (b4 + 1) (((low32 v) >>> (8 * (3 - b4))).setWidth 64) := rfl
    rw [low32_eq_ofNat] at hexec
    simpa only [waits, hexec] using storeFrom_accelerated s _ 1 (b4 + 1) pa _ hl h

/-! ### SYNC (40_loadstore.md R264) -/

theorem byteAt_congr (s t : State) (h : s.memory = t.memory) (a : Nat) : s.byteAt a = t.byteAt a := by
  rw [State.byteAt, State.byteAt, h]

/-- Issuing the one waiting store to RAM. -/
theorem drainGather_one (s : State) (g : GatheredStore) (h : s.gather = [g]) (hr : s.inRam g.pa g.size) :
    s.drainGather = { s with memory := (s.writeBytes g.pa g.size g.value.toNat).memory, gather := [] } := by
  have hdrain : s.drainGather = { s.writeBytes g.pa g.size g.value.toNat with gather := [] } := by simp [State.drainGather, h]
  rw [hdrain, writeBytes_ram s _ _ _ hr]

theorem inRam_congr (s t : State) (pa : PAddr) (n : Nat) (hm : t.ramMap = s.ramMap) (hd : t.ddrReady = s.ddrReady)
    (h : s.inRam pa n) : t.inRam pa n := by
  simpa [State.inRam, State.takesStores, State.kindAt, hm, hd] using h

/-- SYNC issues the waiting stores, ends the sequence for stored code and advances. -/
theorem exec_sync (s : State) (hl : s.leavesSegment = false) :
    exec .sync s = .next s.drainGather.syncCode.stepped ∧ Advanced s s.drainGather.syncCode.stepped :=
  advance_of_same s _ (drainGather_pc s) (drainGather_delay s) hl

theorem gatheredStoreReachesRamAtSync : Claim.GatheredStoreReachesRamAtSync := by
  unfold Claim.GatheredStoreReachesRamAtSync
  intro s rt base offset pa hl hg ht hw hram
  have hstore : AcceleratedStore s (s.gpr base + BitVec.ofInt 64 offset.toInt) 8 8 pa := ⟨ht, hw, described_ram s pa 8 hram⟩
  obtain ⟨t, hexec, hadv, hgprs, hwaits, -⟩ := storeFrom_accelerated s _ 8 8 pa (s.gpr rt) hl hstore
  rw [if_pos (gatherContinues_empty s pa 8 hg)] at hwaits
  obtain ⟨hgather, hframe⟩ := hwaits (by simp [State.gatheredBytes, hg])
  rw [hg, List.nil_append] at hgather
  have hbefore : ∀ a, t.byteAt a = s.byteAt a := byteAt_congr t s (by rw [hframe])
  refine ⟨t, hexec, hadv, hbefore, hgprs, by rw [hgather]; rfl, hframe, fun hlt => ?_⟩
  obtain ⟨hsync, hadvSync⟩ := exec_sync t hlt
  have hramT : t.inRam pa 8 := inRam_congr s t pa 8 (by rw [hframe]) (by rw [hframe]) hram
  have hdrained := drainGather_one t _ hgather hramT
  obtain ⟨hstored, hothers⟩ := writeBytes_stores t pa 8 (s.gpr rt) (by decide) hramT
  have hbytes : ∀ a, t.drainGather.syncCode.stepped.byteAt a = (t.writeBytes pa 8 (s.gpr rt).toNat).byteAt a :=
    byteAt_congr _ _ (by rw [stepped_memory, syncCode_memory, hdrained])
  refine ⟨_, hsync, by simp, hadvSync,
    ⟨fun i hi => (hbytes _).trans (hstored i hi), fun a ha => (hbytes a).trans ((hothers a ha).trans (hbefore a))⟩,
    fun r => (gpr_eq_of_gprs t _ (by simp) r).trans (hgprs r), ?frame⟩
  case frame =>
    rw [hdrained]
    generalize (t.writeBytes pa 8 (s.gpr rt).toNat).memory = memory
    obtain ⟨gather, raced, code, pc, delay, ht⟩ : ∃ gather raced code pc delay,
      t = { s with gather := gather, raced := raced, code := code, pc := pc, delay := delay } := ⟨_, _, _, _, _, hframe⟩
    rw [ht]
    rfl

/-- A version after SYNC comes from one before it. -/
theorem mem_syncCode (s : State) (v : CodeVersion) (h : v ∈ s.syncCode.code) : ∃ u ∈ s.code, v = s.syncVersion u := by
  obtain ⟨u, hu, rfl⟩ := List.mem_map.mp (List.mem_filter.mp h).1
  exact ⟨u, hu, rfl⟩

/-- What SYNC settles: fetches past the caches of words stored past them, and fetches through the invalidated sets of the others. -/
theorem syncVersion_settled (s : State) (u : CodeVersion) :
    ((s.syncVersion u).past = true → .uncached ∈ (s.syncVersion u).settled) ∧
      ((s.syncVersion u).past = false → ∀ c ∈ (s.syncVersion u).invalidated, .cached c ∈ (s.syncVersion u).settled) := by
  constructor
  · intro (hpast : u.past = true)
    simp [State.syncVersion, State.syncedViews, hpast]
  · intro (hpast : u.past = false) c hc
    simp only [State.syncVersion, hpast, Bool.false_and, Bool.false_eq_true, if_false] at hc
    simp [State.syncVersion, State.syncedViews, hpast, hc]

theorem syncCode_nothing (s : State) (h : s.code = []) : s.syncCode = s := by
  cases s; simp_all [State.syncCode]

theorem syncCompletes : Claim.SyncCompletes := by
  unfold Claim.SyncCompletes
  intro s hl
  obtain ⟨hsync, hadv⟩ := exec_sync s hl
  refine ⟨fun hg hc => ?nothing, _, hsync, hadv, drainGather_gather s, fun r => gpr_eq_of_gprs s _ (drainGather_gprs s) r,
    drainGather_cp0 s, drainGather_caches s, fun v hv => ?settled, rfl⟩
  case nothing =>
    have hsame : exec .sync s = s.drainGather.syncCode.advance := rfl
    rw [hsame, drainGather_empty s hg, syncCode_nothing s hc]
    exact advance_noEffect s hl
  case settled =>
    obtain ⟨u, -, rfl⟩ := mem_syncCode s.drainGather v hv
    exact syncVersion_settled s.drainGather u

/-- Settles O40. -/
theorem pendingStoresAndSync : Obligations.PendingStoresAndSync := by
  unfold Obligations.PendingStoresAndSync
  exact ⟨gatheredStoreReachesRamAtSync, storesGather, acceleratedStores, syncCompletes⟩

end Machine
end Sys2Proof
end

section
/-! SUPPORT. The caches: which lines hold an address, what an update of a line leaves of the others, and what moving lines can
change. -/

namespace Sys2Proof
namespace Machine

/-! ### Addresses of one line -/

theorem tags_of_lineNumber {pa pb : PAddr} (h : lineNumber pb = lineNumber pa) :
    l1Tag pb = l1Tag pa ∧ l2Tag pb = l2Tag pa ∧ l2Set pb = l2Set pa ∧ l1AliasSets pb = l1AliasSets pa ∧
      lineBase pb = lineBase pa := by
  have hfield : ∀ start len, 5 ≤ start → pb.extractLsb' start len = pa.extractLsb' start len := by
    intro start len hstart
    obtain ⟨k, rfl⟩ := Nat.exists_eq_add_of_le hstart
    apply BitVec.eq_of_toNat_eq
    simp only [BitVec.extractLsb'_toNat, Nat.shiftRight_eq_div_pow, Nat.pow_add, ← Nat.div_div_eq_div_mul]
    exact congrArg (fun n => n / 2 ^ k % 2 ^ len) h
  refine ⟨hfield 12 28 (by decide), hfield 17 23 (by decide), ?_, ?_, ?_⟩
  · rw [l2Set, l2Set, hfield 5 12 (by decide)]
  · rw [l1AliasSets, l1AliasSets, hfield 5 7 (by decide)]
  · rw [lineBase, lineBase, hfield 5 35 (by decide)]

/-- The L1 sets of a physical line agree with it in bits 11:5 (20_memory.md R196). -/
theorem mem_l1AliasSets (pa : PAddr) (set : Nat) : set ∈ l1AliasSets pa ↔ set < 512 ∧ set % 128 = lineNumber pa % 128 := by
  have hlow : (pa.extractLsb' 5 7).toNat = lineNumber pa % 128 := by
    rw [BitVec.extractLsb'_toNat, Nat.shiftRight_eq_div_pow]
    rfl
  simp only [l1AliasSets, List.mem_map, List.mem_range, hlow]
  constructor
  · rintro ⟨i, hi, rfl⟩
    omega
  · rintro ⟨hset, hline⟩
    exact ⟨set / 128, by omega, by omega⟩

/-! ### The ways of a set -/

theorem mem_ways (set k : Nat) : k ∈ (List.range 4).map (lineKey set) ↔ k / 4 = set := by
  simp only [List.mem_map, List.mem_range, lineKey]
  constructor
  · rintro ⟨way, hway, rfl⟩
    omega
  · rintro rfl
    exact ⟨k % 4, by omega, by omega⟩

theorem ways_nodup (set : Nat) : ((List.range 4).map (lineKey set)).Nodup :=
  List.nodup_range.map fun a b h => by simp only [lineKey] at h; omega

theorem lineKey_div (set way : Nat) (h : way < 4) : lineKey set way / 4 = set := by
  unfold lineKey
  omega

theorem mem_iHits {s : State} {set k : Nat} {pa : PAddr} :
    k ∈ s.iHits set pa ↔ k / 4 = set ∧ (s.iline k).valid = true ∧ (s.iline k).tag = l1Tag pa := by
  simp [State.iHits, List.mem_filter, mem_ways]

theorem mem_dHits {s : State} {set k : Nat} {pa : PAddr} :
    k ∈ s.dHits set pa ↔ k / 4 = set ∧ (s.dline k).state.isValid = true ∧ (s.dline k).tag = l1Tag pa := by
  simp [State.dHits, List.mem_filter, mem_ways]

theorem mem_l2Hits {s : State} {k : Nat} {pa : PAddr} :
    k ∈ s.l2Hits pa ↔ k / 4 = l2Set pa ∧ (s.l2line k).state.isValid = true ∧ (s.l2line k).tag = l2Tag pa := by
  simp [State.l2Hits, List.mem_filter, mem_ways]

theorem mem_dCopies {s : State} {k : Nat} {pa : PAddr} :
    k ∈ s.dCopies pa ↔ (k / 4 < 512 ∧ k / 4 % 128 = lineNumber pa % 128) ∧ (s.dline k).state.isValid = true ∧
      (s.dline k).tag = l1Tag pa := by
  simp only [State.dCopies, List.mem_flatMap, mem_dHits, mem_l1AliasSets]
  exact ⟨fun ⟨set, hset, hk, hl⟩ => ⟨hk ▸ hset, hl⟩, fun ⟨hset, hl⟩ => ⟨_, hset, rfl, hl⟩⟩

/-- A list without repetitions whose one element is known. -/
theorem eq_singleton_of_mem {l : List Nat} {k : Nat} (hl : l.Nodup) (h : ∀ j, j ∈ l ↔ j = k) : l = [k] :=
  List.perm_singleton.mp ((List.perm_ext_iff_of_nodup hl (List.nodup_singleton k)).mpr fun j => by simp [h j])

theorem iHits_nodup (s : State) (set : Nat) (pa : PAddr) : (s.iHits set pa).Nodup := (ways_nodup set).filter _
theorem l2Hits_nodup (s : State) (pa : PAddr) : (s.l2Hits pa).Nodup := (ways_nodup (l2Set pa)).filter _

/-! ### Lines after an update -/

theorem iline_congr {s t : State} (h : t.caches = s.caches) (k : Nat) : t.iline k = s.iline k := by rw [State.iline, State.iline, h]
theorem dline_congr {s t : State} (h : t.caches = s.caches) (k : Nat) : t.dline k = s.dline k := by rw [State.dline, State.dline, h]
theorem l2line_congr {s t : State} (h : t.caches = s.caches) (k : Nat) : t.l2line k = s.l2line k := by
  rw [State.l2line, State.l2line, h]

theorem iline_setIline (s : State) (k j : Nat) (l : ILine) : (s.setIline k l).iline j = if j = k then l else s.iline j := by
  have hlines : (s.setIline k l).iline j = (Lines.get? (Lines.put s.caches.icache k l) j).getD (s.caches.untouchedI j) := rfl
  rw [hlines]
  split
  · next h => subst h; simp
  · next h => rw [Lines.get?_put_other _ _ _ _ h]; rfl

theorem dline_setDline (s : State) (k j : Nat) (l : DLine) : (s.setDline k l).dline j = if j = k then l else s.dline j := by
  have hlines : (s.setDline k l).dline j = (Lines.get? (Lines.put s.caches.dcache k l) j).getD (s.caches.untouchedD j) := rfl
  rw [hlines]
  split
  · next h => subst h; simp
  · next h => rw [Lines.get?_put_other _ _ _ _ h]; rfl

theorem l2line_setL2line (s : State) (k j : Nat) (l : L2Line) : (s.setL2line k l).l2line j = if j = k then l else s.l2line j := by
  have hlines : (s.setL2line k l).l2line j = (Lines.get? (Lines.put s.caches.l2 k l) j).getD (s.caches.untouchedL2 j) := rfl
  rw [hlines]
  split
  · next h => subst h; simp
  · next h => rw [Lines.get?_put_other _ _ _ _ h]; rfl

@[simp] theorem iline_setL2line (s : State) (k j : Nat) (l : L2Line) : (s.setL2line k l).iline j = s.iline j := rfl
@[simp] theorem dline_setL2line (s : State) (k j : Nat) (l : L2Line) : (s.setL2line k l).dline j = s.dline j := rfl
@[simp] theorem iline_settle (s : State) (j : Nat) : s.settle.iline j = s.iline j := rfl
@[simp] theorem dline_settle (s : State) (j : Nat) : s.settle.dline j = s.dline j := rfl
@[simp] theorem l2line_settle (s : State) (j : Nat) : s.settle.l2line j = s.l2line j := rfl
@[simp] theorem iline_dropD (s : State) (k j : Nat) : (s.dropD k).iline j = s.iline j := rfl
@[simp] theorem l2line_dropD (s : State) (k j : Nat) : (s.dropD k).l2line j = s.l2line j := rfl
@[simp] theorem dline_dropI (s : State) (k j : Nat) : (s.dropI k).dline j = s.dline j := rfl
@[simp] theorem l2line_dropI (s : State) (k j : Nat) : (s.dropI k).l2line j = s.l2line j := rfl

theorem iline_dropI (s : State) (k j : Nat) :
    (s.dropI k).iline j = if j = k then { s.iline k with valid := false } else s.iline j := iline_setIline s k j _

theorem dline_dropD (s : State) (k j : Nat) :
    (s.dropD k).dline j = if j = k then { s.dline k with state := .invalid, dirty := false } else s.dline j :=
  dline_setDline s k j _

/-- The I-cache after a row of invalidations. -/
theorem iline_dropIs (l : List Nat) (s : State) (j : Nat) :
    (l.foldl State.dropI s).iline j = if j ∈ l then { s.iline j with valid := false } else s.iline j := by
  induction l generalizing s with
  | nil => rfl
  | cons k l ih =>
    rw [List.foldl_cons, ih, iline_dropI]
    by_cases hk : j = k
    · subst hk; simp
    · simp [hk]

/-- The D-cache after a row of invalidations. -/
theorem dline_dropDs (l : List Nat) (s : State) (j : Nat) :
    (l.foldl State.dropD s).dline j =
      if j ∈ l then { s.dline j with state := .invalid, dirty := false } else s.dline j := by
  induction l generalizing s with
  | nil => rfl
  | cons k l ih =>
    rw [List.foldl_cons, ih, dline_dropD]
    by_cases hk : j = k
    · subst hk; simp
    · simp [hk]

@[simp] theorem dline_dropIs (l : List Nat) (s : State) (j : Nat) : (l.foldl State.dropI s).dline j = s.dline j := by
  induction l generalizing s with
  | nil => rfl
  | cons k l ih => rw [List.foldl_cons, ih, dline_dropI]

@[simp] theorem l2line_dropIs (l : List Nat) (s : State) (j : Nat) : (l.foldl State.dropI s).l2line j = s.l2line j := by
  induction l generalizing s with
  | nil => rfl
  | cons k l ih => rw [List.foldl_cons, ih, l2line_dropI]

@[simp] theorem iline_dropDs (l : List Nat) (s : State) (j : Nat) : (l.foldl State.dropD s).iline j = s.iline j := by
  induction l generalizing s with
  | nil => rfl
  | cons k l ih => rw [List.foldl_cons, ih, iline_dropD]

@[simp] theorem l2line_dropDs (l : List Nat) (s : State) (j : Nat) : (l.foldl State.dropD s).l2line j = s.l2line j := by
  induction l generalizing s with
  | nil => rfl
  | cons k l ih => rw [List.foldl_cons, ih, l2line_dropD]

/-- A write-back of a D-cache line changes the L2 only. -/
@[simp] theorem dline_writeBackD (s : State) (k j : Nat) : (s.writeBackD k).dline j = s.dline j := by
  dsimp only [State.writeBackD]; split <;> rfl

/-! ### What moving lines can change -/

/-- `t` differs from `s` in what moving lines changes: the caches and the records of races, and with the lines that go to memory what
stores past the caches change. -/
def State.MovesLines (s t : State) : Prop :=
  t = { s with caches := t.caches, memory := t.memory, raced := t.raced, ddrConfig := t.ddrConfig, ddrSample := t.ddrSample,
               ddrReady := t.ddrReady, sampleReady := t.sampleReady }

theorem State.MovesLines.trans {s t u : State} (h1 : s.MovesLines t) (h2 : t.MovesLines u) : s.MovesLines u := by
  unfold State.MovesLines at *
  exact h2.trans (by rw [h1])

theorem State.MovesLines.refl (s : State) : s.MovesLines s := rfl

theorem State.MovesLines.code {s t : State} (h : s.MovesLines t) : t.code = s.code := by rw [h]
theorem State.MovesLines.gprs {s t : State} (h : s.MovesLines t) : t.gprs = s.gprs := by rw [h]

theorem movesLines_of_storedPast {s t : State} (h : s.StoredPast t) : s.MovesLines t := by
  unfold State.StoredPast at h
  rw [h]
  rfl

theorem foldl_movesLines {α : Type} (f : State → α → State) (hf : ∀ (t : State) (a : α), t.MovesLines (f t a)) (l : List α)
    (s : State) : s.MovesLines (l.foldl f s) :=
  List.foldlRecOn l f (motive := s.MovesLines) rfl fun t ht a _ => ht.trans (hf t a)

theorem writeBackD_movesLines (s : State) (k : Nat) : s.MovesLines (s.writeBackD k) := by
  dsimp only [State.writeBackD]; split <;> rfl

theorem dropL1Copies_movesLines (s : State) (k : Nat) (keep : Bool) : s.MovesLines (s.dropL1Copies k keep) := by
  dsimp only [State.dropL1Copies]
  refine State.MovesLines.trans ?_ ((foldl_movesLines State.dropI (fun _ _ => rfl) _ _).trans
    (foldl_movesLines State.dropD (fun _ _ => rfl) _ _))
  split <;> rfl

theorem dropL2_movesLines (s : State) (k : Nat) (keep : Bool) : s.MovesLines (s.dropL2 k keep) := by
  have hlast : ∀ (t : State) (l : L2Line), t.MovesLines (t.setL2line k l).settle := fun _ _ => rfl
  dsimp only [State.dropL2]
  split
  · refine (dropL1Copies_movesLines s k keep).trans (State.MovesLines.trans ?_ (hlast _ _))
    split
    · exact movesLines_of_storedPast (writeBytes_frame _ _ _ _)
    · rfl
  · rfl

theorem ensureL2_movesLines {s t : State} {pa : PAddr} {fetch : Bool} {k : Nat} (h : s.ensureL2 pa fetch = .ok k t) :
    s.MovesLines t := by
  unfold State.ensureL2 at h
  split at h
  · cases h; rfl
  · unfold Chk.run at h
    split at h <;> cases h
    exact (dropL2_movesLines s _ true).trans rfl

theorem ensureD_movesLines {s t : State} {va : Word} {pa : PAddr} {k : Nat} (h : s.ensureD va pa = .ok k t) : s.MovesLines t := by
  unfold State.ensureD at h
  split at h
  · cases h; rfl
  · unfold Run.bind at h
    split at h <;> cases h
    next below u hbelow =>
    exact (ensureL2_movesLines hbelow).trans ((writeBackD_movesLines u _).trans rfl)

/-! ### Bytes of a line -/

/-- A digit below a number of `K` values. -/
theorem digit_lt {low high L K : Nat} (hl : low < L) (hh : high < K) : low + L * high < L * K :=
  calc low + L * high < L + L * high := Nat.add_lt_add_right hl _
    _ = L * (high + 1) := by ring
    _ ≤ L * K := Nat.mul_le_mul_left L hh

/-- The bytes that a line takes are read back. -/
theorem lineGet_lineSet (data : BitVec 256) (offset n v : Nat) (h : offset + n ≤ 32) :
    lineGet (lineSet data offset n v) offset n = v % 2 ^ (8 * n) := by
  obtain ⟨m, hm⟩ := Nat.exists_eq_add_of_le h
  have hline : 2 ^ (8 * offset) * (2 ^ (8 * n) * 2 ^ (8 * m)) = 2 ^ 256 := by
    rw [← Nat.pow_add, ← Nat.pow_add]; congr 1; omega
  have hupper : 2 ^ (8 * (offset + n)) = 2 ^ (8 * offset) * 2 ^ (8 * n) := by rw [Nat.mul_add, Nat.pow_add]
  have hlow : data.toNat % 2 ^ (8 * offset) < 2 ^ (8 * offset) := Nat.mod_lt _ (Nat.two_pow_pos _)
  have hmid : v % 2 ^ (8 * n) < 2 ^ (8 * n) := Nat.mod_lt _ (Nat.two_pow_pos _)
  have hhigh : data.toNat / 2 ^ (8 * (offset + n)) < 2 ^ (8 * m) := by
    rw [Nat.div_lt_iff_lt_mul (Nat.two_pow_pos _), hupper, mul_comm, mul_assoc, hline]
    exact data.isLt
  have hsum : data.toNat % 2 ^ (8 * offset) + v % 2 ^ (8 * n) * 2 ^ (8 * offset) +
      data.toNat / 2 ^ (8 * (offset + n)) * 2 ^ (8 * (offset + n)) =
      data.toNat % 2 ^ (8 * offset) +
        2 ^ (8 * offset) * (v % 2 ^ (8 * n) + 2 ^ (8 * n) * (data.toNat / 2 ^ (8 * (offset + n)))) := by
    generalize data.toNat / 2 ^ (8 * (offset + n)) = high
    rw [hupper]
    ring
  have hfits := digit_lt hlow (digit_lt hmid hhigh)
  rw [hline] at hfits
  rw [lineGet, lineSet, BitVec.toNat_ofNat, hsum, Nat.mod_eq_of_lt hfits, Nat.add_mul_div_left _ _ (Nat.two_pow_pos _),
    Nat.div_eq_of_lt hlow, Nat.zero_add, Nat.add_mul_mod_self_left, Nat.mod_mod]

end Machine
end Sys2Proof
end

section
/-! PROOF. Loads after stores to the same place, and what a read of copies that disagree may return (O41). -/

namespace Sys2Proof
namespace Machine

/-! ### What a read of copies that disagree may return -/

/-- A choice among copies that agree is what they hold. -/
theorem pickCopy_agree (s : State) (read own : Nat) (others : List Nat) (h : ∀ o ∈ others, o = own) :
    s.pickCopy read own others = own :=
  (pickCopy_mem s read own others).elim id fun hm => h _ hm

theorem mem_racingValues (s : State) (va : Word) (pa : PAddr) (n own v : Nat) (places : List Nat)
    (h : v ∈ s.racingValues va pa n own places) :
    v = takeBytes (s.ownPlaces .uncached pa n) own (s.readBytes pa n) ∨
      ∃ k ∈ s.aliasCopies va pa, v = takeBytes places own (lineGet (s.dline k).data (lineOffset pa) n) := by
  rcases List.mem_append.mp h with h | h
  · left
    split at h
    · cases h
    · exact List.mem_singleton.mp h
  · right
    obtain ⟨w, hw, rfl⟩ := List.mem_map.mp h
    obtain ⟨k, hk, rfl⟩ := List.mem_map.mp hw
    exact ⟨k, hk, rfl⟩

theorem mem_aliasCopies (s : State) (va : Word) (pa : PAddr) (k : Nat) :
    k ∈ s.aliasCopies va pa ↔ k ∈ s.touchedD pa ∧ keyColour k ≠ va.extractLsb' 12 2 := by
  simp [State.aliasCopies]

/-- Bytes that were all last stored through a view leave no other place. -/
theorem otherPlaces_nil (s : State) (view : View) (pa : PAddr) (n : Nat)
    (h : ∀ i, i < n → ({ address := pa.toNat + i, view := view } : RacedByte) ∈ s.raced) : s.otherPlaces view pa n = [] := by
  refine List.filter_eq_nil_iff.mpr fun i hi => ?_
  simpa using h i (List.mem_range.mp hi)

theorem ownPlaces_nil (s : State) (view : View) (pa : PAddr) (n : Nat)
    (h : ∀ i, i < n → ({ address := pa.toNat + i, view := view } : RacedByte) ∉ s.raced) : s.ownPlaces view pa n = [] := by
  refine List.filter_eq_nil_iff.mpr fun i hi => ?_
  simpa using h i (List.mem_range.mp hi)

theorem racesAreBounded : Claim.RacesAreBounded := by
  unfold Claim.RacesAreBounded
  intro s va pa n own past cached
  refine ⟨?past, ?cached, fun h => ?own, fun hpast halias => ?single, uncachedValue_unmodified s 1 pa n⟩
  case past =>
    refine (pickCopy_mem s 1 (s.readBytes pa n) _).imp_right fun h => ?_
    rcases List.mem_append.mp h with h | h
    · obtain ⟨other, hother, hv⟩ := List.mem_map.mp h
      exact ⟨_, other, hother, hv.symm⟩
    · cases h
  case cached =>
    have hvalue : cached = own ∨ cached ∈ s.racingValues va pa n own (s.otherPlaces (cachedView va) pa n) := by
      dsimp only [cached, State.cachedValue]
      split
      · exact .inl rfl
      · exact pickCopy_mem s 0 own _
    refine hvalue.imp_right fun h => (mem_racingValues s va pa n own cached _ h).imp_right ?_
    rintro ⟨k, hk, hv⟩
    obtain ⟨htouched, hcolour⟩ := (mem_aliasCopies s va pa k).mp hk
    exact ⟨k, htouched, hcolour, hv⟩
  case own => exact cachedValue_own s va pa n own (.inl (otherPlaces_nil s _ pa n h))
  case single =>
    refine cachedValue_own s va pa n own (.inr ⟨ownPlaces_nil s _ pa n hpast, ?_⟩)
    refine List.eq_nil_iff_forall_not_mem.mpr fun k hk => ?_
    obtain ⟨htouched, hcolour⟩ := (mem_aliasCopies s va pa k).mp hk
    exact hcolour (halias k htouched)

/-! ### What decides a translation -/

theorem translateAligned_congr {s t : State} (hcp0 : t.cp0 = s.cp0) (htlb : t.tlb = s.tlb) (hstale : t.itlbStale = s.itlbStale)
    (hfree : t.free = s.free) (kind : Access) (va : Word) (size : Nat) :
    t.translateAligned kind va size = s.translateAligned kind va size := by
  have hserves : t.staleServes va = s.staleServes va := by funext p; simp only [State.staleServes, hcp0]
  have hmode : t.mode = s.mode := by simp only [State.mode, hcp0]
  have hsizes : t.pageSizesAgree = s.pageSizesAgree := by simp only [State.pageSizesAgree, htlb, hcp0]
  have hnow : t.translateTlb kind va = s.translateTlb kind va := by simp only [State.translateTlb, htlb, hcp0]
  have hold : t.staleTranslations va = s.staleTranslations va := by simp only [State.staleTranslations, hstale, hserves, hcp0]
  have hdraw : ∀ n d, t.drawBelow n d = s.drawBelow n d := fun n d => by simp only [State.drawBelow, hfree]
  have hmapped : t.translateMapped kind va = s.translateMapped kind va := by
    cases kind <;> simp only [State.translateMapped, hsizes, hnow, hold, hdraw]
  simp only [State.translateAligned, State.translate, hmode, hmapped, hcp0]

/-- A translation that passes is that of an unmapped segment, or that of an entry. -/
theorem translate_pass_cases {s : State} {kind : Access} {va : Word} {r : PAddr × BitVec 3} (h : s.translate kind va = .pass r) :
    segment s.mode s.cp0.configK0 va = .unmapped r.1 r.2 ∨ s.translateMapped kind va = .pass r := by
  have hknown : ∀ c : Chk (PAddr × BitVec 3), c.bind (fun r => if attributeKnown r.2 then .pass r else .refuse .reservedAttribute) =
      .pass r → c = .pass r := by
    intro c hc
    cases c with
    | pass q =>
      simp only [Chk.bind] at hc
      split at hc
      · exact hc
      · cases hc
    | raise e => cases hc
    | refuse f => cases hc
    | fault f => cases hc
  unfold State.translate at h
  split at h
  · cases h
  split at h
  · cases h
  have hrow := hknown _ h
  split at hrow
  · cases hrow
  · next pa c hseg => cases hrow; exact .inl hseg
  · exact .inr hrow

theorem translateTlb_pass {s : State} {kind : Access} {va : Word} {r : PAddr × BitVec 3} (h : s.translateTlb kind va = .pass r) :
    ∃ e : TlbEntry, e.translate kind va = .pass r := by
  unfold State.translateTlb at h
  split at h
  · cases h
  · next e _ => exact ⟨e, h⟩
  · cases h

theorem translateMapped_pass {s : State} {kind : Access} {va : Word} {r : PAddr × BitVec 3}
    (h : s.translateMapped kind va = .pass r) : ∃ e : TlbEntry, e.translate kind va = .pass r := by
  have hagree : s.pageSizesAgree = true := by
    by_contra hno
    rw [translateMapped_mixed s kind va (Bool.eq_false_iff.mpr hno)] at h
    cases h
  cases kind with
  | fetch =>
    rcases translateMapped_fetch s va hagree with hnow | hstale
    · exact translateTlb_pass (hnow.symm.trans h)
    · obtain ⟨p, -, hp⟩ := List.mem_map.mp hstale
      rw [h] at hp
      split at hp
      · exact ⟨p.1, hp⟩
      · cases hp
  | load => exact translateTlb_pass ((translateMapped_now s .load va hagree (by simp)).symm.trans h)
  | store => exact translateTlb_pass ((translateMapped_now s .store va hagree (by simp)).symm.trans h)

theorem entry_translate_pass {e : TlbEntry} {kind : Access} {va : Word} {r : PAddr × BitVec 3} (h : e.translate kind va = .pass r) :
    r.1 = e.physical va := by
  unfold TlbEntry.translate at h
  dsimp only at h
  split_ifs at h
  cases h
  rfl

/-- Pages are of 4 KB or more, so no translation changes the lower 12 bits (20_memory.md R150). -/
theorem physical_offset (e : TlbEntry) (va : Word) : (e.physical va).toNat % 2 ^ 12 = va.toNat % 2 ^ 12 := by
  have hdvd : 2 ^ 12 ∣ 2 ^ (12 + maskBits e.mask) := Nat.pow_dvd_pow 2 (Nat.le_add_right _ _)
  rw [TlbEntry.physical, BitVec.toNat_ofNat, Nat.mod_mod_of_dvd _ (Nat.pow_dvd_pow 2 (by decide)), Nat.add_mod,
    Nat.mod_mod_of_dvd _ hdvd, Nat.mod_eq_zero_of_dvd (Dvd.dvd.mul_left hdvd _), Nat.zero_add, Nat.mod_mod]

theorem unmapped_offset {m : Mode} {k0 c : BitVec 3} {va : Word} {pa : PAddr} (h : segment m k0 va = .unmapped pa c) :
    pa.toNat % 2 ^ 12 = va.toNat % 2 ^ 12 := by
  have hpa : pa = va.extractLsb' 0 40 ∨ pa = (va.extractLsb' 0 29).setWidth 40 := by
    unfold segment at h
    dsimp only at h
    repeat' split at h
    all_goals cases h
    all_goals simp
  rcases hpa with rfl | rfl
  · simp only [BitVec.extractLsb'_toNat, Nat.shiftRight_zero]
    omega
  · simp only [BitVec.toNat_setWidth, BitVec.extractLsb'_toNat, Nat.shiftRight_zero]
    omega

theorem translateAligned_offset {s : State} {kind : Access} {va : Word} {size : Nat} {r : PAddr × BitVec 3}
    (h : s.translateAligned kind va size = .pass r) : r.1.toNat % 2 ^ 12 = va.toNat % 2 ^ 12 := by
  unfold State.translateAligned at h
  split at h
  · cases h
  rcases translate_pass_cases h with hseg | hmapped
  · exact unmapped_offset hseg
  · obtain ⟨e, he⟩ := translateMapped_pass hmapped
    rw [entry_translate_pass he]
    exact physical_offset e va

/-- The set of the D-cache that an access uses is one of the sets of its physical line. -/
theorem l1Set_mem_aliasSets {va : Word} {pa : PAddr} (h : pa.toNat % 2 ^ 12 = va.toNat % 2 ^ 12) :
    l1Set va ∈ l1AliasSets pa := by
  rw [mem_l1AliasSets]
  refine ⟨l1Set_lt va, ?_⟩
  simp only [l1Set, lineNumber, BitVec.extractLsb'_toNat, Nat.shiftRight_eq_div_pow]
  omega

/-! ### The records of a store -/

theorem touched_congr {s t : State} (h : t.caches = s.caches) (pa : PAddr) :
    t.touchedD pa = s.touchedD pa ∧ t.touchedL2 pa = s.touchedL2 pa := by
  simp only [State.touchedD, State.dCopies, State.dHits, State.dline, State.touchedL2, State.l2Hits, State.l2line, h, and_self]

theorem touched_of_lineNumber (s : State) {pa pb : PAddr} (h : lineNumber pb = lineNumber pa) :
    s.touchedD pb = s.touchedD pa ∧ s.touchedL2 pb = s.touchedL2 pa := by
  obtain ⟨htag, hl2tag, hl2set, hsets, -⟩ := tags_of_lineNumber h
  simp only [State.touchedD, State.dCopies, State.dHits, State.touchedL2, State.l2Hits, htag, hl2tag, hl2set, hsets, and_self]

/-- The records after a store name the view of each byte stored, where the record of it is needed. -/
theorem mem_storedThrough_raced (s : State) (view : View) (pa : PAddr) (n i : Nat) (hi : i < n)
    (h : s.recordNeeded { address := pa.toNat + i, view := view } = true) :
    ({ address := pa.toNat + i, view := view } : RacedByte) ∈ (s.storedThrough view pa n).raced :=
  List.mem_append_right _ (List.mem_filter.mpr ⟨List.mem_map.mpr ⟨i, List.mem_range.mpr hi, rfl⟩, h⟩)

/-- The bytes of an aligned datum lie in one line. -/
theorem lineNumber_byte (pa : PAddr) (n i : Nat) (hn : n = 4 ∨ n = 8) (ha : pa.toNat % n = 0) (hi : i < n) :
    lineNumber (BitVec.ofNat 40 (pa.toNat + i)) = lineNumber pa := by
  have := pa.isLt
  simp only [lineNumber, BitVec.toNat_ofNat]
  rcases hn with rfl | rfl <;> omega

/-! ### The bytes of a store -/

theorem isMemory_of_takesStores (s : State) (a : Nat) (h : s.takesStores a = true) : s.isMemory a = true := by
  unfold State.takesStores at h
  unfold State.isMemory
  split at h <;> simp_all

theorem inMemory_of_inRam (s : State) (pa : PAddr) (n : Nat) (h : s.inRam pa n) : s.inMemory pa n :=
  fun i hi => isMemory_of_takesStores s _ (h i hi)

/-- Bytes that memory lists, as one number. -/
theorem storedLE_of_bytes (s : State) (pa : PAddr) (n v : Nat)
    (h : ∀ i, i < n → s.byteAt (pa + BitVec.ofNat 40 i).toNat = some (BitVec.ofNat 8 (v / 256 ^ i))) :
    s.storedLE pa n = v % 256 ^ n := by
  induction n generalizing pa v with
  | zero => simp [State.storedLE, Nat.mod_one]
  | succ n ih =>
    have hrest : s.storedLE (pa + 1) n = v / 256 % 256 ^ n := ih (pa + 1) (v / 256) fun i hi => by
      rw [paddr_succ, h (i + 1) (by omega), Nat.div_div_eq_div_mul, Nat.pow_succ']
    have hfirst : s.storedByte pa.toNat = BitVec.ofNat 8 v := by
      have := h 0 (by omega)
      simp only [BitVec.add_zero, pow_zero, Nat.div_one, State.byteAt] at this
      rw [State.storedByte, this, Option.getD_some]
    rw [State.storedLE, hfirst, hrest, BitVec.toNat_ofNat, pow_succ' 256 n, Nat.mod_mul]

theorem takeBytes_nil (own other : Nat) (h : own < 2 ^ 256) : takeBytes [] own other = own := by
  simpa [takeBytes] using Nat.mod_eq_of_lt h

/-- A read past the caches of bytes that were last stored past them, wherever a cache holds a copy, is what memory holds. -/
theorem uncachedValue_lastStored (s : State) (pa : PAddr) (n : Nat) (hm : s.inMemory pa n) (hw : s.storedLE pa n < 2 ^ 256)
    (hr : ∀ i, i < n → s.touchedD pa ≠ [] ∨ s.touchedL2 pa ≠ [] →
      ({ address := pa.toNat + i, view := .uncached } : RacedByte) ∈ s.raced) :
    s.uncachedValue 1 pa n [] = s.storedLE pa n := by
  by_cases hcopies : s.touchedD pa = [] ∧ s.touchedL2 pa = []
  · exact uncachedValue_memory s 1 pa n hm ⟨by simp [hcopies.1], by simp [hcopies.2]⟩
  · have hplaces : (List.range n).filter (fun i => !(s.ownPlaces .uncached pa n).contains i) = [] := by
      refine List.filter_eq_nil_iff.mpr fun i hi => ?_
      have hrecord := hr i (List.mem_range.mp hi) (by tauto)
      have hown : i ∈ s.ownPlaces .uncached pa n := List.mem_filter.mpr ⟨hi, by simpa using hrecord⟩
      simpa using hown
    rw [State.uncachedValue, hplaces, readBytes_memory s pa n hm, pickCopy_agree]
    intro o ho
    obtain ⟨other, -, rfl⟩ := List.mem_map.mp (by simpa using ho)
    exact takeBytes_nil _ _ hw

/-- What a store past the caches to RAM leaves: the bytes in memory, and the records of them. -/
theorem storeUncached_ram (s : State) (pa : PAddr) (n v : Nat) (hn : n ≤ 32) (hg : s.gather = []) (hr : s.inRam pa n) :
    ∃ memory code, s.storeUncached pa n v =
        { s with memory := memory, raced := (State.storedThrough { s with memory := memory } .uncached pa n).raced, code := code } ∧
      ∀ i, i < n → State.byteAt { s with memory := memory } (pa + BitVec.ofNat 40 i).toNat =
        some (BitVec.ofNat 8 (v / 256 ^ i)) := by
  have hbytes := fun i hi => read_writeBytes_same s pa n v i hn hi hr
  rw [writeBytes_ram s pa n v hr] at hbytes
  refine ⟨(s.writeBytes pa n v).memory, (s.storeUncached pa n v).code, ?_, hbytes⟩
  rw [State.storeUncached, drainGather_empty s hg, writeBytes_ram s pa n v hr]
  generalize (s.writeBytes pa n v).memory = memory
  rfl

/-- A read past the caches after a store past the caches to RAM. -/
theorem memRead_storeUncached (s : State) (va : Word) (pa : PAddr) (n v : Nat) (hn : n = 4 ∨ n = 8) (ha : pa.toNat % n = 0)
    (hg : s.gather = []) (hr : s.inRam pa n) :
    (s.storeUncached pa n v).stepped.memRead va pa 2 n = .ok (v % 256 ^ n) (s.storeUncached pa n v).stepped := by
  have hn8 : n ≤ 8 := by omega
  obtain ⟨memory, code, hstore, hbytes⟩ := storeUncached_ram s pa n v (by omega) hg hr
  let u : State := { s with memory := memory }
  obtain ⟨raced, pc, delay, ht, hraced⟩ : ∃ raced pc delay, (s.storeUncached pa n v).stepped =
      { s with memory := memory, raced := raced, code := code, pc := pc, delay := delay } ∧
        raced = (u.storedThrough .uncached pa n).raced := by
    rw [hstore]
    exact ⟨_, _, _, rfl, rfl⟩
  rw [ht]
  generalize hdef : ({ s with memory := memory, raced := raced, code := code, pc := pc, delay := delay } : State) = t
  have hmem : t.memory = u.memory := by rw [← hdef]
  have hcaches : t.caches = u.caches := by rw [← hdef]
  have hin : t.inMemory pa n := inMemory_of_inRam t pa n (inRam_congr s t pa n (by rw [← hdef]) (by rw [← hdef]) hr)
  have hstored : t.storedLE pa n = v % 256 ^ n :=
    storedLE_of_bytes t pa n v fun i hi => (byteAt_congr t u hmem _).trans (hbytes i hi)
  have hsmall : t.storedLE pa n < 2 ^ 256 := by
    rw [hstored]
    calc v % 256 ^ n < 256 ^ n := Nat.mod_lt _ (by positivity)
      _ ≤ 256 ^ 8 := Nat.pow_le_pow_right (by decide) hn8
      _ < 2 ^ 256 := by decide
  have hvalue : t.uncachedValue 1 pa n [] = t.storedLE pa n := uncachedValue_lastStored t pa n hin hsmall fun i hi hcopy => by
    have htraced : t.raced = (u.storedThrough .uncached pa n).raced := by rw [← hdef, hraced]
    rw [htraced]
    refine mem_storedThrough_raced u .uncached pa n i hi ?_
    obtain ⟨hd, hl2⟩ := touched_of_lineNumber u (lineNumber_byte pa n i hn ha hi)
    obtain ⟨htd, htl2⟩ := touched_congr hcaches pa
    rcases hcopy with hcopy | hcopy
    · have : u.touchedD pa ≠ [] := htd ▸ hcopy
      simp [State.recordNeeded, hd, this]
    · have : u.touchedL2 pa ≠ [] := htl2 ▸ hcopy
      simp [State.recordNeeded, hl2, this]
  have hgather : t.gather = [] := by rw [← hdef]; exact hg
  rw [memRead_past t va pa 2 n hgather (by decide), State.loadUncached, answers_memory t pa n false hin, Chk.run, hvalue, hstored]

/-- A store into a line that is valid changes no hit. -/
theorem dHits_storeLine (s : State) (va : Word) (pa pb : PAddr) (k n v set : Nat) (hv : (s.dline k).state.isValid = true) :
    (s.storeLine va pa k n v).dHits set pb = s.dHits set pb := by
  refine List.filter_congr fun j _ => ?_
  rw [storeLine_dline]
  split
  · next h => subst h; rw [hv]; rfl
  · rfl

/-- The records of the bytes that a store writes into its line. -/
theorem mem_storeLine_raced (s : State) (va : Word) (pa : PAddr) (k n v i : Nat) (hn : n = 4 ∨ n = 8) (ha : pa.toNat % n = 0)
    (hset : l1Set va ∈ l1AliasSets pa) (hk : k ∈ s.dHits (l1Set va) pa) (hi : i < n) :
    ({ address := pa.toNat + i, view := cachedView va } : RacedByte) ∈ (s.storeLine va pa k n v).raced := by
  let l : DLine := { s.dline k with state := .stored, dirty := true, data := lineSet (s.dline k).data (lineOffset pa) n v }
  obtain ⟨hway, -, htag⟩ := mem_dHits.mp hk
  have hcopy : k ∈ (s.setDline k l).dCopies pa := by
    rw [mem_dCopies, dline_setDline, if_pos rfl, hway]
    exact ⟨(mem_l1AliasSets pa _).mp hset, rfl, htag⟩
  have htouched : k ∈ (s.setDline k l).touchedD pa := List.mem_filter.mpr ⟨hcopy, by simp [State.setDline]⟩
  have hline := (touched_of_lineNumber (s.setDline k l) (lineNumber_byte pa n i hn ha hi)).1
  refine mem_storedThrough_raced (s.setDline k l) (cachedView va) pa n i hi ?_
  simpa [State.recordNeeded, cachedView, hline] using List.ne_nil_of_mem htouched

/-- A read through the D-cache after a store into the line. -/
theorem memRead_storeLine (s : State) (va : Word) (pa : PAddr) (k n v : Nat) (hn : n = 4 ∨ n = 8) (ha : pa.toNat % n = 0)
    (hset : l1Set va ∈ l1AliasSets pa) (hg : s.gather = []) (hr : s.inRam pa n) (hk : s.dHits (l1Set va) pa = [k]) :
    (s.storeLine va pa k n v).stepped.memRead va pa 3 n = .ok (v % 256 ^ n) (s.storeLine va pa k n v).stepped := by
  have hmem : k ∈ s.dHits (l1Set va) pa := hk ▸ List.mem_singleton_self k
  obtain ⟨-, hvalid, -⟩ := mem_dHits.mp hmem
  have hline := storeLine_dline s va pa k n v k
  have hhits := (dHits_storeLine s va pa pa k n v (l1Set va) hvalid).trans hk
  have hrecords := otherPlaces_nil (s.storeLine va pa k n v) (cachedView va) pa n fun i hi =>
    mem_storeLine_raced s va pa k n v i hn ha hset hmem hi
  have hgather : (s.storeLine va pa k n v).gather = [] := hg
  have hram : (s.storeLine va pa k n v).inRam pa n := inRam_congr s _ pa n rfl rfl hr
  generalize s.storeLine va pa k n v = t at hline hhits hrecords hgather hram ⊢
  have hread := memRead_cached t.stepped va pa n k (by simp [State.gathered, hgather]) (described_ram t.stepped pa n hram) hhits
    (.inl hrecords)
  rw [hread]
  have hfits : lineOffset pa + n ≤ 32 := by
    unfold lineOffset
    rcases hn with rfl | rfl <;> omega
  have hdata : lineGet (t.stepped.dline k).data (lineOffset pa) n = v % 256 ^ n := by
    have hstepped : t.stepped.dline k = t.dline k := rfl
    rw [hstepped, hline, if_pos rfl, lineGet_lineSet _ _ _ _ hfits, Nat.pow_mul]
  rw [hdata]

/-- What SW and SD leave for the load of their datum through the same view. -/
theorem storeFrom_readsBack (s : State) (va : Word) (pa : PAddr) (c : BitVec 3) (n : Nat) (v : Word) (hl : s.leavesSegment = false)
    (hc : c = 2 ∨ c = 3) (hn : n = 4 ∨ n = 8) (ha : pa.toNat % n = 0) (ht : s.translateAligned .store va n = .pass (pa, c))
    (hw : s.watched .store pa = false) (hg : s.gather = []) (hr : s.inRam pa n)
    (hhit : c = 3 → ∃ k, s.dHits (l1Set va) pa = [k]) :
    ∃ t, s.storeFrom va n n v = .next t ∧ t.gprs = s.gprs ∧ t.cp0 = s.cp0 ∧ t.tlb = s.tlb ∧ t.itlbStale = s.itlbStale ∧
      t.free = s.free ∧ t.memRead va pa c n = .ok (v.toNat % 256 ^ n) t := by
  rcases hc with rfl | rfl
  · have hvirt := storeVirt_uncached s va n n pa v ⟨ht, hw, hr⟩
    have hread := memRead_storeUncached s va pa n v.toNat hn ha hg hr
    obtain ⟨memory, code, hstore, -⟩ := storeUncached_ram s pa n v.toNat (by omega) hg hr
    generalize s.storeUncached pa n v.toNat = t at hvirt hread hstore
    have hnext := (advance_of_same s t (by rw [hstore]) (by rw [hstore]) hl).1
    refine ⟨t.stepped, by rw [State.storeFrom, hvirt, Run.finish, hnext], ?_, ?_, ?_, ?_, ?_, hread⟩
    all_goals rw [hstore]; rfl
  · obtain ⟨k, hk⟩ := hhit rfl
    have hvirt := storeVirt_cached s va n n pa k v ⟨ht, hw, described_ram s pa n hr, hk⟩
    have hset := l1Set_mem_aliasSets (translateAligned_offset ht)
    have hread := memRead_storeLine s va pa k n v.toNat hn ha hset hg hr hk
    have hnext := (advance_of_same s (s.storeLine va pa k n v.toNat) rfl rfl hl).1
    exact ⟨(s.storeLine va pa k n v.toNat).stepped, by rw [State.storeFrom, hvirt, Run.finish, hnext], rfl,
      rfl, rfl, rfl, rfl, hread⟩

theorem storeThenLoad : Claim.StoreThenLoad := by
  unfold Claim.StoreThenLoad
  intro s rt rd base offset pa c n hl hrd hc hn ha va store load hts htl hws hwl hg hr hhit
  have hstore : exec store s = s.storeFrom va n n (s.gpr rt) := by rcases hn with rfl | rfl <;> rfl
  obtain ⟨t, hnext, hgprs, hcp0, htlb, hstale, hfree, hread⟩ :=
    storeFrom_readsBack s va pa c n (s.gpr rt) hl hc hn ha hts hws hg hr hhit
  refine ⟨t, hstore.trans hnext, fun hlt => ?_⟩
  have hva : t.address base offset = va := by rw [State.address, gpr_eq_of_gprs s t hgprs]; rfl
  have hprep : t.prepare .load va n = .ok (pa, c) t :=
    prepare_pass t .load va n (pa, c) ((translateAligned_congr hcp0 htlb hstale hfree _ va n).trans htl)
      (by simpa only [State.watched, hcp0] using hwl)
  rcases hn with rfl | rfl
  · obtain ⟨u, hu, -, hgpr, -⟩ := loadTo_result t rd va 4 (fun v => sext32 (low32 v)) (pa, c) _ hprep hread hlt
    refine ⟨u, by rw [← hu, ← hva]; rfl, ?_⟩
    have hword : (s.gpr rt).toNat % 256 ^ 4 = (BitVec.ofNat 32 (s.gpr rt).toNat).toNat := by simp
    rw [hgpr, if_neg hrd, if_neg (by decide), hword, sext32_low32_ofNat]
  · obtain ⟨u, hu, -, hgpr, -⟩ := loadTo_result t rd va 8 (fun v => v) (pa, c) _ hprep hread hlt
    refine ⟨u, by rw [← hu, ← hva]; rfl, ?_⟩
    have hdouble : (s.gpr rt).toNat % 256 ^ 8 = (s.gpr rt).toNat := Nat.mod_eq_of_lt (s.gpr rt).isLt
    rw [hgpr, if_neg hrd, if_pos rfl, hdouble, BitVec.ofNat_toNat, BitVec.setWidth_eq]

/-- Settles O41: a store leaves its bytes, and the records of them, where the load of the same view looks first. -/
theorem loadsAfterStores : Obligations.LoadsAfterStores := ⟨storeThenLoad, racesAreBounded⟩

end Machine
end Sys2Proof
end

section
/-! PROOF. Fetches of stored code: the race, and the sequence that ends it (O42). -/

namespace Sys2Proof
namespace Machine

/-! ### The words of a line -/

theorem wordsOf_aligned (pa : PAddr) (ha : pa.toNat % 4 = 0) : wordsOf pa 4 = [pa.toNat / 4] := by
  have hbytes : (List.range 4).map (fun i => (pa.toNat + i) / 4) = List.replicate 4 (pa.toNat / 4) := by
    simp only [List.range_succ, List.range_zero, List.nil_append, List.cons_append, List.map_cons, List.map_nil,
      List.replicate_succ, List.replicate_zero, List.cons.injEq, and_true]
    omega
  rw [wordsOf, hbytes]
  simp [List.replicate_succ]

theorem wordAddress_div (pa : PAddr) (ha : pa.toNat % 4 = 0) : wordAddress (pa.toNat / 4) = pa := by
  apply BitVec.eq_of_toNat_eq
  have := pa.isLt
  simp only [wordAddress, BitVec.toNat_ofNat]
  omega

theorem lineNumber_wordAddress (pa : PAddr) (w : Nat) (h : w / 8 = lineNumber pa) : lineNumber (wordAddress w) = lineNumber pa := by
  have := pa.isLt
  simp only [lineNumber, wordAddress, BitVec.toNat_ofNat] at *
  omega

theorem lineWord_aligned (s : State) (k : Nat) (pa : PAddr) (ha : pa.toNat % 4 = 0) :
    s.lineWord k (pa.toNat / 4) = lineGet (s.dline k).data (lineOffset pa) 4 := by
  rw [State.lineWord, lineOffset]
  congr 1
  omega

theorem wordBelow : Claim.WordBelow := by
  unfold Claim.WordBelow
  intro s pa ha
  refine ⟨fun k hk => ?_, fun hnone => ?_, ?_⟩
  all_goals simp only [State.belowWord, State.memoryWord, wordAddress_div pa ha, *]

/-! ### The versions after a store -/

/-- The versions after SW into a D-cache line. -/
theorem mem_storeLine_code (s : State) (va : Word) (pa : PAddr) (k n : Nat) (ha : pa.toNat % 4 = 0) (v : CodeVersion) :
    v ∈ (s.storeLine va pa k 4 n).code ↔
      (∃ u ∈ s.code, v = if u.word = pa.toNat / 4 then { u with past := false, pushed := false, invalidated := [] } else u) ∨
        v ∈ s.oldVersions false (s.lineWord k) (pa.toNat / 4) ∨ v = versionOf false [] (pa.toNat / 4) n := by
  have hfits : lineOffset pa + 4 ≤ 32 := by unfold lineOffset; omega
  have hnew : ∀ t : State, (t.dline k).data = lineSet (s.dline k).data (lineOffset pa) 4 n →
      versionOf false [] (pa.toNat / 4) (t.lineWord k (pa.toNat / 4)) = versionOf false [] (pa.toNat / 4) n := by
    intro t ht
    have hword : BitVec.ofNat 32 (n % 2 ^ (8 * 4)) = BitVec.ofNat 32 n := BitVec.eq_of_toNat_eq (by simp)
    rw [lineWord_aligned t k pa ha, ht, lineGet_lineSet _ _ _ _ hfits, versionOf, versionOf, hword]
  rw [State.storeLine, wordsOf_aligned pa ha, mem_noteCode]
  simp only [List.mem_singleton, exists_eq_left, List.contains_cons, List.contains_nil, Bool.or_false, beq_iff_eq]
  rw [hnew _ (by rw [dline_setDline, if_pos rfl])]
  rfl

/-- The old contents of a word of which no version is known. -/
theorem oldVersions_unknown (s : State) (past : Bool) (found : Nat → Nat) (w : Nat) (h : ¬∃ u ∈ s.code, u.word = w) :
    s.oldVersions past found w = [versionOf past [] w (found w)] := by
  rw [State.oldVersions, if_neg (by simpa using h)]

/-- The old contents of a word of which versions are known. -/
theorem oldVersions_known (s : State) (past : Bool) (found : Nat → Nat) (w : Nat) (h : ∃ u ∈ s.code, u.word = w) :
    s.oldVersions past found w =
      [versionOf past [.uncached] w (s.belowWord w), versionOf past cachedViews w (s.memoryWord w)] := by
  rw [State.oldVersions, if_pos (by simpa using h)]

theorem cached_mem_cachedViews (c : BitVec 2) : View.cached c ∈ cachedViews := by
  revert c; decide

theorem storedCodeRaces : Claim.StoredCodeRaces := by
  unfold Claim.StoredCodeRaces
  intro s rt base offset pa k hl ha hst w is known new found
  have hvirt := storeVirt_cached s _ 4 4 pa k (s.gpr rt) hst
  have hnext := (advance_of_same s (s.storeLine (s.address base offset) pa k 4 new) rfl rfl hl).1
  have hfound : s.lineWord k w = found := lineWord_aligned s k pa ha
  refine ⟨(s.storeLine (s.address base offset) pa k 4 new).stepped, ?exec, ?new, ?found, ?below, ?kept, ?all⟩
  case exec => exact (congrArg Run.finish hvirt).trans hnext
  all_goals
    have hcode := mem_storeLine_code s (s.address base offset) pa k new ha
    generalize s.storeLine (s.address base offset) pa k 4 new = t at hcode ⊢
    change ∀ v, v ∈ t.stepped.code ↔ _ at hcode
    simp only [hcode]
  case new => exact ⟨versionOf false [] w new, .inr (.inr rfl), ⟨rfl, rfl⟩, rfl⟩
  case found =>
    intro hunknown
    refine ⟨versionOf false [] w found, .inr (.inl ?_), ⟨rfl, rfl⟩, rfl⟩
    rw [oldVersions_unknown s false _ _ hunknown, hfound]
    exact List.mem_singleton_self _
  case below =>
    intro hknown
    rw [oldVersions_known s false _ _ hknown]
    exact ⟨⟨_, .inr (.inl (List.mem_cons_self ..)), ⟨rfl, rfl⟩, by simp [versionOf]⟩,
      ⟨_, .inr (.inl (List.mem_cons_of_mem _ (List.mem_singleton_self _))), ⟨rfl, rfl⟩, by simp [versionOf, cachedViews]⟩⟩
  case kept =>
    intro u hu
    refine ⟨_, .inl ⟨u, hu, rfl⟩, ?_⟩
    split <;> exact ⟨rfl, rfl, rfl⟩
  case all =>
    rintro v (⟨u, hu, rfl⟩ | hold | rfl) hw
    · by_cases hword : u.word = pa.toNat / 4
      · rw [if_pos hword]
        exact ⟨rfl, rfl, rfl, .inr (.inl ⟨u, hu, hword, rfl, rfl⟩)⟩
      · rw [if_neg hword] at hw
        exact absurd hw hword
    · by_cases hknown : ∃ u ∈ s.code, u.word = w
      · rw [oldVersions_known s false _ _ hknown] at hold
        rcases List.mem_pair.mp hold with rfl | rfl
        · exact ⟨rfl, rfl, rfl, .inr (.inr (.inr (.inl ⟨hknown, ⟨rfl, rfl⟩, List.mem_singleton_self _⟩)))⟩
        · exact ⟨rfl, rfl, rfl, .inr (.inr (.inr (.inr ⟨hknown, ⟨rfl, rfl⟩, cached_mem_cachedViews⟩)))⟩
      · rw [oldVersions_unknown s false _ _ hknown, hfound] at hold
        cases List.mem_singleton.mp hold
        exact ⟨rfl, rfl, rfl, .inr (.inr (.inl ⟨hknown, rfl, rfl⟩))⟩
    · exact ⟨rfl, rfl, rfl, .inl ⟨rfl, rfl⟩⟩

/-! ### A fetch of stored code -/

theorem fetchOfStoredCode : Claim.FetchOfStoredCode := by
  unfold Claim.FetchOfStoredCode
  intro s pa k ht hk hd
  refine ⟨BitVec.ofNat 32 (s.pickCopy 2 (lineGet (s.iline k).data (lineOffset pa) 4) (s.versionsFor (cachedView s.pc) pa)), ?_, ?_⟩
  · simp [fetch_through s pa ht, State.fetchCached, State.ensureI, hk, hd, Chk.run, Run.bind]
  · refine (pickCopy_mem s 2 _ _).imp (congrArg _) fun h => ?_
    obtain ⟨v, hv, hw, hview, hvalue⟩ := (mem_versionsFor s _ pa _).mp h
    exact ⟨v, hv, hw, hview, by rw [← hvalue, BitVec.ofNat_toNat, BitVec.setWidth_eq]⟩

/-! ### The sequence -/

/-- A version after the invalidation of an I-cache set: the set counts for the words of its lines whose first part is done. -/
theorem mem_invalidateCode {s : State} {va : Word} {v : CodeVersion} (h : v ∈ (s.invalidateCode va).code) :
    ∃ u ∈ s.code,
      (v = u ∧ ¬(u.word / 8 % 128 = l1Set va % 128 ∧ u.pushed = true)) ∨
      (v = { u with pushed := true, invalidated := va.extractLsb' 12 2 :: u.invalidated } ∧ u.word / 8 % 128 = l1Set va % 128 ∧
        (u.past = false → u.pushed = true)) := by
  obtain ⟨u, hu, rfl⟩ := List.mem_map.mp h
  refine ⟨u, hu, ?_⟩
  split
  · next hnamed =>
    obtain ⟨hset, hpart⟩ := by simpa using hnamed
    exact .inr ⟨rfl, hset, fun hpast => by simpa [hpast] using hpart⟩
  · next hnot => exact .inl ⟨rfl, fun ⟨hset, hpushed⟩ => hnot (by simp [hset, hpushed])⟩

/-- A version after the first part of the sequence, which is done for a word stored through the D-cache where no modified copy of its
line is left. -/
theorem mem_pushCode {s : State} {line : Nat} {v : CodeVersion} (h : v ∈ (s.pushCode (some line) true).code) :
    ∃ u ∈ s.code, v.word = u.word ∧ v.past = u.past ∧
      (u.word / 8 = line → u.past = false → s.notModified u.word = true → v.pushed = true) := by
  obtain ⟨u, hu, rfl⟩ := List.mem_map.mp h
  refine ⟨u, hu, ?_⟩
  split
  · exact ⟨rfl, rfl, fun _ _ _ => rfl⟩
  · next hnot => exact ⟨rfl, rfl, fun hline hpast hmod => absurd (by simp [hline, hpast, hmod]) hnot⟩

theorem dropIs_code (l : List Nat) (s : State) : (l.foldl State.dropI s).code = s.code :=
  (foldl_movesLines State.dropI (fun _ _ => rfl) l s).code

theorem sequenceIsNeeded : Claim.SequenceIsNeeded := by
  unfold Claim.SequenceIsNeeded
  intro s va
  constructor
  · intro v hv
    obtain ⟨u, hu, rfl⟩ := mem_syncCode s v hv
    refine ⟨u, hu, rfl, rfl, fun c hc => ?_⟩
    rcases List.mem_append.mp (List.mem_dedup.mp hc) with hnew | hold
    · right
      have hview : View.cached c ∈ if (u.past && s.staleCopy u.word) = true then [] else u.invalidated.map View.cached :=
        (List.mem_append.mp hnew).resolve_left (by split <;> simp)
      split at hview
      · cases hview
      · next hfresh =>
        obtain ⟨d, hd, hdc⟩ := List.mem_map.mp hview
        cases hdc
        exact ⟨hd, fun hpast => by simpa [hpast] using hfresh⟩
    · exact .inl hold
  · intro v hv
    obtain ⟨u, hu, hcase⟩ := mem_invalidateCode hv
    rw [dropIs_code] at hu
    refine ⟨u, hu, ?_⟩
    rcases hcase with ⟨rfl, -⟩ | ⟨rfl, hset, hpart⟩
    · exact ⟨rfl, rfl, rfl, fun c hc => .inl hc⟩
    · refine ⟨rfl, rfl, rfl, fun c hc => (List.mem_cons.mp hc).symm.imp_right fun hview => ⟨hview, ?_, hpart⟩⟩
      have hindex : l1Set va % 128 = va.toNat / 32 % 128 := by
        simp only [l1Set, BitVec.extractLsb'_toNat, Nat.shiftRight_eq_div_pow]
        omega
      exact hset.trans hindex

/-- No D-cache copy of a line is left where its one copy is written back and invalidated. -/
theorem dCopies_writeBack (s : State) (pa pb : PAddr) (k : Nat) (hk : s.dCopies pa = [k]) (h : lineNumber pb = lineNumber pa) :
    ((s.writeBackD k).dropD k).dCopies pb = [] := by
  refine List.eq_nil_iff_forall_not_mem.mpr fun j hj => ?_
  obtain ⟨hset, hvalid, htag⟩ := mem_dCopies.mp hj
  rw [dline_dropD] at hvalid htag
  split at hvalid
  · cases hvalid
  · next hne =>
    rw [if_neg hne, dline_writeBackD, (tags_of_lineNumber h).1] at htag
    rw [dline_writeBackD] at hvalid
    have hmem : j ∈ s.dCopies pa := mem_dCopies.mpr ⟨h ▸ hset, hvalid, htag⟩
    rw [hk] at hmem
    exact hne (List.mem_singleton.mp hmem)

/-- No I-cache line of a set is left valid by Index Invalidate of each way. -/
theorem iHits_dropIs (s : State) (set : Nat) (pa : PAddr) :
    (((List.range 4).map (lineKey set)).foldl State.dropI s).iHits set pa = [] := by
  refine List.eq_nil_iff_forall_not_mem.mpr fun j hj => ?_
  obtain ⟨hset, hvalid, -⟩ := mem_iHits.mp hj
  rw [iline_dropIs, if_pos ((mem_ways set j).mpr hset)] at hvalid
  cases hvalid

theorem sequenceSettlesCode : Claim.SequenceSettlesCode := by
  unfold Claim.SequenceSettlesCode
  intro s va pa k hhit hcopies hset hpast pushed t
  let d := (s.writeBackD k).dropD k
  let invalidated := ((List.range 4).map (lineKey (l1Set va))).foldl State.dropI pushed
  have hpushed : pushed = d.pushCode (some (lineNumber pa)) true := by
    simp only [pushed, State.cacheHitWriteBackInvalidateD, hhit, List.foldl_cons, List.foldl_nil, d]
  have hdcode : d.code = s.code := (dropD_code _ k).trans (writeBackD_movesLines s k).code
  have hcaches : t.caches = invalidated.caches := by
    rw [syncCode_caches, drainGather_caches, State.cacheIndexInvalidateI, invalidateCode_caches]
  have hcopy : ∀ pb, lineNumber pb = lineNumber pa → d.dCopies pb = [] := fun pb => dCopies_writeBack s pa pb k hcopies
  refine ⟨fun v hv hline => ?settled, ?iHits, ?dCopies⟩
  case settled =>
    obtain ⟨u, hu, rfl⟩ := mem_syncCode _ v hv
    have hu : u ∈ (invalidated.invalidateCode va).code := by rwa [drainGather_code] at hu
    have hline : u.word / 8 = lineNumber pa := hline
    have hmod : d.notModified u.word = true := by
      simp [State.notModified, State.touchedD, hcopy _ (lineNumber_wordAddress pa u.word hline)]
    obtain ⟨w, hw, hcase⟩ := mem_invalidateCode hu
    rw [dropIs_code, hpushed] at hw
    have hword : u.word = w.word ∧ u.past = w.past := by rcases hcase with ⟨rfl, -⟩ | ⟨rfl, -⟩ <;> exact ⟨rfl, rfl⟩
    obtain ⟨hword, hupast⟩ := hword
    rw [hword] at hline hmod
    obtain ⟨x, hx, hwx, hwpast, hdone⟩ := mem_pushCode hw
    rw [hwx] at hline hmod
    have hxpast : x.past = false := hpast x (hdcode ▸ hx) hline
    have hinvalidated : va.extractLsb' 12 2 ∈ u.invalidated := by
      rcases hcase with ⟨-, hnot⟩ | ⟨rfl, -⟩
      · exact absurd ⟨by rw [hwx, hline, hset], hdone hline hxpast hmod⟩ hnot
      · exact List.mem_cons_self ..
    have hthrough : u.past = false := by rw [hupast, hwpast, hxpast]
    refine (syncVersion_settled _ u).2 hthrough _ ?_
    simpa [State.syncVersion, hthrough] using hinvalidated
  case iHits =>
    have hlines : t.iHits (l1Set va) pa = invalidated.iHits (l1Set va) pa := by simp only [State.iHits, State.iline, hcaches]
    rw [hlines, iHits_dropIs]
  case dCopies =>
    have hlines : t.dCopies pa = d.dCopies pa := by
      simp only [State.dCopies, State.dHits, dline_congr hcaches, invalidated, dline_dropIs, hpushed]
      rfl
    rw [hlines, hcopy pa rfl]

/-- Settles O42: the versions after a store, and what each part of the sequence does to them, one by one. -/
theorem storedCode : Obligations.StoredCode :=
  ⟨storedCodeRaces, wordBelow, fetchOfStoredCode, sequenceSettlesCode, sequenceIsNeeded⟩

end Machine
end Sys2Proof
end

section
/-! PROOF. The Watch exception: what is watched, that it comes before any transfer, and how it waits at exception or error level
(O44). -/

namespace Sys2Proof
namespace Machine

/-! ### What is watched -/

/-- Two fields side by side, as a number. -/
theorem toNat_append_eq_add {m n : Nat} (a : BitVec m) (b : BitVec n) : (a ++ b).toNat = a.toNat * 2 ^ n + b.toNat := by
  rw [BitVec.toNat_append, ← Nat.shiftLeft_add_eq_or_of_lt b.isLt, Nat.shiftLeft_eq]

theorem watchMatches : Claim.WatchMatches := by
  unfold Claim.WatchMatches
  intro s kind pa
  have haddress : pa.extractLsb' 3 37 = s.cp0.watchHi ++ s.cp0.watchLo.paddr0 ↔
      pa.toNat / 8 = s.cp0.watchHi.toNat * 2 ^ 29 + s.cp0.watchLo.paddr0.toNat := by
    have hpa : (pa.extractLsb' 3 37).toNat = pa.toNat / 8 := by
      have := pa.isLt
      rw [BitVec.extractLsb'_toNat, Nat.shiftRight_eq_div_pow]
      omega
    rw [← BitVec.toNat_inj, hpa, toNat_append_eq_add]
  simp [State.watched, haddress]

/-! ### Watch at level 0 -/

/-- The state that a watched access at level 0 takes the exception from: that after the fill of its line, where it is cached and the
fill succeeds (entry 35). -/
def State.watchedFrom (s : State) (va : Word) (pa : PAddr) (c : BitVec 3) : State :=
  if c = 3 then
    match s.ensureD va pa with
    | .ok _ t => t
    | _ => s
  else s

theorem watchedFrom_past (s : State) (va : Word) (pa : PAddr) (c : BitVec 3) (h : c ≠ 3) : s.watchedFrom va pa c = s := if_neg h

theorem watchedFrom_filled (s t : State) (va : Word) (pa : PAddr) (k : Nat) (h : s.ensureD va pa = .ok k t) :
    s.watchedFrom va pa 3 = t := by
  rw [State.watchedFrom, if_pos rfl, h]

theorem watchedFrom_unfilled (s : State) (va : Word) (pa : PAddr) (c : BitVec 3) (h : ∀ k t, s.ensureD va pa ≠ .ok k t) :
    s.watchedFrom va pa c = s := by
  rw [State.watchedFrom]
  split
  · split
    · next k t hfill => exact absurd hfill (h k t)
    · rfl
  · rfl

/-- A hit in the D-cache fills nothing. -/
theorem ensureD_of_dHits (s : State) (va : Word) (pa : PAddr) (h : s.dHits (l1Set va) pa ≠ []) :
    ∃ k, s.ensureD va pa = .ok k s := by
  obtain ⟨k, hk⟩ := exists_oneOf s 0 _ h
  exact ⟨k, by rw [State.ensureD, hk]⟩

theorem watchedFrom_movesLines (s : State) (va : Word) (pa : PAddr) (c : BitVec 3) : s.MovesLines (s.watchedFrom va pa c) := by
  by_cases hc : c = 3
  · subst hc
    by_cases hfill : ∃ k t, s.ensureD va pa = .ok k t
    · obtain ⟨k, t, hfill⟩ := hfill
      rw [watchedFrom_filled s t va pa k hfill]
      exact ensureD_movesLines hfill
    · rw [watchedFrom_unfilled s va pa 3 fun k t h => hfill ⟨k, t, h⟩]
      exact .refl s
  · rw [watchedFrom_past s va pa c hc]
    exact .refl s

theorem prepare_watched (s : State) (kind : Access) (va : Word) (align : Nat) (pa : PAddr) (c : BitVec 3)
    (h : s.translateAligned kind va align = .pass (pa, c)) (hw : s.watched kind pa = true) (hexl : s.cp0.status.exl = false)
    (herl : s.cp0.status.erl = false) : s.prepare kind va align = .raise .watch (s.watchedFrom va pa c) := by
  have hcheck : s.watchCheck kind va pa c = .raise .watch (s.watchedFrom va pa c) := by
    simp only [State.watchCheck, State.watchedFrom, hw, hexl, herl, Bool.not_true, Bool.or_self, Bool.false_eq_true, if_false]
    split
    · cases s.ensureD va pa <;> rfl
    · rfl
  rw [State.prepare, h, Chk.run, hcheck, Run.bind]

/-- An instruction takes the Watch exception and transfers nothing: from the state it began in, or for a cached access that misses from
that after the fill of its line, where the fill succeeds. -/
def State.WatchStops (s : State) (va : Word) (pa : PAddr) (c : BitVec 3) (o : Out) : Prop :=
  (c ≠ 3 ∨ s.dHits (l1Set va) pa ≠ [] ∨ (∀ k t, s.ensureD va pa ≠ .ok k t) → Takes s o .watch) ∧
  (∀ k t, c = 3 → s.ensureD va pa = .ok k t → Takes t o .watch) ∧
  ∃ t : State, o = .next (t.takeException .watch) ∧ (∀ r, t.gpr r = s.gpr r) ∧ s.MovesLines t

theorem watchStops (s : State) (va : Word) (pa : PAddr) (c : BitVec 3) :
    s.WatchStops va pa c ((s.watchedFrom va pa c).raise .watch) := by
  have hmoves := watchedFrom_movesLines s va pa c
  refine ⟨fun h => ?_, fun k t hc hfill => ?_, _, rfl, fun r => gpr_eq_of_gprs _ _ hmoves.gprs r, hmoves⟩
  · have hfrom : s.watchedFrom va pa c = s := by
      by_cases hc : c = 3
      · rcases h with h | h | h
        · exact absurd hc h
        · obtain ⟨k, hk⟩ := ensureD_of_dHits s va pa h
          rw [hc, watchedFrom_filled s s va pa k hk]
        · exact watchedFrom_unfilled s va pa c h
      · exact watchedFrom_past s va pa c hc
    rw [hfrom]
    rfl
  · rw [hc, watchedFrom_filled s t va pa k hfill]
    rfl

/-! ### Loads and stores whose checks raise an exception -/

section
variable {s t : State} {va : Word} {n : Nat} {e : Exc}

theorem loadInto_raises (done : Word → State → Run Unit) (h : s.prepare .load va n = .raise e t) :
    ((s.loadVirt va n).bind done).finish = t.raise e := by
  rw [State.loadVirt, h]; rfl

theorem loadPartTo_raises (rt : RegNum) (skip m : Nat) (value : Word → Word) (h : s.prepare .load va n = .raise e t) :
    s.loadPartTo rt va n skip m value = t.raise e := by
  rw [State.loadPartTo, State.loadPart, h]; rfl

theorem loadLinked_raises (rt : RegNum) (value : Word → Word) (h : s.prepare .load va n = .raise e t) :
    s.loadLinked rt va n value = t.raise e := by
  rw [State.loadLinked, h]; rfl

theorem storeFrom_raises (m : Nat) (v : Word) (h : s.prepare .store va n = .raise e t) : s.storeFrom va n m v = t.raise e := by
  rw [State.storeFrom, State.storeVirt, h]; rfl

theorem storeConditional_raises (rt : RegNum) (h : s.prepare .store va n = .raise e t) : s.storeConditional rt va n = t.raise e := by
  rw [State.storeConditional, h]; rfl

end

theorem watchTraps : Claim.WatchTraps := by
  unfold Claim.WatchTraps
  intro s rt base offset pa c hexl herl va b4 b8 traps
  have hload : s.watched .load pa = true → ∀ {a : Word} {n : Nat}, s.translateAligned .load a n = .pass (pa, c) →
      s.prepare .load a n = .raise .watch (s.watchedFrom a pa c) := fun hw a n ht =>
    prepare_watched s .load a n pa c ht hw hexl herl
  have hstore : s.watched .store pa = true → ∀ {a : Word} {n : Nat}, s.translateAligned .store a n = .pass (pa, c) →
      s.prepare .store a n = .raise .watch (s.watchedFrom a pa c) := fun hw a n ht =>
    prepare_watched s .store a n pa c ht hw hexl herl
  have htraps : ∀ {a : Word} {i : Instr}, exec i s = (s.watchedFrom a pa c).raise .watch → traps a i := fun {a i} h => by
    have hstops := watchStops s a pa c
    rw [← h] at hstops
    exact hstops
  simp only [List.forall_mem_cons]
  refine ⟨fun hw => ⟨⟨?_, ?_, ?_, ?_, ?_, ?_, ?_, ?ll, ?lld, ?lwl, ?lwr, ?ldl, ?ldr, List.forall_mem_nil _⟩, ?lwc1, ?ldc1⟩,
    fun hw => ⟨⟨?_, ?_, ?_, ?_, ?sc, ?scd, ?_, ?_, ?_, ?_, List.forall_mem_nil _⟩, ?swc1, ?sdc1⟩⟩
  case ll => exact fun ht => htraps (loadLinked_raises rt (fun v => sext32 (low32 v)) (hload hw ht))
  case lld => exact fun ht => htraps (loadLinked_raises rt (fun v => v) (hload hw ht))
  case lwl => exact fun ht => htraps (loadPartTo_raises rt _ _ _ (hload hw ht))
  case lwr => exact fun ht => htraps (loadPartTo_raises rt _ _ _ (hload hw ht))
  case ldl => exact fun ht => htraps (loadPartTo_raises rt _ _ _ (hload hw ht))
  case ldr => exact fun ht => htraps (loadPartTo_raises rt _ _ _ (hload hw ht))
  case lwc1 => exact fun hu ht => htraps ((whenCp1_usable s _ hu).trans (loadInto_raises _ (hload hw ht)))
  case ldc1 => exact fun hu he ht => htraps ((whenPairs_usable s _ _ hu he).trans (loadInto_raises _ (hload hw ht)))
  case sc => exact fun ht => htraps (storeConditional_raises rt (hstore hw ht))
  case scd => exact fun ht => htraps (storeConditional_raises rt (hstore hw ht))
  case swc1 => exact fun hu ht => htraps ((whenCp1_usable s _ hu).trans (storeFrom_raises 4 _ (hstore hw ht)))
  case sdc1 => exact fun hu he ht => htraps ((whenPairs_usable s _ _ hu he).trans (storeFrom_raises 8 _ (hstore hw ht)))
  all_goals intro ht
  iterate 7 exact htraps (loadInto_raises _ (hload hw ht))
  all_goals exact htraps (storeFrom_raises _ _ (hstore hw ht))

/-! ### Watch at exception or error level -/

theorem prepare_deferred (s : State) (kind : Access) (va : Word) (align : Nat) (r : PAddr × BitVec 3)
    (h : s.translateAligned kind va align = .pass r) (hw : s.watched kind r.1 = true)
    (hlevel : s.cp0.status.exl = true ∨ s.cp0.status.erl = true) :
    s.prepare kind va align = .ok r { s with pendingWatch := true } := by
  simp [State.prepare, h, Chk.run, State.watchCheck, hw, hlevel, Run.bind]

/-- A load whose checks leave a state `p` completes as from there. -/
theorem loadTo_result_from (s p : State) (rt : RegNum) (va : Word) (n : Nat) (value : Word → Word) (r : PAddr × BitVec 3) 
    (v : Nat) (hp : s.prepare .load va n = .ok r p) (hm : p.memRead va r.1 r.2 n = .ok v p) (hl : p.leavesSegment = false) :
    GprResult p (s.loadTo rt va n value) rt (value (BitVec.ofNat 64 v)) := by
  have h : s.loadTo rt va n value = p.writeGpr rt (value (BitVec.ofNat 64 v)) := by
    simp [State.loadTo, State.loadVirt, hp, hm, Run.bind, Run.finish, State.writeGpr]
  rw [h]
  exact writeGpr_result p rt _ hl

/-- What memory holds from an address upwards follows from its bytes there. -/
theorem storedLE_congr {s t : State} (hfree : t.free = s.free) (pa : PAddr) (n : Nat)
    (h : ∀ i, i < n → t.byteAt (pa + BitVec.ofNat 40 i).toNat = s.byteAt (pa + BitVec.ofNat 40 i).toNat) :
    t.storedLE pa n = s.storedLE pa n := by
  induction n generalizing pa with
  | zero => rfl
  | succ n ih =>
    have hfirst : Memory.read t.memory pa.toNat = Memory.read s.memory pa.toNat := by simpa [State.byteAt] using h 0 (by omega)
    have hrest := ih (pa + 1) fun i hi => by rw [paddr_succ]; exact h (i + 1) (by omega)
    simp only [State.storedLE, State.storedByte, State.draw, hfirst, hfree, hrest]

/-! ### What a store past the caches and one into a line do -/

/-- No store past the caches makes a DDR controller that answers stop answering. -/
theorem writeByte_ddrReady (s : State) (a : Nat) (b : Byte) (h : s.ddrReady = true) : (s.writeByte a b).ddrReady = true := by
  unfold State.writeByte
  split
  · rfl
  split
  · exact h
  split <;> exact h

theorem writeBytes_ddrReady (s : State) (pa : PAddr) (n v : Nat) (h : s.ddrReady = true) : (s.writeBytes pa n v).ddrReady = true := by
  induction n generalizing s pa v with
  | zero => exact h
  | succ n ih => exact ih _ _ _ (writeByte_ddrReady s _ _ h)

theorem drainGather_ddrReady (s : State) (h : s.ddrReady = true) : s.drainGather.ddrReady = true := by
  have hall : ∀ (l : List GatheredStore) (t : State), t.ddrReady = true →
      (l.foldl (fun t g => t.writeBytes g.pa g.size g.value.toNat) t).ddrReady = true := by
    intro l
    induction l with
    | nil => exact fun _ ht => ht
    | cons g l ih => exact fun t ht => ih _ (writeBytes_ddrReady t _ _ _ ht)
  exact hall s.gather s h

@[simp] theorem drainGather_ramMap (s : State) : s.drainGather.ramMap = s.ramMap := by rw [drainGather_frame]

/-- What takes stores still takes them once the gathered stores are issued. -/
theorem inRam_drainGather (s : State) (pa : PAddr) (n : Nat) (h : s.inRam pa n) : s.drainGather.inRam pa n := by
  intro i hi
  have hbefore := h i hi
  have hkind : ∀ a, s.drainGather.kindAt a = s.kindAt a := fun a => by simp only [State.kindAt, drainGather_ramMap]
  unfold State.takesStores at hbefore ⊢
  rw [hkind]
  split at hbefore
  · rfl
  · exact drainGather_ddrReady s hbefore
  · cases hbefore

/-- What a store past the caches to RAM does, from any state that is not at a segment's end. -/
theorem storeUncached_result (s : State) (pa : PAddr) (n : Nat) (v : Word) (hn : n ≤ 8) (hl : s.leavesSegment = false)
    (hr : s.inRam pa n) : StoreResult s (s.storeUncached pa n v.toNat).advance pa n v := by
  have hram := inRam_drainGather s pa n hr
  obtain ⟨memory, hmemory⟩ : ∃ memory, s.drainGather.writeBytes pa n v.toNat = { s.drainGather with memory := memory } :=
    ⟨_, writeBytes_ram s.drainGather pa n v.toNat hram⟩
  obtain ⟨hstored, hothers⟩ := writeBytes_stores s.drainGather pa n v hn hram
  rw [hmemory] at hstored hothers
  obtain ⟨raced, code, hstore⟩ : ∃ raced code,
      s.storeUncached pa n v.toNat = { s.drainGather with memory := memory, raced := raced, code := code } :=
    ⟨(s.storeUncached pa n v.toNat).raced, (s.storeUncached pa n v.toNat).code, by rw [State.storeUncached, hmemory]; rfl⟩
  have hpc := drainGather_pc s
  have hdelay := drainGather_delay s
  have hgprs := drainGather_gprs s
  rw [StoreResult, hstore]
  generalize s.drainGather = u at *
  obtain ⟨hnext, hadvanced⟩ := advance_of_same s { u with memory := memory, raced := raced, code := code } hpc hdelay hl
  exact ⟨_, hnext, hadvanced, ⟨fun i hi => (byteAt_congr _ _ rfl _).trans (hstored i hi), fun a ha =>
    (byteAt_congr _ _ rfl a).trans (hothers a ha)⟩, fun r => gpr_eq_of_gprs s _ hgprs r, rfl⟩

theorem storeLine_result (s : State) (va : Word) (pa : PAddr) (k n : Nat) (v : Word) (hl : s.leavesSegment = false) :
    LineStoreResult s (s.storeLine va pa k n v.toNat).advance pa k n v := by
  have hline := storeLine_dline s va pa k n v.toNat
  obtain ⟨dcache, raced, code, hstore⟩ : ∃ dcache raced code, s.storeLine va pa k n v.toNat =
      { s with caches := { s.caches with dcache := dcache }, raced := raced, code := code } := ⟨_, _, _, rfl⟩
  rw [hstore] at hline ⊢
  obtain ⟨hnext, hadvanced⟩ :=
    advance_of_same s { s with caches := { s.caches with dcache := dcache }, raced := raced, code := code } rfl rfl hl
  have hk := (hline k).trans (if_pos rfl)
  exact ⟨_, hnext, hadvanced, congrArg DLine.data hk, congrArg DLine.dirty hk, (congrArg (fun l => l.state.isValid) hk).trans rfl,
    (congrArg DLine.tag hk).trans rfl, fun j hj => (hline j).trans (if_neg hj), fun r => gpr_eq_of_gprs s _ rfl r,
    fun a => byteAt_congr _ s rfl a, rfl⟩

section
variable {s p : State} {va : Word} {n k : Nat} {pa : PAddr} {v : Word}

/-- A store past the caches whose checks leave a state `p`. -/
theorem storeFrom_past (h : s.prepare .store va n = .ok (pa, 2) p) (hd : p.described pa n = .pass ()) :
    s.storeFrom va n n v = (p.storeUncached pa n v.toNat).advance := by
  simp [State.storeFrom, State.storeVirt, h, Run.bind, State.memWrite, hd, Chk.run, Run.finish]

/-- A store that hits the D-cache, whose checks leave a state `p`. -/
theorem storeFrom_hit (h : s.prepare .store va n = .ok (pa, 3) p) (hd : p.described pa n = .pass ())
    (hk : p.dHits (l1Set va) pa = [k]) : s.storeFrom va n n v = (p.storeLine va pa k n v.toNat).advance := by
  simp [State.storeFrom, State.storeVirt, h, Run.bind, State.memWrite, State.storeCached, State.ensureD, hk, hd, Chk.run, Run.finish]

end

theorem alignedStore_size {rt base : RegNum} {offset : BitVec 16} {q : Nat × Instr} (h : q ∈ alignedStores rt base offset) :
    q.1 ≤ 8 := by
  revert q
  simp [alignedStores]

/-- The aligned integer loads, with the number of bytes and the value of each. -/
theorem exec_valuedLoad (s : State) (rt base : RegNum) (offset : BitVec 16) :
    ∀ q ∈ ([(1, .lb rt offset base, fun d => (d.setWidth 8).signExtend 64), (1, .lbu rt offset base, fun d => d),
      (2, .lh rt offset base, fun d => (d.setWidth 16).signExtend 64), (2, .lhu rt offset base, fun d => d),
      (4, .lw rt offset base, fun d => (d.setWidth 32).signExtend 64), (4, .lwu rt offset base, fun d => d),
      (8, .ld rt offset base, fun d => d)] : List (Nat × Instr × (Word → Word))),
      exec q.2.1 s = s.loadTo rt (s.address base offset) q.1 q.2.2 := by
  have hword : (fun v : Word => sext32 (low32 v)) = fun v => (v.setWidth 32).signExtend 64 := by
    funext v
    rw [sext32, low32_eq_ofNat, BitVec.ofNat_toNat]
  simp only [List.forall_mem_cons]
  exact ⟨rfl, rfl, rfl, rfl, by rw [exec_lw, hword], rfl, rfl, List.forall_mem_nil _⟩

theorem watchDefers : Claim.WatchDefers := by
  unfold Claim.WatchDefers
  intro s rt base offset pa k hl hlevel va p
  have hlp : p.leavesSegment = false := hl
  have hva : s.address base offset = va := rfl
  refine ⟨fun hw q hq hg => ⟨fun hpast hm hu => ?_, fun ht hd hk hr => ?_⟩,
    fun hw q hq => ⟨fun ht hr => ?_, fun ht hd hk => ?_⟩⟩
  · obtain ⟨attr, hattr, ht⟩ : ∃ attr : BitVec 3, attr ≠ 3 ∧ s.translateAligned .load va q.1 = .pass (pa, attr) :=
      hpast.elim (fun h => ⟨2, by decide, h⟩) (fun h => ⟨7, by decide, h⟩)
    have hread := memRead_uncached p va pa attr q.1 hattr hg hm hu
    have hdatum : p.storedLE pa q.1 = s.storedLE pa q.1 :=
      storedLE_congr (s := s) (t := p) rfl pa q.1 fun i _ => byteAt_congr p s rfl _
    rw [hdatum] at hread
    rw [exec_valuedLoad s rt base offset q hq]
    exact loadTo_result_from s p rt va q.1 q.2.2 (pa, attr) _ (prepare_deferred s .load va q.1 (pa, attr) ht hw hlevel) hread hlp
  · have hread := memRead_cached p va pa q.1 k hg hd hk hr
    rw [exec_valuedLoad s rt base offset q hq]
    exact loadTo_result_from s p rt va q.1 q.2.2 (pa, 3) _ (prepare_deferred s .load va q.1 (pa, 3) ht hw hlevel) hread hlp
  · rw [exec_alignedStore rt base offset q hq, hva,
      storeFrom_past (prepare_deferred s .store va q.1 (pa, 2) ht hw hlevel) (described_ram p pa q.1 hr)]
    exact storeUncached_result p pa q.1 (s.gpr rt) (alignedStore_size hq) hlp hr
  · rw [exec_alignedStore rt base offset q hq, hva, storeFrom_hit (prepare_deferred s .store va q.1 (pa, 3) ht hw hlevel) hd hk]
    exact storeLine_result p va pa k q.1 (s.gpr rt) hlp

theorem pendingWatchIsTaken : Claim.PendingWatchIsTaken := by
  unfold Claim.PendingWatchIsTaken
  intro s hcold hsoft hnmi hmode hpending hexl herl
  have hdue : s.watchDue = true := by simp [State.watchDue, hpending, hexl, herl]
  have hstep : step s = .next (s.tickEvent s.takeWatch) := by
    simp [step, State.cycle, hcold, hsoft, hnmi, hmode, hdue]
  let u : State := { s with pendingWatch := false }
  have hoffset : u.vectorOffset .watch = 0x180 := vectorOffset_of_not_refill u .watch (.inl rfl)
  have hepc : s.takeWatch.cp0.epc = s.restartPc := (takeException_epc u .watch).trans (if_neg (by simp [u, hexl]))
  have hpc : s.takeWatch.pc = s.vectorBase + 0x180 := by rw [State.takeWatch, takeException_pc, hoffset]; rfl
  exact ⟨_, hstep, rfl, hepc, rfl, rfl, hpc, fun r => gpr_eq_of_gprs s _ rfl r, fun a => byteAt_congr _ s rfl a⟩

/-- Settles O44: the check raises before any transfer at level 0, and leaves the state with a Watch pending elsewhere. -/
theorem watchTrapsOrDefers : Obligations.WatchTrapsOrDefers := ⟨watchMatches, watchTraps, watchDefers, pendingWatchIsTaken⟩

end Machine
end Sys2Proof
end

section
/-! PROOF. Fetches: past the caches, from the instruction cache, and by a fill from the L2 or from memory (O7). -/

namespace Sys2Proof
namespace Machine

/-! ### The line of an L2 way with what its L1 copies hold -/

/-- The modified D-cache copies of an L2 line. -/
def State.modifiedCopies (s : State) (k : Nat) : List Nat := (s.dCopies (s.l2lineBase k)).filter fun d => (s.dline d).dirty

/-- An L2 line with the data of a modified D-cache copy where it has one: what goes to memory where the line is replaced. -/
def State.latestL2 (s : State) (k : Nat) : L2Line :=
  match s.modifiedCopies k with
  | [] => s.l2line k
  | d :: rest =>
    { s.l2line k with
      state := .dirty
      data := BitVec.ofNat 256 (s.pickCopy 3 (s.dline d).data.toNat (rest.map fun d => (s.dline d).data.toNat)) }

theorem latestL2_unmodified {s : State} {k : Nat} (h : s.modifiedCopies k = []) : s.latestL2 k = s.l2line k := by
  rw [State.latestL2, h]

/-- One modified copy is what the line holds. -/
theorem latestL2_one {s : State} {k d : Nat} (h : s.modifiedCopies k = [d]) :
    s.latestL2 k = { s.l2line k with state := .dirty, data := (s.dline d).data } := by
  rw [State.latestL2, h]
  simp [State.pickCopy]

/-- Data that goes to memory is that of a modified line. -/
theorem modifiedL2_of_latestL2 {s : State} {k : Nat} (hv : (s.l2line k).state.isValid = true)
    (h : (s.latestL2 k).state.isDirty = true) : s.modifiedL2 k := by
  refine ⟨hv, ?_⟩
  rw [State.latestL2] at h
  split at h
  · exact .inl h
  · next d rest hcopies =>
    obtain ⟨hd, hdirty⟩ := List.mem_filter.mp (hcopies ▸ List.mem_cons_self .. : d ∈ s.modifiedCopies k)
    exact .inr ⟨d, hd, hdirty⟩

/-- `t` differs from `s` in the caches and the records of races only. -/
def State.MovesCopies (s t : State) : Prop := t = { s with caches := t.caches, raced := t.raced }

theorem State.MovesCopies.trans {s t u : State} (h1 : s.MovesCopies t) (h2 : t.MovesCopies u) : s.MovesCopies u := by
  unfold State.MovesCopies at *
  exact h2.trans (by rw [h1])

theorem foldl_movesCopies (f : State → Nat → State) (hf : ∀ (t : State) (k : Nat), t.MovesCopies (f t k)) (l : List Nat)
    (s : State) : s.MovesCopies (l.foldl f s) :=
  List.foldlRecOn l f (motive := s.MovesCopies) rfl fun t ht k _ => ht.trans (hf t k)

/-- The invalidation of the L1 copies of an L2 line begins with the line itself, which takes the data of a modified copy. -/
theorem dropL1Copies_eq (s : State) (k : Nat) :
    ∃ u : State, s.MovesCopies u ∧ (∀ j, u.iline j = s.iline j) ∧ (∀ j, u.dline j = s.dline j) ∧
      (∀ j, u.l2line j = if j = k then s.latestL2 k else s.l2line j) ∧
      s.dropL1Copies k true = (s.dCopies (s.l2lineBase k)).foldl State.dropD ((s.iCopies (s.l2lineBase k)).foldl State.dropI u) := by
  have hmodified : (s.dCopies (s.l2lineBase k)).filter (fun d => (s.dline d).dirty) = s.modifiedCopies k := rfl
  cases hcopies : s.modifiedCopies k with
  | nil =>
    refine ⟨s, rfl, fun _ => rfl, fun _ => rfl, fun j => ?_, ?_⟩
    · split
      · next hj => rw [hj, latestL2_unmodified hcopies]
      · rfl
    · simp [State.dropL1Copies, hmodified, hcopies]
  | cons d rest =>
    refine ⟨s.setL2line k (s.latestL2 k), rfl, fun _ => rfl, fun _ => rfl, fun j => l2line_setL2line s k j _, ?_⟩
    have hi : (s.setL2line k (s.latestL2 k)).iCopies = s.iCopies := rfl
    simp [State.dropL1Copies, hmodified, hcopies, State.latestL2, ← hi]

/-- The three caches after the L1 copies of an L2 line are invalidated. -/
theorem dropL1Copies_lines (s : State) (k : Nat) :
    s.MovesCopies (s.dropL1Copies k true) ∧
    (∀ j, (s.dropL1Copies k true).iline j =
      if j ∈ s.iCopies (s.l2lineBase k) then { s.iline j with valid := false } else s.iline j) ∧
    (∀ j, (s.dropL1Copies k true).dline j =
      if j ∈ s.dCopies (s.l2lineBase k) then { s.dline j with state := .invalid, dirty := false } else s.dline j) ∧
    ∀ j, (s.dropL1Copies k true).l2line j = if j = k then s.latestL2 k else s.l2line j := by
  obtain ⟨u, hmoves, hi, hd, hl2, heq⟩ := dropL1Copies_eq s k
  rw [heq]
  refine ⟨?_, fun j => ?_, fun j => ?_, fun j => ?_⟩
  · exact hmoves.trans ((foldl_movesCopies State.dropI (fun _ _ => rfl) _ u).trans
      (foldl_movesCopies State.dropD (fun _ _ => rfl) _ _))
  · rw [iline_dropDs, iline_dropIs, hi]
  · rw [dline_dropDs, dline_dropIs, hd]
  · rw [l2line_dropDs, l2line_dropIs, hl2]

/-! ### A line that the L2 gives up -/

/-- The bytes of a line written to RAM. -/
theorem writeBytes_storesLine (s : State) (pa : PAddr) (data : BitVec 256) (hr : s.inRam pa 32) :
    StoresLine s (s.writeBytes pa 32 data.toNat) pa data := by
  refine ⟨fun i hi => ?_, fun a ha => read_writeBytes_other s pa 32 _ a ha hr⟩
  have hbyte : BitVec.ofNat 8 (data.toNat / 256 ^ i) = data.extractLsb' (8 * i) 8 := by
    apply BitVec.eq_of_toNat_eq
    rw [BitVec.toNat_ofNat, BitVec.extractLsb'_toNat, Nat.shiftRight_eq_div_pow, Nat.pow_mul]
  rw [read_writeBytes_same s pa 32 _ i (Nat.le_refl 32) hi hr, hbyte]

theorem StoresLine.congr {s s' t t' : State} {pa : PAddr} {data : BitVec 256} (h : StoresLine s t pa data)
    (hs : ∀ a, s'.byteAt a = s.byteAt a) (ht : ∀ a, t'.byteAt a = t.byteAt a) : StoresLine s' t' pa data := by
  obtain ⟨hstored, hothers⟩ := h
  exact ⟨fun i hi => (ht _).trans (hstored i hi), fun a ha => by rw [ht, hs, hothers a ha]⟩

/-- The three caches after a valid L2 line is removed, with its L1 copies. -/
theorem dropL2_lines (s : State) (k : Nat) (hv : (s.l2line k).state.isValid = true) :
    (∀ j, (s.dropL2 k true).iline j =
      if j ∈ s.iCopies (s.l2lineBase k) then { s.iline j with valid := false } else s.iline j) ∧
    (∀ j, (s.dropL2 k true).dline j =
      if j ∈ s.dCopies (s.l2lineBase k) then { s.dline j with state := .invalid, dirty := false } else s.dline j) ∧
    ∀ j, j ≠ k → (s.dropL2 k true).l2line j = s.l2line j := by
  obtain ⟨-, hi, hd, hl2⟩ := dropL1Copies_lines s k
  obtain ⟨u, l, hu, heq⟩ : ∃ (u : State) (l : L2Line), u.caches = (s.dropL1Copies k true).caches ∧
      s.dropL2 k true = (u.setL2line k l).settle := by
    refine ⟨_, _, ?_, by rw [State.dropL2, if_pos hv]⟩
    split
    · rw [writeBytes_frame]
    · rfl
  rw [heq]
  refine ⟨fun j => ?_, fun j => ?_, fun j hj => ?_⟩
  · rw [← hi j, iline_settle, iline_setL2line, iline_congr hu]
  · rw [← hd j, dline_settle, dline_setL2line, dline_congr hu]
  · rw [l2line_settle, l2line_setL2line, if_neg hj, l2line_congr hu, hl2, if_neg hj]

/-- Memory after a valid L2 line is removed: the line goes there where it or a D-cache copy of it is modified. -/
theorem dropL2_memory (s : State) (k : Nat) (hv : (s.l2line k).state.isValid = true)
    (hr : s.modifiedL2 k → s.inRam (s.l2lineBase k) 32) :
    s.dropL2 k true = { s with caches := (s.dropL2 k true).caches, memory := (s.dropL2 k true).memory,
                               raced := (s.dropL2 k true).raced } ∧
    ((s.latestL2 k).state.isDirty = false → ∀ a, (s.dropL2 k true).byteAt a = s.byteAt a) ∧
    ((s.latestL2 k).state.isDirty = true → StoresLine s (s.dropL2 k true) (s.l2lineBase k) (s.latestL2 k).data) := by
  obtain ⟨hmoves, -, -, hl2⟩ := dropL1Copies_lines s k
  have hlatest : (s.dropL1Copies k true).l2line k = s.latestL2 k := (hl2 k).trans (if_pos rfl)
  have heq : s.dropL2 k true = ((if (s.latestL2 k).state.isDirty then
      (s.dropL1Copies k true).writeBytes (s.l2lineBase k) 32 (s.latestL2 k).data.toNat else s.dropL1Copies k true).setL2line k
        { s.latestL2 k with state := .invalid }).settle := by
    simp [State.dropL2, hv, hlatest]
  generalize s.dropL1Copies k true = u at hmoves heq
  have humemory : u.memory = s.memory := by rw [hmoves]
  cases hdirty : (s.latestL2 k).state.isDirty with
  | false =>
    simp only [hdirty, Bool.false_eq_true, if_false] at heq
    rw [heq, hmoves]
    exact ⟨rfl, fun _ a => byteAt_congr _ s rfl a, fun h => absurd h (by decide)⟩
  | true =>
    have hram : u.inRam (s.l2lineBase k) 32 :=
      inRam_congr s u _ 32 (by rw [hmoves]) (by rw [hmoves]) (hr (modifiedL2_of_latestL2 hv hdirty))
    have hstores := (writeBytes_storesLine u _ (s.latestL2 k).data hram).congr (byteAt_congr s u humemory.symm) fun _ => rfl
    simp only [hdirty, if_true] at heq
    rw [writeBytes_ram u _ _ _ hram] at heq hstores
    generalize (u.writeBytes (s.l2lineBase k) 32 (s.latestL2 k).data.toNat).memory = memory at heq hstores
    rw [heq]
    refine ⟨?_, fun h => absurd h (by decide), fun _ => hstores.congr (fun _ => rfl) fun a => byteAt_congr _ _ rfl a⟩
    rw [hmoves]
    rfl

/-! ### Lines that do not overlap -/

theorem l2lineBase_aligned (s : State) (k : Nat) : (s.l2lineBase k).toNat % 32 = 0 := by
  have hzero : (0#5).toNat = 0 := rfl
  rw [State.l2lineBase, toNat_append_eq_add, toNat_append_eq_add, hzero]
  omega

theorem lineBase_toNat (pa : PAddr) : (lineBase pa).toNat = lineNumber pa * 32 := by
  have := pa.isLt
  have hzero : (0#5).toNat = 0 := rfl
  rw [lineBase, toNat_append_eq_add, hzero, BitVec.extractLsb'_toNat, Nat.shiftRight_eq_div_pow, lineNumber]
  omega

theorem l2Tag_l2lineBase (s : State) (k : Nat) : l2Tag (s.l2lineBase k) = (s.l2line k).tag := by
  rw [l2Tag, State.l2lineBase, Laws.extractLsb'_append_high _ _ _ (by decide)]
  simp

/-- The bytes of an aligned line are those of its line number. -/
theorem lineNumber_add (b : PAddr) (i : Nat) (hb : b.toNat % 32 = 0) (hi : i < 32) :
    lineNumber (b + BitVec.ofNat 40 i) = lineNumber b := by
  have := b.isLt
  simp only [lineNumber, BitVec.toNat_add, BitVec.toNat_ofNat]
  omega

/-- A line of the L2 other than that of an address shares no byte with it. -/
theorem bytes_apart (s : State) (pa : PAddr) (k i j : Nat) (hk : k / 4 = l2Set pa) (hmiss : s.l2Hits pa = [])
    (hv : (s.l2line k).state.isValid = true) (hi : i < 32) (hj : j < 32) :
    (lineBase pa + BitVec.ofNat 40 i).toNat ≠ (s.l2lineBase k + BitVec.ofNat 40 j).toNat := by
  intro heq
  have hbase : lineNumber (lineBase pa) = lineNumber pa := by
    rw [lineNumber, lineBase_toNat]
    omega
  have hline : lineNumber (s.l2lineBase k) = lineNumber pa := by
    rw [← lineNumber_add _ j (l2lineBase_aligned s k) hj, ← BitVec.eq_of_toNat_eq heq,
      lineNumber_add _ i (by rw [lineBase_toNat]; omega) hi, hbase]
  have htag : (s.l2line k).tag = l2Tag pa := (l2Tag_l2lineBase s k).symm.trans (tags_of_lineNumber hline).2.1
  have hhit : k ∈ s.l2Hits pa := mem_l2Hits.mpr ⟨hk, hv, htag⟩
  rw [hmiss] at hhit
  cases hhit

/-! ### The line that a fill of the L2 replaces -/

theorem isValid_eq_false_iff (l : L2State) : l.isValid = false ↔ l = .invalid := by
  cases l <;> simp [L2State.isValid]

theorem isDirty_eq_false_of_ne {l : L2State} (h : l ≠ .dirty) : l.isDirty = false := by
  cases l with
  | dirty => exact absurd rfl h
  | _ => rfl

/-- Memory takes the latest data of a line where there is something to write back. -/
theorem writesBackL2_of_latest (s t : State) (k : Nat)
    (hclean : (s.latestL2 k).state.isDirty = false → ∀ a, t.byteAt a = s.byteAt a)
    (hdirty : (s.latestL2 k).state.isDirty = true → StoresLine s t (s.l2lineBase k) (s.latestL2 k).data) : WritesBackL2 s t k := by
  refine ⟨fun hnone hstate => ?_, fun _ => ⟨fun hnone hstate => ?_, fun d hd => ?_⟩⟩
  · rw [latestL2_unmodified hnone] at hclean
    exact hclean (isDirty_eq_false_of_ne hstate)
  · rw [latestL2_unmodified hnone] at hdirty
    exact hdirty (congrArg L2State.isDirty hstate)
  · rw [latestL2_one hd] at hdirty
    exact hdirty rfl

theorem WritesBackL2.congr {s t t' : State} {k : Nat} (h : WritesBackL2 s t k) (hbytes : ∀ a, t'.byteAt a = t.byteAt a) :
    WritesBackL2 s t' k := by
  obtain ⟨hclean, hstores⟩ := h
  refine ⟨fun hnone hstate a => (hbytes a).trans (hclean hnone hstate a), fun hr => ?_⟩
  obtain ⟨hown, hcopy⟩ := hstores hr
  exact ⟨fun hnone hstate => (hown hnone hstate).congr (fun _ => rfl) hbytes, fun d hd => (hcopy d hd).congr (fun _ => rfl) hbytes⟩

/-- The line in way `j` of the set of an address that the L2 does not hold is given up for the line of the address. -/
structure GivesUp (s t : State) (pa : PAddr) (j : Nat) : Prop where
  frame : t = { s with caches := t.caches, memory := t.memory, raced := t.raced }
  icache : KeepsI s t pa j none
  dcache : KeepsD s t pa j none
  l2 : ∀ i, i ≠ j → t.l2line i = s.l2line i
  unused : (s.l2line j).state = .invalid → ∀ a, t.byteAt a = s.byteAt a
  writesBack : (s.l2line j).state ≠ .invalid → WritesBackL2 s t j
  incoming : ∀ i, i < 32 → t.byteAt (lineBase pa + BitVec.ofNat 40 i).toNat = s.byteAt (lineBase pa + BitVec.ofNat 40 i).toNat

theorem dropL2_givesUp (s : State) (pa : PAddr) (j : Nat) (hmiss : s.l2Hits pa = []) (hj : j / 4 = l2Set pa)
    (hr : s.modifiedL2 j → s.inRam (s.l2lineBase j) 32) : GivesUp s (s.dropL2 j true) pa j := by
  cases hv : (s.l2line j).state.isValid with
  | false =>
    have hdrop : s.dropL2 j true = s := by simp [State.dropL2, hv]
    have hinvalid := (isValid_eq_false_iff _).mp hv
    rw [hdrop]
    exact {
      frame := rfl
      icache := ⟨by simp [State.goneWith, hv], fun _ _ _ => rfl⟩
      dcache := ⟨by simp [State.goneWith, hv], fun _ _ _ => rfl⟩
      l2 := fun _ _ => rfl
      unused := fun _ _ => rfl
      writesBack := fun h => absurd hinvalid h
      incoming := fun _ _ => rfl }
  | true =>
    obtain ⟨hi, hd, hl2⟩ := dropL2_lines s j hv
    obtain ⟨hframe, hclean, hdirty⟩ := dropL2_memory s j hv hr
    have hgone : ∀ copies, s.goneWith pa j copies = copies (s.l2lineBase j) := fun copies => if_pos ⟨hmiss, hv⟩
    refine ⟨hframe, ⟨fun i hgi _ => ?_, fun i hgi _ => ?_⟩, ⟨fun i hgi _ => ?_, fun i hgi _ => ?_⟩, hl2, fun h => ?unused,
      fun _ => writesBackL2_of_latest s _ j hclean hdirty, fun i hlt => ?incoming⟩
    · rw [hgone] at hgi
      rw [hi, if_pos hgi]
    · rw [hgone] at hgi
      rw [hi, if_neg hgi]
    · rw [hgone] at hgi
      rw [hd, if_pos hgi]
    · rw [hgone] at hgi
      rw [hd, if_neg hgi]
    case unused => rw [h] at hv; cases hv
    case incoming =>
      cases hlatest : (s.latestL2 j).state.isDirty with
      | false => exact hclean hlatest _
      | true => exact (hdirty hlatest).2 _ fun m hm => bytes_apart s pa j i m hj hmiss hv hlt hm

/-! ### A fill of the L2 -/

/-- What a fill of an L1 line gets from the L2: way `j` holds the line of the address, and what stood in its way is given up. -/
structure FillsL2 (s t : State) (pa : PAddr) (j : Nat) : Prop where
  frame : t = { s with caches := t.caches, memory := t.memory, raced := t.raced }
  below : FillsBelow s t pa j []
  data : (t.l2line j).data = s.fillData pa
  icache : KeepsI s t pa j none
  dcache : KeepsD s t pa j none

/-- A hit in the L2 changes nothing. -/
theorem fillsL2_hit (s : State) (pa : PAddr) (j : Nat) (h : s.l2Hits pa = [j]) : FillsL2 s s pa j := by
  have hmem : s.l2Hits pa ≠ [] := by simp [h]
  have hgone : ∀ copies, s.goneWith pa j copies = [] := fun copies => if_neg fun hgone => hmem hgone.1
  refine ⟨rfl, ⟨fun _ _ _ => rfl, fun _ _ => rfl, fun hmiss => absurd hmiss hmem⟩, by rw [State.fillData, h], ?_, ?_⟩
  · exact ⟨fun i hi => by simp [hgone] at hi, fun _ _ _ => rfl⟩
  · exact ⟨fun i hi => by simp [hgone] at hi, fun _ _ _ => rfl⟩

/-- A miss in the L2 takes the line from memory, into the way of the line that is given up. -/
theorem fillsL2_miss (s u : State) (pa : PAddr) (j : Nat) (hmiss : s.l2Hits pa = []) (hj : j / 4 = l2Set pa)
    (hm : s.inMemory (lineBase pa) 32) (hu : GivesUp s u pa j) :
    FillsL2 s (u.setL2line j
      { tag := l2Tag pa, state := .filled, data := BitVec.ofNat 256 (u.readBytes (lineBase pa) 32) }) pa j := by
  obtain ⟨hframe, hicache, hdcache, hl2, hunused, hwrites, hincoming⟩ := hu
  have hmu : u.inMemory (lineBase pa) 32 := by rw [hframe]; exact hm
  have hline : BitVec.ofNat 256 (u.readBytes (lineBase pa) 32) = s.memoryLine pa := by
    rw [State.memoryLine, readBytes_memory u _ _ hmu, readBytes_memory s _ _ hm, storedLE_congr (by rw [hframe]) _ _ hincoming]
  rw [hline]
  let l : L2Line := { tag := l2Tag pa, state := .filled, data := s.memoryLine pa }
  have hnew : (u.setL2line j l).l2line j = l := (l2line_setL2line u j j l).trans (if_pos rfl)
  have hold : ∀ i, i ≠ j → (u.setL2line j l).l2line i = s.l2line i := fun i hi =>
    (l2line_setL2line u j i l).trans ((if_neg hi).trans (hl2 i hi))
  have hbytes : ∀ a, (u.setL2line j l).byteAt a = u.byteAt a := fun a => byteAt_congr _ u rfl a
  have hhits : (u.setL2line j l).l2Hits pa = [j] := by
    refine eq_singleton_of_mem (l2Hits_nodup _ pa) fun i => ⟨fun hi => ?_, fun hi => ?_⟩
    · by_contra hne
      have hbefore : i ∈ s.l2Hits pa := mem_l2Hits.mpr (by rw [← hold i hne]; exact mem_l2Hits.mp hi)
      rw [hmiss] at hbefore
      cases hbefore
    · rw [hi, mem_l2Hits, hnew]
      exact ⟨hj, rfl, rfl⟩
  refine ⟨?frame, ⟨fun i _ hi => hold i (hi.resolve_right fun h => h hmiss), fun h a => ?bytes, fun _ => ⟨hj, hhits, ?_, ?_, ?_⟩⟩,
    ?data, hicache, hdcache⟩
  case frame =>
    obtain ⟨caches, memory, raced, hu⟩ : ∃ caches memory raced, u = { s with caches := caches, memory := memory, raced := raced } :=
      ⟨_, _, _, hframe⟩
    rw [hu]
    rfl
  case bytes => rw [hbytes, hunused (h.resolve_left fun h => h hmiss)]
  case data => rw [hnew, State.fillData, hmiss]
  · rw [hnew]
  · rw [hnew]; rfl
  · exact fun hvalid => (hwrites hvalid).congr hbytes

theorem ensureL2_fills (s : State) (pa : PAddr) (fetch : Bool) (h : s.belowReady pa) :
    ∃ j t, s.ensureL2 pa fetch = .ok j t ∧ FillsL2 s t pa j := by
  rcases h with ⟨j, hj⟩ | ⟨hmiss, hm, hr⟩
  · exact ⟨j, s, by simp [State.ensureL2, hj], fillsL2_hit s pa j hj⟩
  · let way := s.drawBelow 4 (.victimL2 fetch)
    have hway : way < 4 := drawBelow_lt s 4 _ (by decide)
    have hset : lineKey (l2Set pa) way / 4 = l2Set pa := lineKey_div _ _ hway
    refine ⟨_, _, ?_, fillsL2_miss s _ pa (lineKey (l2Set pa) way) hmiss hset hm (dropL2_givesUp s pa _ hmiss hset (hr way hway))⟩
    simp [State.ensureL2, hmiss, answers_memory s _ 32 fetch hm, Chk.run, way]

/-! ### A fill of the I-cache -/

theorem FillsBelow.congr {s t t' : State} {pa : PAddr} {j : Nat} {taken : List Nat} (h : FillsBelow s t pa j taken)
    (hl2 : ∀ i, t'.l2line i = t.l2line i) (hbytes : ∀ a, t'.byteAt a = t.byteAt a) : FillsBelow s t' pa j taken := by
  obtain ⟨hothers, hmemory, hfill⟩ := h
  have hhits : t'.l2Hits pa = t.l2Hits pa := by simp only [State.l2Hits, hl2]
  refine ⟨fun i hi hij => (hl2 i).trans (hothers i hi hij), fun hkeep a => (hbytes a).trans (hmemory hkeep a), fun hmiss => ?_⟩
  obtain ⟨hset, hhit, hdata, hclean, hwrites⟩ := hfill hmiss
  exact ⟨hset, hhits.trans hhit, by rw [hl2, hdata], by rw [hl2, hclean], fun hvalid => (hwrites hvalid).congr hbytes⟩

/-- The I-cache line that a miss fills. -/
theorem fillsI_of_fillsL2 {s t : State} {va : Word} {pa : PAddr} {j k : Nat} (hmiss : s.iHits (l1Set va) pa = [])
    (h : FillsL2 s t pa j) (hk : k / 4 = l1Set va) :
    FillsI s (t.setIline k { tag := l1Tag pa, valid := true, data := (t.l2line j).data }) va pa := by
  obtain ⟨-, hbelow, hdata, ⟨higone, hikept⟩, hdcache⟩ := h
  let l : ILine := { tag := l1Tag pa, valid := true, data := (t.l2line j).data }
  have hnew : (t.setIline k l).iline k = l := (iline_setIline t k k l).trans (if_pos rfl)
  have hold : ∀ i, some i ≠ some k → (t.setIline k l).iline i = t.iline i := fun i hi =>
    (iline_setIline t k i l).trans (if_neg fun h => hi (congrArg some h))
  refine ⟨j, k, hbelow.congr (fun i => rfl) (fun a => byteAt_congr _ t rfl a), hk, ?hits, ?data, hdcache, ?gone, ?kept⟩
  case hits =>
    refine eq_singleton_of_mem (iHits_nodup _ _ pa) fun i => ⟨fun hi => ?_, fun hi => ?_⟩
    · by_contra hne
      obtain ⟨hset, hvalid, htag⟩ := mem_iHits.mp hi
      rw [hold i (by simpa using hne)] at hvalid htag
      by_cases hgone : i ∈ s.goneWith pa j s.iCopies
      · rw [higone i hgone (by simp)] at hvalid
        cases hvalid
      · rw [hikept i hgone (by simp)] at hvalid htag
        have hbefore : i ∈ s.iHits (l1Set va) pa := mem_iHits.mpr ⟨hset, hvalid, htag⟩
        rw [hmiss] at hbefore
        cases hbefore
    · rw [hi, mem_iHits, hnew]
      exact ⟨hk, rfl, rfl⟩
  case data => rw [hnew]; exact hdata
  case gone => exact fun i hi hne => by rw [hold i hne]; exact higone i hi (by simp)
  case kept => exact fun i hi hne => by rw [hold i hne]; exact hikept i hi (by simp)

/-! ### The three kinds of fetch -/

/-- A cached fetch of a word that is no race takes the word of its line. -/
theorem fetch_line (s t : State) (pa : PAddr) (k : Nat) (ht : s.translateAligned .fetch s.pc 4 = .pass (pa, 3))
    (hline : s.ensureI s.pc pa = .ok k t) (hd : t.described pa 4 = .pass ()) (hsettled : t.codeSettled (cachedView s.pc) pa) :
    s.fetch = .ok (BitVec.ofNat 32 (lineGet (t.iline k).data (lineOffset pa) 4)) t := by
  simp [fetch_through s pa ht, State.fetchCached, hline, hd, Chk.run, Run.bind, versionsFor_settled t _ pa hsettled]

theorem cachedFetchHits : Claim.CachedFetchHits := by
  unfold Claim.CachedFetchHits
  intro s pa k ht hk hd hsettled
  exact fetch_line s s pa k ht (by simp [State.ensureI, hk]) hd hsettled

theorem cachedFetchFills : Claim.CachedFetchFills := by
  unfold Claim.CachedFetchFills
  intro s pa ht hmiss hbelow hd hsettled
  obtain ⟨j, u, hfill, hu⟩ := ensureL2_fills s pa true hbelow
  let k := lineKey (l1Set s.pc) (u.drawBelow 4 .victimI)
  have hk : k / 4 = l1Set s.pc := lineKey_div _ _ (drawBelow_lt u 4 _ (by decide))
  have hensure : s.ensureI s.pc pa = .ok k (u.setIline k { tag := l1Tag pa, valid := true, data := (u.l2line j).data }) := by
    simp [State.ensureI, hmiss, hfill, Run.bind, k]
  have hfills := fillsI_of_fillsL2 hmiss hu hk
  have hframe := hu.frame
  have hline := iline_setIline u k k { tag := l1Tag pa, valid := true, data := (u.l2line j).data }
  rw [if_pos rfl, hu.data] at hline
  rw [hu.data] at hensure hfills
  obtain ⟨caches, memory, raced, hset⟩ : ∃ caches memory raced,
      u.setIline k { tag := l1Tag pa, valid := true, data := s.fillData pa } =
        { s with caches := caches, memory := memory, raced := raced } := by
    obtain ⟨caches, memory, raced, hmoved⟩ : ∃ caches memory raced,
        u = { s with caches := caches, memory := memory, raced := raced } := ⟨_, _, _, hframe⟩
    rw [hmoved]
    exact ⟨_, memory, raced, rfl⟩
  rw [hset] at hensure hfills hline
  refine ⟨_, ?_, hfills, rfl⟩
  rw [fetch_line s _ pa k ht hensure hd hsettled, hline]

/-- Four bytes of memory as a word. -/
theorem storedLE_word (s : State) (pa : PAddr) :
    BitVec.ofNat 32 (s.storedLE pa 4) = s.storedByte (pa + 3).toNat ++ s.storedByte (pa + 2).toNat ++ s.storedByte (pa + 1).toNat ++
      s.storedByte pa.toNat := by
  have h2 : pa + 1 + 1 = pa + 2 := by rw [BitVec.add_assoc]; rfl
  have h3 : pa + 2 + 1 = pa + 3 := by rw [BitVec.add_assoc]; rfl
  apply BitVec.eq_of_toNat_eq
  simp only [State.storedLE, h2, h3, toNat_append_eq_add, BitVec.toNat_ofNat]
  have := (s.storedByte (pa + 3).toNat).isLt
  have := (s.storedByte (pa + 2).toNat).isLt
  have := (s.storedByte (pa + 1).toNat).isLt
  have := (s.storedByte pa.toNat).isLt
  omega

theorem uncachedFetchReadsRam : Claim.UncachedFetchReadsRam := by
  unfold Claim.UncachedFetchReadsRam
  intro s pa ht hm hu hsettled
  rw [← storedLE_word]
  simp [fetch_past s pa ht, State.fetchUncached, answers_memory s pa 4 true hm, Chk.run, Run.bind, versionsFor_settled s _ pa hsettled,
    uncachedValue_memory s 2 pa 4 hm hu]

/-- Settles O7: each kind of fetch answers what its place holds, and a fill moves lines only. -/
theorem fetchesReadTheWord : Obligations.FetchesReadTheWord := ⟨uncachedFetchReadsRam, cachedFetchHits, cachedFetchFills⟩

end Machine
end Sys2Proof
end

section
/-! PROOF. Decoding what the encoder built (O1). A word of a format is its fields, and the decoder sees a word only through its fields,
so that the map of each primary opcode reads the instruction back from them. -/

namespace Sys2Proof
namespace Laws

/-! ### Words equal to a word built from fields -/

theorem iWord_eq_iff (w : Word32) (op : BitVec 6) (rs rt : BitVec 5) (imm : BitVec 16) :
    iWord op rs rt imm = w ↔
      (opOf w).toNat = op.toNat ∧ (rsOf w).toNat = rs.toNat ∧ (rtOf w).toNat = rt.toNat ∧ immOf w = imm := by
  simp only [BitVec.toNat_inj]
  exact ⟨by rintro rfl; simp, by rintro ⟨rfl, rfl, rfl, rfl⟩; exact iWord_fields w⟩

theorem jWord_eq_iff (w : Word32) (op : BitVec 6) (target : BitVec 26) :
    jWord op target = w ↔ (opOf w).toNat = op.toNat ∧ targetOf w = target := by
  simp only [BitVec.toNat_inj]
  exact ⟨by rintro rfl; simp, by rintro ⟨rfl, rfl⟩; exact jWord_fields w⟩

theorem codeWord_eq_iff (w : Word32) (op : BitVec 6) (code : BitVec 20) (funct : BitVec 6) :
    codeWord op code funct = w ↔
      (opOf w).toNat = op.toNat ∧ codeOf w = code ∧ (functOf w).toNat = funct.toNat := by
  simp only [BitVec.toNat_inj]
  exact ⟨by rintro rfl; simp, by rintro ⟨rfl, rfl, rfl⟩; exact codeWord_fields w⟩

theorem trapWord_eq_iff (w : Word32) (op : BitVec 6) (rs rt : BitVec 5) (code : BitVec 10) (funct : BitVec 6) :
    trapWord op rs rt code funct = w ↔
      (opOf w).toNat = op.toNat ∧ rsOf w = rs ∧ rtOf w = rt ∧ trapCodeOf w = code ∧ (functOf w).toNat = funct.toNat := by
  simp only [BitVec.toNat_inj]
  exact ⟨by rintro rfl; simp, by rintro ⟨rfl, rfl, rfl, rfl, rfl⟩; exact trapWord_fields w⟩

theorem rWord_eq_iff (w : Word32) (op : BitVec 6) (rs rt rd sa : BitVec 5) (funct : BitVec 6) :
    rWord op rs rt rd sa funct = w ↔
      (opOf w).toNat = op.toNat ∧ (rsOf w).toNat = rs.toNat ∧ (rtOf w).toNat = rt.toNat ∧ (rdOf w).toNat = rd.toNat ∧
        (saOf w).toNat = sa.toNat ∧ (functOf w).toNat = funct.toNat := by
  simp only [BitVec.toNat_inj]
  exact ⟨by rintro rfl; simp, by rintro ⟨rfl, rfl, rfl, rfl, rfl, rfl⟩; exact rWord_fields w⟩

/-! ### The map of each primary opcode -/

@[simp] theorem whenZero_nil (other d : Decoded) : whenZero [] other d = d := rfl

@[simp] theorem whenZero_cons (f : BitVec 5) (fs : List (BitVec 5)) (other d : Decoded) :
    whenZero (f :: fs) other d = if f = 0 then whenZero fs other d else other := by
  rw [whenZero]
  exact if_congr (by rw [← BitVec.toNat_inj]; rfl) rfl rfl

theorem decode_special (w : Word32) (hop : (opOf w).toNat = 0) : decode w = decodeSpecial w := by rw [decode, hop]; rfl
theorem decode_regimm (w : Word32) (hop : (opOf w).toNat = 1) : decode w = decodeRegimm w := by rw [decode, hop]; rfl
theorem decode_godson2 (w : Word32) (hop : (opOf w).toNat = 31) : decode w = decodeGodson2 w := by rw [decode, hop]; rfl
theorem decode_cop0 (w : Word32) (hop : (opOf w).toNat = 16) : decode w = decodeCop0 w := by rw [decode, hop]; rfl
theorem decode_cop1 (w : Word32) (hop : (opOf w).toNat = 17) : decode w = decodeCop1 w := by rw [decode, hop]; rfl

/-! ### The map of each format of COP1 -/

theorem decodeCop1_branch (w : Word32) (hrs : (rsOf w).toNat = 8) : decodeCop1 w = decodeBc1 w := by
  rw [decodeCop1, hrs]; rfl
theorem decodeCop1_single (w : Word32) (hrs : (rsOf w).toNat = 16) : decodeCop1 w = decodeCop1Single w := by
  rw [decodeCop1, hrs]; rfl
theorem decodeCop1_double (w : Word32) (hrs : (rsOf w).toNat = 17) : decodeCop1 w = decodeCop1Double w := by
  rw [decodeCop1, hrs]; rfl
theorem decodeCop1_fixed (w : Word32) (hrs : (rsOf w).toNat = 20) : decodeCop1 w = decodeCop1Fixed w := by
  rw [decodeCop1, hrs]; rfl
theorem decodeCop1_long (w : Word32) (hrs : (rsOf w).toNat = 21) : decodeCop1 w = decodeCop1Long w := by
  rw [decodeCop1, hrs]; rfl
theorem decodeCop1_pairedSingle (w : Word32) (hrs : (rsOf w).toNat = 11) : decodeCop1 w = decodeCop1PairedSingle w := by
  rw [decodeCop1, hrs]; rfl

/-! ### Decoding what the encoder built -/

section
variable {d : Decoded} {op : BitVec 6} {rs rt rd sa : BitVec 5} {funct : BitVec 6}

/-- The decoder sees a word only through its fields, so that a word of format I is decoded as every word of its fields is. -/
theorem decode_iWord {imm : BitVec 16} (h : ∀ w, opOf w = op → rsOf w = rs → rtOf w = rt → immOf w = imm → decode w = d) :
    decode (iWord op rs rt imm) = d := h _ (by simp) (by simp) (by simp) (by simp)

theorem decode_jWord {target : BitVec 26} (h : ∀ w, opOf w = op → targetOf w = target → decode w = d) :
    decode (jWord op target) = d := h _ (by simp) (by simp)

theorem decode_codeWord {code : BitVec 20} (h : ∀ w, opOf w = op → codeOf w = code → functOf w = funct → decode w = d) :
    decode (codeWord op code funct) = d := h _ (by simp) (by simp) (by simp)

theorem decode_trapWord {code : BitVec 10}
    (h : ∀ w, opOf w = op → rsOf w = rs → rtOf w = rt → trapCodeOf w = code → functOf w = funct → decode w = d) :
    decode (trapWord op rs rt code funct) = d := h _ (by simp) (by simp) (by simp) (by simp) (by simp)

theorem decode_rWord
    (h : ∀ w, opOf w = op → rsOf w = rs → rtOf w = rt → rdOf w = rd → saOf w = sa → functOf w = funct → decode w = d) :
    decode (rWord op rs rt rd sa funct) = d := h _ (by simp) (by simp) (by simp) (by simp) (by simp) (by simp)

end

/-- Decoding reads every instruction back, well-formed or not: by the map that has it, from the fields of its word. -/
theorem decode_encode (i : Instr) : decode (encode i) = .instr i := by
  cases i with
  | lb | lbu | lh | lhu | lw | lwu | ld | lwl | lwr | ldl | ldr | ll | lld | sb | sh | sw | sd | swl | swr | sdl | sdr | sc | scd
  | addi | daddi | addiu | daddiu | slti | sltiu | andi | ori | xori | lui | beq | bne | blez | bgtz | beql | bnel | blezl | bgtzl
  | cache | lwc1 | ldc1 | swc1 | sdc1 =>
    exact decode_iWord fun w hop hrs hrt himm => by rw [decode, hop, hrs, hrt, himm]; rfl
  | j | jal => exact decode_jWord fun w hop htarget => by rw [decode, hop, htarget]; rfl
  | bltz | bgez | bltzal | bgezal | bltzl | bgezl | bltzall | bgezall | tgei | tgeiu | tlti | tltiu | teqi | tnei =>
    exact decode_iWord fun w hop hrs hrt himm => by
      rw [decode_regimm w (hop ▸ rfl), decodeRegimm, hrs, hrt, himm]; rfl
  | sync | add | dadd | addu | daddu | sub | dsub | subu | dsubu | slt | sltu | and | or | xor | nor
  | mult | dmult | multu | dmultu | div | ddiv | divu | ddivu | mfhi | mthi | mflo | mtlo | jalr | jr
  | sll | srl | sra | sllv | srlv | srav | dsll | dsrl | dsra | dsllv | dsrlv | dsrav | dsll32 | dsrl32 | dsra32 =>
    exact decode_rWord fun w hop hrs hrt hrd hsa hf => by
      rw [decode_special w (hop ▸ rfl), decodeSpecial, hrs, hrt, hrd, hsa, hf]; rfl
  | syscall | break_ =>
    exact decode_codeWord fun w hop hcode hf => by rw [decode_special w (hop ▸ rfl), decodeSpecial, hcode, hf]; rfl
  | tge | tgeu | tlt | tltu | teq | tne =>
    exact decode_trapWord fun w hop hrs hrt hcode hf => by
      rw [decode_special w (hop ▸ rfl), decodeSpecial, hrs, hrt, hcode, hf]; rfl
  | multG | multuG | dmultG | dmultuG | divG | divuG | ddivG | ddivuG | modG | moduG | dmodG | dmoduG =>
    exact decode_rWord fun w hop hrs hrt hrd hsa hf => by
      rw [decode_godson2 w (hop ▸ rfl), decodeGodson2, hrs, hrt, hrd, hsa, hf]; rfl
  | mfc0 | mtc0 | dmfc0 | dmtc0 =>
    exact decode_rWord fun w hop hrs hrt hrd hsa hf => by
      rw [decode_cop0 w (hop ▸ rfl), decodeCop0, hrs, hrt, hrd, hsa, hf]; rfl
  | tlbp | tlbr | tlbwi | tlbwr | eret =>
    exact decode_rWord fun w hop hrs hrt hrd hsa hf => by
      rw [decode_cop0 w (hop ▸ rfl), decodeCop0, decodeCop0Op, hrs, hrt, hrd, hsa, hf]; rfl
  | mfc1 | mtc1 | dmfc1 | dmtc1 | cfc1 | ctc1 =>
    exact decode_rWord fun w hop hrs hrt hrd hsa hf => by
      rw [decode_cop1 w (hop ▸ rfl), decodeCop1, hrs, hrt, hrd, hsa, hf]; rfl
  | bc1f | bc1t | bc1fl | bc1tl =>
    exact decode_iWord fun w hop hrs hrt himm => by
      rw [decode_cop1 w (hop ▸ rfl), decodeCop1_branch w (hrs ▸ rfl), decodeBc1, hrt, himm]; rfl
  | movS | cFS | cUnS | cEqS | cUeqS | cOltS | cUltS | cOleS | cUleS | cSfS | cNgleS | cSeqS | cNglS | cLtS | cNgeS | cLeS | cNgtS
  | addS | subS | mulS | divS | sqrtS | absS | negS | roundLS | truncLS | ceilLS | floorLS | roundWS | truncWS | ceilWS | floorWS
  | cvtDS | cvtWS | cvtLS | maddS | msubS | nmaddS | nmsubS =>
    exact decode_rWord fun w hop hrs hrt hrd hsa hf => by
      rw [decode_cop1 w (hop ▸ rfl), decodeCop1_single w (hrs ▸ rfl), decodeCop1Single, hrt, hrd, hsa, hf]; rfl
  | movD | cFD | cUnD | cEqD | cUeqD | cOltD | cUltD | cOleD | cUleD | cSfD | cNgleD | cSeqD | cNglD | cLtD | cNgeD | cLeD | cNgtD
  | addD | subD | mulD | divD | sqrtD | absD | negD | roundLD | truncLD | ceilLD | floorLD | roundWD | truncWD | ceilWD | floorWD
  | cvtSD | cvtWD | cvtLD | maddD | msubD | nmaddD | nmsubD =>
    exact decode_rWord fun w hop hrs hrt hrd hsa hf => by
      rw [decode_cop1 w (hop ▸ rfl), decodeCop1_double w (hrs ▸ rfl), decodeCop1Double, hrt, hrd, hsa, hf]; rfl
  | movPs | cFPs | cUnPs | cEqPs | cUeqPs | cOltPs | cUltPs | cOlePs | cUlePs | cSfPs | cNglePs | cSeqPs | cNglPs | cLtPs | cNgePs
  | cLePs | cNgtPs | addPs | subPs | mulPs | absPs | negPs | maddPs | msubPs | nmaddPs | nmsubPs =>
    exact decode_rWord fun w hop hrs hrt hrd hsa hf => by
      rw [decode_cop1 w (hop ▸ rfl), decodeCop1_pairedSingle w (hrs ▸ rfl), decodeCop1PairedSingle, hrt, hrd, hsa, hf]; rfl
  | cvtSW | cvtDW =>
    exact decode_rWord fun w hop hrs hrt hrd hsa hf => by
      rw [decode_cop1 w (hop ▸ rfl), decodeCop1_fixed w (hrs ▸ rfl), decodeCop1Fixed, hrt, hrd, hsa, hf]; rfl
  | cvtSL | cvtDL =>
    exact decode_rWord fun w hop hrs hrt hrd hsa hf => by
      rw [decode_cop1 w (hop ▸ rfl), decodeCop1_long w (hrs ▸ rfl), decodeCop1Long, hrt, hrd, hsa, hf]; rfl

/-- Settles O1: an instruction is read back from its word even where it is not well-formed. -/
theorem decodeOfEncode : Obligations.DecodeOfEncode := fun i _ => decode_encode i

end Laws
end Sys2Proof
end

section
/-! PROOF. Encoding what the decoder read (O2): map by map, an instruction that the decoder answers has the word as its encoding. -/

namespace Sys2Proof
namespace Laws

/-- If the answer is an instruction, the word is the encoding of it. -/
def Encodes (w : Word32) (d : Decoded) : Prop := ∀ i, d = .instr i → encode i = w

@[simp] theorem encodes_instr (w : Word32) (i : Instr) : Encodes w (.instr i) ↔ encode i = w :=
  ⟨fun h => h i rfl, fun h _ hi => Decoded.instr.inj hi ▸ h⟩

@[simp] theorem encodes_of_not_instr {w : Word32} {d : Decoded} (h : ∀ i, d ≠ .instr i) : Encodes w d :=
  fun i hi => absurd hi (h i)

@[simp] theorem encodes_ite (w : Word32) (p : Prop) [Decidable p] (d e : Decoded) :
    Encodes w (if p then d else e) ↔ (p → Encodes w d) ∧ (¬p → Encodes w e) := by split <;> simp [*]

theorem encodes_decodeSpecial (w : Word32) (hop : (opOf w).toNat = 0) : Encodes w (decodeSpecial w) := by
  unfold decodeSpecial
  split <;> simp +contextual [encode, rWord_eq_iff, codeWord_eq_iff, trapWord_eq_iff, *]

theorem encodes_decodeRegimm (w : Word32) (hop : (opOf w).toNat = 1) : Encodes w (decodeRegimm w) := by
  unfold decodeRegimm
  split <;> simp [encode, iWord_eq_iff, *]

theorem encodes_decodeGodson2 (w : Word32) (hop : (opOf w).toNat = 31) : Encodes w (decodeGodson2 w) := by
  unfold decodeGodson2
  split <;> simp +contextual [encode, rWord_eq_iff, *]

theorem encodes_decodeCop0Op (w : Word32) (hop : (opOf w).toNat = 16) (hrs : (rsOf w).toNat = 16) (hrt : rtOf w = 0)
    (hrd : rdOf w = 0) (hsa : saOf w = 0) : Encodes w (decodeCop0Op w) := by
  unfold decodeCop0Op
  split <;> simp [encode, rWord_eq_iff, *]

theorem encodes_decodeCop0 (w : Word32) (hop : (opOf w).toNat = 16) : Encodes w (decodeCop0 w) := by
  unfold decodeCop0
  split <;> simp +contextual [encode, rWord_eq_iff, encodes_decodeCop0Op, *]

theorem encodes_decodeBc1 (w : Word32) (hop : (opOf w).toNat = 17) (hrs : (rsOf w).toNat = 8) : Encodes w (decodeBc1 w) := by
  unfold decodeBc1
  split <;> simp [encode, iWord_eq_iff, *]

theorem encodes_decodeCop1Single (w : Word32) (hop : (opOf w).toNat = 17) (hrs : (rsOf w).toNat = 16) :
    Encodes w (decodeCop1Single w) := by
  unfold decodeCop1Single
  split <;> simp +contextual [encode, rWord_eq_iff, *]

theorem encodes_decodeCop1Double (w : Word32) (hop : (opOf w).toNat = 17) (hrs : (rsOf w).toNat = 17) :
    Encodes w (decodeCop1Double w) := by
  unfold decodeCop1Double
  split <;> simp +contextual [encode, rWord_eq_iff, *]

theorem encodes_decodeCop1PairedSingle (w : Word32) (hop : (opOf w).toNat = 17) (hrs : (rsOf w).toNat = 11) :
    Encodes w (decodeCop1PairedSingle w) := by
  unfold decodeCop1PairedSingle
  split <;> simp +contextual [encode, rWord_eq_iff, *]

theorem encodes_decodeCop1Fixed (w : Word32) (hop : (opOf w).toNat = 17) (hrs : (rsOf w).toNat = 20) :
    Encodes w (decodeCop1Fixed w) := by
  unfold decodeCop1Fixed
  split <;> simp +contextual [encode, rWord_eq_iff, *]

theorem encodes_decodeCop1Long (w : Word32) (hop : (opOf w).toNat = 17) (hrs : (rsOf w).toNat = 21) :
    Encodes w (decodeCop1Long w) := by
  unfold decodeCop1Long
  split <;> simp +contextual [encode, rWord_eq_iff, *]

theorem encodes_decodeCop1 (w : Word32) (hop : (opOf w).toNat = 17) : Encodes w (decodeCop1 w) := by
  unfold decodeCop1
  split <;> simp +contextual [encode, rWord_eq_iff, encodes_decodeBc1, encodes_decodeCop1Single, encodes_decodeCop1Double,
    encodes_decodeCop1PairedSingle, encodes_decodeCop1Fixed, encodes_decodeCop1Long, *]

theorem encodes_decode (w : Word32) : Encodes w (decode w) := by
  unfold decode
  split <;> simp +contextual [encode, iWord_eq_iff, jWord_eq_iff, encodes_decodeSpecial, encodes_decodeRegimm,
    encodes_decodeGodson2, encodes_decodeCop0, encodes_decodeCop1, *]

/-- Settles O2: every map answers only instructions whose encoding is the word, since each field of the word is an operand, was
matched, or was found zero. -/
theorem encodeOfDecode : Obligations.EncodeOfDecode := encodes_decode

end Laws
end Sys2Proof
end

section
/-! PROOF. Words without an instruction (O4): the reserved ones, those refused by name, and the coprocessor words, where an answer is an
instruction exactly for the words that the spec lists. -/

namespace Sys2Proof
namespace Laws

theorem append_eq_append_iff {m n : Nat} (a c : BitVec m) (b d : BitVec n) : a ++ b = c ++ d ↔ a = c ∧ b = d := by
  refine ⟨fun h => ⟨?_, ?_⟩, by rintro ⟨rfl, rfl⟩; rfl⟩
  · have hhigh := congrArg (BitVec.extractLsb' n m) h
    simpa [extractLsb'_append_high] using hhigh
  · have hlow := congrArg (BitVec.extractLsb' 0 n) h
    simpa [extractLsb'_append_all] using hlow

end Laws

namespace Machine
open Laws

/-! ### What a decoded word does -/

theorem whenCp0_unusable (s : State) (act : Out) (h : s.cp0Usable = false) : s.whenCp0 act = s.raise (.coprocessorUnusable 0) :=
  if_neg (by simp [h])

theorem whenCp1_unusable (s : State) (act : Out) (h : s.cp1Usable = false) : s.whenCp1 act = s.raise (.coprocessorUnusable 1) :=
  if_neg (by simp [h])

theorem takes_reservedInstruction {w : Word32} (s : State) (h : decode w = .reserved) :
    decode w = .reserved ∧ Takes s (execDecoded (decode w) s) .reservedInstruction := ⟨h, h ▸ rfl⟩

theorem execDecoded_refused {w : Word32} {r : DecodeRefusal} (s : State) (h : decode w = .refused r) :
    decode w = .refused r ∧ execDecoded (decode w) s = .refused (wordRefusal r) := ⟨h, h ▸ rfl⟩

/-! ### Reserved words -/

theorem reservedOpcodesRaise : Claim.ReservedOpcodesRaise := by
  unfold Claim.ReservedOpcodesRaise
  intro w s hop
  refine takes_reservedInstruction s ?_
  simp only [List.mem_cons, List.not_mem_nil, or_false] at hop
  casesm* _ ∨ _ <;> (rw [decode, ‹(opOf w).toNat = _›]; rfl)

theorem decodeSpecial_reserved (w : Word32) (hf : (functOf w).toNat ∈ [1, 5, 14, 21, 40, 41, 53, 55, 57, 61]) :
    decodeSpecial w = .reserved := by
  simp only [List.mem_cons, List.not_mem_nil, or_false] at hf
  casesm* _ ∨ _ <;> (rw [decodeSpecial, ‹(functOf w).toNat = _›]; rfl)

theorem decodeRegimm_reserved (w : Word32)
    (hrt : (rtOf w).toNat ∈ [4, 5, 6, 7, 13, 15, 20, 21, 22, 23, 24, 25, 26, 27, 28, 29, 30, 31]) :
    decodeRegimm w = .reserved := by
  simp only [List.mem_cons, List.not_mem_nil, or_false] at hrt
  casesm* _ ∨ _ <;> (rw [decodeRegimm, ‹(rtOf w).toNat = _›]; rfl)

theorem reservedFunctionsRaise : Claim.ReservedFunctionsRaise := by
  unfold Claim.ReservedFunctionsRaise
  rintro w s (⟨hop, hf⟩ | ⟨hop, hrt⟩)
  · exact takes_reservedInstruction s ((decode_special w hop).trans (decodeSpecial_reserved w hf))
  · exact takes_reservedInstruction s ((decode_regimm w hop).trans (decodeRegimm_reserved w hrt))

/-! ### Words refused by name -/

theorem whenZero_refused {fields : List (BitVec 5)} {r : DecodeRefusal} {i : Instr} (h : ∃ f ∈ fields, f ≠ 0) :
    whenZero fields (.refused r) (.instr i) = .refused r := by
  induction fields with
  | nil => simp at h
  | cons f fs ih =>
    rw [whenZero_cons]
    split
    · next hf => exact ih (by simpa [hf] using h)
    · rfl

/-- MOVZ, MOVN and the fields of a SPECIAL word that must be zero, by function (30_encoding.md R211). -/
theorem decodeSpecial_refused (w : Word32) :
    ((functOf w).toNat ∈ [10, 11] → decodeSpecial w = .refused .conditionalMove) ∧
    ((functOf w).toNat ∈ [0, 2, 3, 56, 58, 59, 60, 62, 63] → rsOf w ≠ 0 → decodeSpecial w = .refused .mustBeZero) ∧
    ((functOf w).toNat ∈ [4, 6, 7, 20, 22, 23, 32, 33, 34, 35, 36, 37, 38, 39, 42, 43, 44, 45, 46, 47] → saOf w ≠ 0 →
      decodeSpecial w = .refused .mustBeZero) ∧
    ((functOf w).toNat ∈ [24, 25, 26, 27, 28, 29, 30, 31] → rdOf w ≠ 0 ∨ saOf w ≠ 0 →
      decodeSpecial w = .refused .mustBeZero) ∧
    ((functOf w).toNat ∈ [16, 18] → rsOf w ≠ 0 ∨ rtOf w ≠ 0 ∨ saOf w ≠ 0 → decodeSpecial w = .refused .mustBeZero) ∧
    ((functOf w).toNat ∈ [8, 17, 19] → rtOf w ≠ 0 ∨ rdOf w ≠ 0 ∨ saOf w ≠ 0 → decodeSpecial w = .refused .mustBeZero) ∧
    ((functOf w).toNat ∈ [9] → rtOf w ≠ 0 ∨ saOf w ≠ 0 → decodeSpecial w = .refused .mustBeZero) ∧
    ((functOf w).toNat ∈ [15] → rsOf w ≠ 0 ∨ rtOf w ≠ 0 ∨ rdOf w ≠ 0 ∨ saOf w ≠ 0 →
      decodeSpecial w = .refused .mustBeZero) := by
  refine ⟨fun hf => ?_, fun hf h => ?_, fun hf h => ?_, fun hf h => ?_, fun hf h => ?_, fun hf h => ?_, fun hf h => ?_,
    fun hf h => ?_⟩
  all_goals simp only [List.mem_cons, List.not_mem_nil, or_false] at hf
  · casesm* _ ∨ _ <;> (rw [decodeSpecial, ‹(functOf w).toNat = _›]; rfl)
  · replace h : ∃ f ∈ [rsOf w], f ≠ 0 := by simpa using h
    casesm* _ ∨ _ <;> (rw [decodeSpecial, ‹(functOf w).toNat = _›]; exact whenZero_refused h)
  · replace h : ∃ f ∈ [saOf w], f ≠ 0 := by simpa using h
    casesm* _ ∨ _ <;> (rw [decodeSpecial, ‹(functOf w).toNat = _›]; exact whenZero_refused h)
  · replace h : ∃ f ∈ [rdOf w, saOf w], f ≠ 0 := by simpa using h
    casesm* _ ∨ _ <;> (rw [decodeSpecial, ‹(functOf w).toNat = _›]; exact whenZero_refused h)
  · replace h : ∃ f ∈ [rsOf w, rtOf w, saOf w], f ≠ 0 := by simpa using h
    casesm* _ ∨ _ <;> (rw [decodeSpecial, ‹(functOf w).toNat = _›]; exact whenZero_refused h)
  · replace h : ∃ f ∈ [rtOf w, rdOf w, saOf w], f ≠ 0 := by simpa using h
    casesm* _ ∨ _ <;> (rw [decodeSpecial, ‹(functOf w).toNat = _›]; exact whenZero_refused h)
  · replace h : ∃ f ∈ [rtOf w, saOf w], f ≠ 0 := by simpa using h
    rw [decodeSpecial, hf]
    exact whenZero_refused h
  · replace h : ∃ f ∈ [rsOf w, rtOf w, rdOf w, saOf w], f ≠ 0 := by simpa using h
    rw [decodeSpecial, hf]
    exact whenZero_refused h

theorem decodeGodson2_mustBeZero (w : Word32) (hf : (functOf w).toNat ∈ [24, 25, 26, 27, 28, 29, 30, 31, 34, 35, 38, 39])
    (hsa : saOf w ≠ 0) : decodeGodson2 w = .refused .mustBeZero := by
  unfold decodeGodson2
  split <;> simp_all

theorem decodeGodson2_unlisted (w : Word32) (hf : (functOf w).toNat ∉ [24, 25, 26, 27, 28, 29, 30, 31, 34, 35, 38, 39]) :
    decodeGodson2 w = .refused .godson2Function := by
  unfold decodeGodson2
  split <;> simp_all

theorem wordsRefusedByName : Claim.WordsRefusedByName := by
  unfold Claim.WordsRefusedByName
  intro w s
  refine ⟨fun hop => ?special, fun hop => ?godson2, fun hop hrt => ?branch, fun hop hrs => ?lui⟩
  case special =>
    have sends := fun {r} h => execDecoded_refused (r := r) s ((decode_special w hop).trans h)
    obtain ⟨hmove, hshift, hsa, hmult, hfrom, hto, hjalr, hsync⟩ := decodeSpecial_refused w
    exact ⟨fun hf => sends (hmove hf), fun hf h => sends (hshift hf h), fun hf h => sends (hsa hf h),
      fun hf h => sends (hmult hf h), fun hf h => sends (hfrom hf h), fun hf h => sends (hto hf h),
      fun hf h => sends (hjalr (List.mem_singleton.mpr hf) h),
      fun hf h => sends (hsync (List.mem_singleton.mpr hf) h)⟩
  case godson2 =>
    exact ⟨fun hf hsa => execDecoded_refused s ((decode_godson2 w hop).trans (decodeGodson2_mustBeZero w hf hsa)),
      fun hf => execDecoded_refused s ((decode_godson2 w hop).trans (decodeGodson2_unlisted w hf))⟩
  case branch =>
    refine execDecoded_refused s ?_
    simp only [List.mem_cons, List.not_mem_nil, or_false] at hop
    rcases hop with hop | hop | hop | hop <;> simp_all [decode]
  case lui => exact execDecoded_refused s (by simp_all [decode])

/-! ### Coprocessor words -/

/-- A map answers an instruction for a listed word, and `other` for one that is not listed. -/
def InstrIff (listed : Prop) (other d : Decoded) : Prop := (listed → ∃ i, d = .instr i) ∧ (¬listed → d = other)

@[simp] theorem instrIff_instr {other : Decoded} (ho : ∀ i, other ≠ .instr i) (listed : Prop) (i : Instr) :
    InstrIff listed other (.instr i) ↔ listed := by
  simp [InstrIff, (ho i).symm]

@[simp] theorem instrIff_other {other : Decoded} (ho : ∀ i, other ≠ .instr i) (listed : Prop) :
    InstrIff listed other other ↔ ¬listed := by
  simp [InstrIff, ho]

@[simp] theorem instrIff_ite (listed : Prop) (other d e : Decoded) (p : Prop) [Decidable p] :
    InstrIff listed other (if p then d else e) ↔ (p → InstrIff listed other d) ∧ (¬p → InstrIff listed other e) := by
  split <;> simp [*]

/-- Bits 10:0 are zero. -/
theorem low11_eq_zero_iff (w : Word32) : w.extractLsb' 0 11 = 0 ↔ saOf w = 0 ∧ (functOf w).toNat = 0 := by
  have hsplit : saOf w ++ functOf w = w.extractLsb' 0 11 := extractLsb'_split w 0 5 6
  have hzero : (0 : BitVec 11) = 0#5 ++ 0#6 := rfl
  rw [← hsplit, hzero, append_eq_append_iff, ← BitVec.toNat_inj (x := functOf w)]
  rfl

/-- Bits 25:6 hold the CO bit alone. -/
theorem co_eq_iff (w : Word32) :
    w.extractLsb' 6 20 = 0x80000 ↔ (rsOf w).toNat = 16 ∧ rtOf w = 0 ∧ rdOf w = 0 ∧ saOf w = 0 := by
  have hsplit : ((rsOf w ++ rtOf w) ++ rdOf w) ++ saOf w = w.extractLsb' 6 20 := by
    have h1 : rsOf w ++ rtOf w = w.extractLsb' 16 10 := extractLsb'_split w 16 5 5
    have h2 : w.extractLsb' 16 10 ++ rdOf w = w.extractLsb' 11 15 := extractLsb'_split w 11 10 5
    rw [h1, h2]
    exact extractLsb'_split w 6 15 5
  have hco : (0x80000 : BitVec 20) = ((16#5 ++ 0#5) ++ 0#5) ++ 0#5 := rfl
  rw [← hsplit, hco, append_eq_append_iff, append_eq_append_iff, append_eq_append_iff, ← BitVec.toNat_inj (x := rsOf w)]
  exact ⟨fun ⟨⟨⟨a, b⟩, c⟩, d⟩ => ⟨a, b, c, d⟩, fun ⟨a, b, c, d⟩ => ⟨⟨⟨a, b⟩, c⟩, d⟩⟩

theorem funct_ge_48_iff (w : Word32) :
    48 ≤ (functOf w).toNat ↔ (functOf w).toNat ∈ [48, 49, 50, 51, 52, 53, 54, 55, 56, 57, 58, 59, 60, 61, 62, 63] := by
  have := (functOf w).isLt
  simp only [List.mem_cons, List.not_mem_nil, or_false]
  omega

/-! ### The listed words of formats S, D and PS: operations of three registers, of two, compares (30_encoding.md R222, R223) -/

theorem listedCop1_single (w : Word32) (hrs : (rsOf w).toNat = 16) :
    Claim.listedCop1 w ↔
      (functOf w).toNat ∈ [0, 1, 2, 3, 24, 25, 26, 27] ∨
      rtOf w = 0 ∧ (functOf w).toNat ∈ [4, 5, 6, 7, 8, 9, 10, 11, 12, 13, 14, 15, 36, 37, 33] ∨
      saOf w = 0 ∧ (functOf w).toNat ∈ [48, 49, 50, 51, 52, 53, 54, 55, 56, 57, 58, 59, 60, 61, 62, 63] := by
  simp [Claim.listedCop1, hrs, funct_ge_48_iff, or_assoc]

theorem listedCop1_double (w : Word32) (hrs : (rsOf w).toNat = 17) :
    Claim.listedCop1 w ↔
      (functOf w).toNat ∈ [0, 1, 2, 3, 24, 25, 26, 27] ∨
      rtOf w = 0 ∧ (functOf w).toNat ∈ [4, 5, 6, 7, 8, 9, 10, 11, 12, 13, 14, 15, 36, 37, 32] ∨
      saOf w = 0 ∧ (functOf w).toNat ∈ [48, 49, 50, 51, 52, 53, 54, 55, 56, 57, 58, 59, 60, 61, 62, 63] := by
  simp [Claim.listedCop1, hrs, funct_ge_48_iff, or_assoc]

theorem listedCop1_pairedSingle (w : Word32) (hrs : (rsOf w).toNat = 11) :
    Claim.listedCop1 w ↔
      (functOf w).toNat ∈ [0, 1, 2, 24, 25, 26, 27] ∨
      rtOf w = 0 ∧ (functOf w).toNat ∈ [5, 6, 7] ∨
      saOf w = 0 ∧ (functOf w).toNat ∈ [48, 49, 50, 51, 52, 53, 54, 55, 56, 57, 58, 59, 60, 61, 62, 63] := by
  simp [Claim.listedCop1, hrs, funct_ge_48_iff, or_assoc]

/-! ### The maps of the coprocessors -/

theorem decodeCop0Op_instrIff (w : Word32) :
    InstrIff ((functOf w).toNat ∈ [1, 2, 6, 8, 24]) .cop0Other (decodeCop0Op w) := by
  unfold decodeCop0Op
  split <;> simp_all

theorem decodeCop0_instrIff (w : Word32) : InstrIff (Claim.listedCop0 w) .cop0Other (decodeCop0 w) := by
  have hop := decodeCop0Op_instrIff w
  simp only [Claim.listedCop0, low11_eq_zero_iff, co_eq_iff]
  unfold decodeCop0
  split <;> simp_all +contextual

theorem decodeCop1Single_instrIff (w : Word32) (hrs : (rsOf w).toNat = 16) :
    InstrIff (Claim.listedCop1 w) .cop1Other (decodeCop1Single w) := by
  rw [listedCop1_single w hrs]
  unfold decodeCop1Single
  split <;> simp_all +contextual

theorem decodeCop1Double_instrIff (w : Word32) (hrs : (rsOf w).toNat = 17) :
    InstrIff (Claim.listedCop1 w) .cop1Other (decodeCop1Double w) := by
  rw [listedCop1_double w hrs]
  unfold decodeCop1Double
  split <;> simp_all +contextual

theorem decodeCop1PairedSingle_instrIff (w : Word32) (hrs : (rsOf w).toNat = 11) :
    InstrIff (Claim.listedCop1 w) .cop1Other (decodeCop1PairedSingle w) := by
  rw [listedCop1_pairedSingle w hrs]
  unfold decodeCop1PairedSingle
  split <;> simp_all +contextual

theorem decodeCop1Fixed_instrIff (w : Word32) (hrs : (rsOf w).toNat = 20) :
    InstrIff (Claim.listedCop1 w) .cop1Other (decodeCop1Fixed w) := by
  simp only [Claim.listedCop1, hrs]
  unfold decodeCop1Fixed
  split <;> simp_all +contextual

theorem decodeCop1Long_instrIff (w : Word32) (hrs : (rsOf w).toNat = 21) :
    InstrIff (Claim.listedCop1 w) .cop1Other (decodeCop1Long w) := by
  simp only [Claim.listedCop1, hrs]
  unfold decodeCop1Long
  split <;> simp_all +contextual

theorem decodeBc1_instrIff (w : Word32) (hrs : (rsOf w).toNat = 8) :
    InstrIff (Claim.listedCop1 w) .cop1Other (decodeBc1 w) := by
  have hlt : (rtOf w).toNat < 4 ↔ (rtOf w).toNat ∈ [0, 1, 2, 3] := by
    simp only [List.mem_cons, List.not_mem_nil, or_false]
    omega
  simp only [Claim.listedCop1, hrs, hlt]
  unfold decodeBc1
  split <;> simp_all

/-- The moves, and bits 25:21 that no row of the map has. -/
theorem decodeCop1_move_instrIff (w : Word32) (hrs : (rsOf w).toNat ∉ [8, 11, 16, 17, 20, 21]) :
    InstrIff (Claim.listedCop1 w) .cop1Other (decodeCop1 w) := by
  simp only [Claim.listedCop1, low11_eq_zero_iff]
  unfold decodeCop1
  split <;> simp_all +contextual

theorem decodeCop1_instrIff (w : Word32) : InstrIff (Claim.listedCop1 w) .cop1Other (decodeCop1 w) := by
  by_cases hrs : (rsOf w).toNat ∈ [8, 11, 16, 17, 20, 21]
  · simp only [List.mem_cons, List.not_mem_nil, or_false] at hrs
    rcases hrs with hrs | hrs | hrs | hrs | hrs | hrs
    · exact decodeCop1_branch w hrs ▸ decodeBc1_instrIff w hrs
    · exact decodeCop1_pairedSingle w hrs ▸ decodeCop1PairedSingle_instrIff w hrs
    · exact decodeCop1_single w hrs ▸ decodeCop1Single_instrIff w hrs
    · exact decodeCop1_double w hrs ▸ decodeCop1Double_instrIff w hrs
    · exact decodeCop1_fixed w hrs ▸ decodeCop1Fixed_instrIff w hrs
    · exact decodeCop1_long w hrs ▸ decodeCop1Long_instrIff w hrs
  · exact decodeCop1_move_instrIff w hrs

theorem unlistedCoprocessorWords : Claim.UnlistedCoprocessorWords := by
  unfold Claim.UnlistedCoprocessorWords
  refine fun w s => ⟨fun hop => ?_, fun hop => ?_⟩
  · obtain ⟨hlisted, hother⟩ := decodeCop0_instrIff w
    rw [decode_cop0 w hop]
    refine ⟨hlisted, fun hnot => ?_⟩
    rw [hother hnot]
    exact ⟨whenCp0_usable s _, whenCp0_unusable s _⟩
  · obtain ⟨hlisted, hother⟩ := decodeCop1_instrIff w
    rw [decode_cop1 w hop]
    refine ⟨hlisted, fun hnot => ?_⟩
    rw [hother hnot]
    exact ⟨whenCp1_usable s _, whenCp1_unusable s _⟩

/-- Settles O4: what each map answers for the word, and what execution does with that answer. -/
theorem reservedAndRefusedWords : Obligations.ReservedAndRefusedWords :=
  ⟨reservedOpcodesRaise, reservedFunctionsRaise, wordsRefusedByName, unlistedCoprocessorWords⟩

end Machine
end Sys2Proof
end

section
/-! PROOF. Loads past the caches and hits of the data cache (O35, O37), stores (O36, O37), and the conditional stores (O39). A load
is settled by the datum that its access answers, so what an instruction makes of a datum is proved once for both places that it may
come from. -/

namespace Sys2Proof
namespace Machine

/-! ### Instructions from the answer of their access -/

section
variable {s : State} {va d : Word} {n : Nat}

theorem loadTo_gprResult (rt : RegNum) (value : Word → Word) (hl : s.leavesSegment = false) (h : s.loadVirt va n = .ok d s) :
    GprResult s (s.loadTo rt va n value) rt (value d) := by
  rw [State.loadTo, h]
  exact writeGpr_result s rt _ hl

theorem loadPartTo_gprResult {size skip : Nat} (rt : RegNum) (value : Word → Word) (hl : s.leavesSegment = false)
    (h : s.loadPart va size skip n = .ok d s) : GprResult s (s.loadPartTo rt va size skip n value) rt (value d) := by
  rw [State.loadPartTo, h]
  exact writeGpr_result s rt _ hl

end

theorem sext32_low32 (v : Word) : sext32 (low32 v) = (v.setWidth 32).signExtend 64 := by
  rw [sext32, low32_eq_ofNat, BitVec.ofNat_toNat]

section
variable {s : State} {d : Word} (rt base : RegNum) (offset : BitVec 16)

theorem loadBytes_results (hl : s.leavesSegment = false) (h : s.loadVirt (s.address base offset) 1 = .ok d s) :
    GprResult s (exec (.lb rt offset base) s) rt ((d.setWidth 8).signExtend 64) ∧
      GprResult s (exec (.lbu rt offset base) s) rt d :=
  ⟨loadTo_gprResult rt (fun v => (v.setWidth 8).signExtend 64) hl h, loadTo_gprResult rt (fun v => v) hl h⟩

theorem loadHalves_results (hl : s.leavesSegment = false) (h : s.loadVirt (s.address base offset) 2 = .ok d s) :
    GprResult s (exec (.lh rt offset base) s) rt ((d.setWidth 16).signExtend 64) ∧
      GprResult s (exec (.lhu rt offset base) s) rt d :=
  ⟨loadTo_gprResult rt (fun v => (v.setWidth 16).signExtend 64) hl h, loadTo_gprResult rt (fun v => v) hl h⟩

theorem loadWords_results (hl : s.leavesSegment = false) (h : s.loadVirt (s.address base offset) 4 = .ok d s) :
    GprResult s (exec (.lw rt offset base) s) rt ((d.setWidth 32).signExtend 64) ∧
      GprResult s (exec (.lwu rt offset base) s) rt d :=
  ⟨sext32_low32 d ▸ loadTo_gprResult rt (fun v => sext32 (low32 v)) hl h, loadTo_gprResult rt (fun v => v) hl h⟩

theorem loadDouble_result (hl : s.leavesSegment = false) (h : s.loadVirt (s.address base offset) 8 = .ok d s) :
    GprResult s (exec (.ld rt offset base) s) rt d :=
  loadTo_gprResult rt (fun v => v) hl h

end

/-! ### The little-endian datum (20_memory.md R131) -/

theorem storedLE_append {w : Nat} (s : State) (pa : PAddr) (n : Nat) {q : PAddr} {d : BitVec w} (hq : pa + 1 = q)
    (h : s.storedLE q n = d.toNat) : s.storedLE pa (n + 1) = (d ++ s.storedByte pa.toNat).toNat := by
  rw [State.storedLE, hq, h, toNat_append_eq_add]
  omega

theorem storedLE_one (s : State) (pa : PAddr) : s.storedLE pa 1 = (s.storedByte pa.toNat).toNat := by simp [State.storedLE]

theorem ramDatum_byte (s : State) (pa : PAddr) : s.ramDatum pa 1 = (s.storedByte pa.toNat).setWidth 64 := by
  rw [State.ramDatum, storedLE_one, BitVec.ofNat_toNat]

theorem ramDatum_half (s : State) (pa : PAddr) :
    s.ramDatum pa 2 = (s.storedByte (pa + 1).toNat ++ s.storedByte pa.toNat).setWidth 64 := by
  rw [State.ramDatum, storedLE_append s pa 1 rfl (storedLE_one s (pa + 1)), BitVec.ofNat_toNat]

theorem ramDatum_word (s : State) (pa : PAddr) :
    s.ramDatum pa 4 = (s.storedByte (pa + 3).toNat ++ s.storedByte (pa + 2).toNat ++ s.storedByte (pa + 1).toNat ++
      s.storedByte pa.toNat).setWidth 64 := by
  have hnext : ∀ i j : PAddr, i + 1 = j → pa + i + 1 = pa + j := fun i j h => by rw [BitVec.add_assoc, h]
  have h2 := storedLE_append s (pa + 2) 1 (hnext 2 3 rfl) (storedLE_one s (pa + 3))
  have h1 := storedLE_append s (pa + 1) 2 (hnext 1 2 rfl) h2
  rw [State.ramDatum, storedLE_append s pa 3 rfl h1, BitVec.ofNat_toNat]

theorem ramDatum_double (s : State) (pa : PAddr) :
    s.ramDatum pa 8 = s.storedByte (pa + 7).toNat ++ s.storedByte (pa + 6).toNat ++ s.storedByte (pa + 5).toNat ++
      s.storedByte (pa + 4).toNat ++ s.storedByte (pa + 3).toNat ++ s.storedByte (pa + 2).toNat ++ s.storedByte (pa + 1).toNat ++
      s.storedByte pa.toNat := by
  have hnext : ∀ i j : PAddr, i + 1 = j → pa + i + 1 = pa + j := fun i j h => by rw [BitVec.add_assoc, h]
  have h6 := storedLE_append s (pa + 6) 1 (hnext 6 7 rfl) (storedLE_one s (pa + 7))
  have h5 := storedLE_append s (pa + 5) 2 (hnext 5 6 rfl) h6
  have h4 := storedLE_append s (pa + 4) 3 (hnext 4 5 rfl) h5
  have h3 := storedLE_append s (pa + 3) 4 (hnext 3 4 rfl) h4
  have h2 := storedLE_append s (pa + 2) 5 (hnext 2 3 rfl) h3
  have h1 := storedLE_append s (pa + 1) 6 (hnext 1 2 rfl) h2
  rw [State.ramDatum, storedLE_append s pa 7 rfl h1, BitVec.ofNat_toNat]
  exact BitVec.setWidth_eq _

theorem uncachedLoadResults : Claim.UncachedLoadResults := by
  unfold Claim.UncachedLoadResults
  intro s rt base offset pa hl va
  refine ⟨fun h => ?bytes, fun h => ?halves, fun h => ?words, fun h => ?double⟩
  case bytes =>
    have hresults := loadBytes_results rt base offset hl (loadVirt_uncached s va 1 pa h)
    rwa [ramDatum_byte, BitVec.setWidth_setWidth_of_le _ (by decide), BitVec.setWidth_eq] at hresults
  case halves =>
    have hresults := loadHalves_results rt base offset hl (loadVirt_uncached s va 2 pa h)
    rwa [ramDatum_half, BitVec.setWidth_setWidth_of_le _ (by decide), BitVec.setWidth_eq] at hresults
  case words =>
    have hresults := loadWords_results rt base offset hl (loadVirt_uncached s va 4 pa h)
    rwa [ramDatum_word, BitVec.setWidth_setWidth_of_le _ (by decide), BitVec.setWidth_eq] at hresults
  case double =>
    rw [← ramDatum_double]
    exact loadDouble_result rt base offset hl (loadVirt_uncached s va 8 pa h)

/-! ### Loads that hit, and linked loads -/

/-- A linked load that hits records the address with its result (20_memory.md R179). -/
theorem loadLinked_cached {s : State} {va : Word} {n k : Nat} {pa : PAddr} (rt : RegNum) (value : Word → Word)
    (hl : s.leavesSegment = false) (h : CachedLoad s va n pa k) :
    s.loadLinked rt va n value = .next ((s.setLink pa).setGpr rt (value (s.lineDatum k pa n))).stepped := by
  have hread := memRead_cached s va pa n k h.notGathered h.described h.hit h.notRaced
  have hloaded : s.loadLinked rt va n value = ((s.setLink pa).setGpr rt (value (s.lineDatum k pa n))).advance := by
    simp only [State.loadLinked, prepare_pass s .load va n (pa, 3) h.translates h.notWatched, Run.bind, ne_eq, not_true_eq_false,
      if_false, hread, Run.finish, State.lineDatum]
  rw [hloaded]
  exact advance_next _ ((setGpr_leavesSegment _ rt _).trans hl)

theorem cachedLoadResults : Claim.CachedLoadResults := by
  unfold Claim.CachedLoadResults
  intro s rt base offset pa k hl va datum linked
  have hlinked : ∀ v : Word, linked (.next ((s.setLink pa).setGpr rt v).stepped) v := fun v =>
    ⟨_, rfl, ⟨by simp [State.nextPc], rfl⟩, by simp, fun r hr => setGpr_gpr_ne (s.setLink pa) rt r v hr, by simp [State.setLink],
      by simp [State.setLink], by simp [State.setLink], fun a => by simp [State.byteAt], by rw [setGpr_eta]; rfl⟩
  refine ⟨fun h => loadBytes_results rt base offset hl (loadVirt_cached s va 1 pa k h),
    fun h => loadHalves_results rt base offset hl (loadVirt_cached s va 2 pa k h), fun h => ?words, fun h => ?doubles⟩
  case words =>
    obtain ⟨hlw, hlwu⟩ := loadWords_results rt base offset hl (loadVirt_cached s va 4 pa k h)
    have hll : exec (.ll rt offset base) s = _ := loadLinked_cached rt (fun v => sext32 (low32 v)) hl h
    rw [hll, sext32_low32]
    exact ⟨hlw, hlwu, hlinked _⟩
  case doubles =>
    have hlld : exec (.lld rt offset base) s = _ := loadLinked_cached rt (fun v => v) hl h
    rw [hlld]
    exact ⟨loadDouble_result rt base offset hl (loadVirt_cached s va 8 pa k h), hlinked _⟩

/-! ### The bytes of a merge (40_loadstore.md R248 to R251) -/

/-- Bytes loaded from place `c` upwards, over the low bytes of a register. -/
theorem byte_aboveLow {w : Nat} (x old : BitVec w) (c j : Nat) (hj : 8 * j + 8 ≤ w) :
    ((x <<< (8 * c)) ||| (old &&& BitVec.ofNat w (2 ^ (8 * c) - 1))).extractLsb' (8 * j) 8 =
      if c ≤ j then x.extractLsb' (8 * (j - c)) 8 else old.extractLsb' (8 * j) 8 := by
  apply BitVec.eq_of_getLsbD_eq
  intro i hi
  have hw : 8 * j + i < w := by omega
  have hbit : (((x <<< (8 * c)) ||| (old &&& BitVec.ofNat w (2 ^ (8 * c) - 1))).extractLsb' (8 * j) 8).getLsbD i =
      (!decide (8 * j + i < 8 * c) && x.getLsbD (8 * j + i - 8 * c) || old.getLsbD (8 * j + i) && decide (8 * j + i < 8 * c)) := by
    simp only [BitVec.getLsbD_extractLsb', BitVec.getLsbD_or, BitVec.getLsbD_and, BitVec.getLsbD_shiftLeft, BitVec.getLsbD_ofNat,
      Nat.testBit_two_pow_sub_one, hi, hw, decide_true, Bool.true_and]
  rw [hbit]
  split
  · next hc =>
    have hlow : ¬8 * j + i < 8 * c := by omega
    have hplace : 8 * j + i - 8 * c = 8 * (j - c) + i := by omega
    simp [hi, hlow, hplace]
  · next hc =>
    have hlow : 8 * j + i < 8 * c := by omega
    simp [hi, hlow]

/-- Bytes loaded from place 0 upwards, under the high bytes of a register. -/
theorem byte_belowHigh {w : Nat} (x old : BitVec w) (b j m : Nat) (hm : w = 8 * m) (hj : j < m) :
    ((x >>> (8 * b)) ||| (old &&& ~~~(BitVec.allOnes w >>> (8 * b)))).extractLsb' (8 * j) 8 =
      if j + b < m then x.extractLsb' (8 * (j + b)) 8 else old.extractLsb' (8 * j) 8 := by
  apply BitVec.eq_of_getLsbD_eq
  intro i hi
  have hw : 8 * j + i < w := by omega
  have hplace : 8 * b + (8 * j + i) = 8 * (j + b) + i := by omega
  have hbit : (((x >>> (8 * b)) ||| (old &&& ~~~(BitVec.allOnes w >>> (8 * b)))).extractLsb' (8 * j) 8).getLsbD i =
      (x.getLsbD (8 * (j + b) + i) || old.getLsbD (8 * j + i) && !decide (8 * (j + b) + i < w)) := by
    simp only [BitVec.getLsbD_extractLsb', BitVec.getLsbD_or, BitVec.getLsbD_and, BitVec.getLsbD_not, BitVec.getLsbD_ushiftRight,
      BitVec.getLsbD_allOnes, hi, hw, hplace, decide_true, Bool.true_and]
  rw [hbit]
  split
  · next hb =>
    have hhigh : 8 * (j + b) + i < w := by omega
    simp [hi, hhigh]
  · next hb =>
    have hhigh : ¬8 * (j + b) + i < w := by omega
    simp [hi, hhigh, BitVec.getLsbD_of_ge _ _ (not_lt.mp hhigh)]

/-- The low bytes of a doubleword are those of its low word. -/
theorem byte_low32 (v : Word) (j : Nat) (hj : j < 4) : (low32 v).extractLsb' (8 * j) 8 = v.extractLsb' (8 * j) 8 := by
  apply BitVec.eq_of_getLsbD_eq
  intro i hi
  have hw : 8 * j + i < 32 := by omega
  simp [low32, hi, hw]

theorem getLsbD_sext32 (t : Word32) (i : Nat) (hi : i < 32) : (sext32 t).getLsbD i = t.getLsbD i := by
  have hd : i < 64 := by omega
  simp only [sext32, BitVec.getLsbD_signExtend, hi, hd, decide_true, Bool.true_and, if_true]

theorem byte_sext32 (t : Word32) (j : Nat) (hj : j < 4) : (sext32 t).extractLsb' (8 * j) 8 = t.extractLsb' (8 * j) 8 := by
  apply BitVec.eq_of_getLsbD_eq
  intro i hi
  rw [BitVec.getLsbD_extractLsb', BitVec.getLsbD_extractLsb', getLsbD_sext32 t _ (by omega)]

theorem isWord_sext32 (t : Word32) : isWord (sext32 t) = true := by
  have hlow : low32 (sext32 t) = t := by
    apply BitVec.eq_of_getLsbD_eq
    intro i hi
    rw [low32, BitVec.getLsbD_extractLsb', Nat.zero_add, getLsbD_sext32 t i hi, decide_eq_true hi, Bool.true_and]
  simp [isWord, hlow]

/-- A datum that is read from place `skip` of its word or doubleword on lies there. -/
theorem byte_skipped (x skip j : Nat) (hj : j + skip < 8) :
    (BitVec.ofNat 64 (x * 2 ^ (8 * skip))).extractLsb' (8 * (j + skip)) 8 = (BitVec.ofNat 64 x).extractLsb' (8 * j) 8 := by
  apply BitVec.eq_of_getLsbD_eq
  intro i hi
  have hplace : 8 * (j + skip) + i - 8 * skip = 8 * j + i := by omega
  have hbefore : 8 * skip ≤ 8 * (j + skip) + i := by omega
  have hfits : 8 * (j + skip) + i < 64 ∧ 8 * j + i < 64 := by omega
  simp only [BitVec.getLsbD_extractLsb', BitVec.getLsbD_ofNat, Nat.testBit_mul_two_pow, hplace, hbefore, hfits, decide_true,
    Bool.true_and]

/-- The upper half after LWR (40_loadstore.md R249; entry 24). -/
theorem lwrValue_cases (s : State) (b : Nat) (old : Word) (w : Word32) :
    s.lwrValue b old w = sext32 (mergeLwr b (low32 old) w) ∨
      ¬(isWord old = true ∨ b = 0) ∧ s.lwrValue b old w = old.extractLsb' 32 32 ++ mergeLwr b (low32 old) w := by
  dsimp only [State.lwrValue]
  split
  · exact .inl rfl
  · next h =>
    split
    · exact .inr ⟨by simpa [or_comm] using h, rfl⟩
    · exact .inl rfl

/-- The low bytes of what LWR writes are those of the merge, whatever becomes of the upper half. -/
theorem byte_lwrValue (s : State) (b j : Nat) (old : Word) (w : Word32) (hj : j < 4) :
    (s.lwrValue b old w).extractLsb' (8 * j) 8 = (mergeLwr b (low32 old) w).extractLsb' (8 * j) 8 := by
  rcases lwrValue_cases s b old w with h | ⟨-, h⟩
  · rw [h, byte_sext32 _ j hj]
  · rw [h, Laws.extractLsb'_append_low _ _ _ (by omega)]

/-! ### Partial loads from the answer of their access -/

section
variable {s : State} (rt base : RegNum) (offset : BitVec 16) (x : Nat)

theorem lwl_result (hl : s.leavesSegment = false) :
    let va := s.address base offset
    let b := va.toNat % 4
    s.loadPart (va &&& ~~~3) 4 0 (b + 1) = .ok (BitVec.ofNat 64 (x * 2 ^ (8 * 0))) s →
    ∃ v, GprResult s (exec (.lwl rt offset base) s) rt v ∧ isWord v = true ∧
      ∀ j, j < 4 → v.extractLsb' (8 * j) 8 =
        if 3 - b ≤ j then (BitVec.ofNat 64 x).extractLsb' (8 * (j - (3 - b))) 8 else (s.gpr rt).extractLsb' (8 * j) 8 := by
  intro va b h
  rw [Nat.mul_zero, Nat.pow_zero, Nat.mul_one] at h
  refine ⟨_, loadPartTo_gprResult rt (fun v => sext32 (mergeLwl b (low32 (s.gpr rt)) (low32 v))) hl h, isWord_sext32 _,
    fun j hj => ?_⟩
  rw [byte_sext32 _ j hj, mergeLwl, byte_aboveLow _ _ _ j (by omega), byte_low32 _ j hj, byte_low32 _ _ (by omega)]

theorem lwr_result (hl : s.leavesSegment = false) :
    let va := s.address base offset
    let b := va.toNat % 4
    let old := s.gpr rt
    s.loadPart (va &&& ~~~3) 4 b (4 - b) = .ok (BitVec.ofNat 64 (x * 2 ^ (8 * b))) s →
    ∃ v, GprResult s (exec (.lwr rt offset base) s) rt v ∧ (isWord old = true ∨ b = 0 → isWord v = true) ∧
      (isWord v = true ∨ v.extractLsb' 32 32 = old.extractLsb' 32 32) ∧
      ∀ j, j < 4 → v.extractLsb' (8 * j) 8 =
        if j + b ≤ 3 then (BitVec.ofNat 64 x).extractLsb' (8 * j) 8 else old.extractLsb' (8 * j) 8 := by
  intro va b old h
  refine ⟨_, loadPartTo_gprResult rt (fun v => s.lwrValue b old (low32 v)) hl h, fun hword => ?word, ?upper, fun j hj => ?bytes⟩
  case word =>
    rcases lwrValue_cases s b old (low32 (BitVec.ofNat 64 (x * 2 ^ (8 * b)))) with hv | ⟨hno, -⟩
    · rw [hv]; exact isWord_sext32 _
    · exact absurd hword hno
  case upper =>
    rcases lwrValue_cases s b old (low32 (BitVec.ofNat 64 (x * 2 ^ (8 * b)))) with hv | ⟨-, hv⟩
    · rw [hv]; exact .inl (isWord_sext32 _)
    · rw [hv, Laws.extractLsb'_append_high _ _ _ (by decide)]
      exact .inr BitVec.extractLsb'_eq_self
  case bytes =>
    rw [byte_lwrValue s b j old _ hj, mergeLwr, byte_belowHigh _ _ b j 4 rfl hj, byte_low32 _ j hj]
    split
    · next hb => rw [if_pos (by omega), byte_low32 _ _ hb, byte_skipped x b j (by omega)]
    · next hb => rw [if_neg (by omega)]

theorem ldl_result (hl : s.leavesSegment = false) :
    let va := s.address base offset
    let b := va.toNat % 8
    s.loadPart (va &&& ~~~7) 8 0 (b + 1) = .ok (BitVec.ofNat 64 (x * 2 ^ (8 * 0))) s →
    ∃ v, GprResult s (exec (.ldl rt offset base) s) rt v ∧
      ∀ j, j < 8 → v.extractLsb' (8 * j) 8 =
        if 7 - b ≤ j then (BitVec.ofNat 64 x).extractLsb' (8 * (j - (7 - b))) 8 else (s.gpr rt).extractLsb' (8 * j) 8 := by
  intro va b h
  rw [Nat.mul_zero, Nat.pow_zero, Nat.mul_one] at h
  refine ⟨_, loadPartTo_gprResult rt (fun v => mergeLdl b (s.gpr rt) v) hl h, fun j hj => ?_⟩
  rw [mergeLdl, byte_aboveLow _ _ _ j (by omega)]

theorem ldr_result (hl : s.leavesSegment = false) :
    let va := s.address base offset
    let b := va.toNat % 8
    s.loadPart (va &&& ~~~7) 8 b (8 - b) = .ok (BitVec.ofNat 64 (x * 2 ^ (8 * b))) s →
    ∃ v, GprResult s (exec (.ldr rt offset base) s) rt v ∧
      ∀ j, j < 8 → v.extractLsb' (8 * j) 8 =
        if j + b ≤ 7 then (BitVec.ofNat 64 x).extractLsb' (8 * j) 8 else (s.gpr rt).extractLsb' (8 * j) 8 := by
  intro va b h
  refine ⟨_, loadPartTo_gprResult rt (fun v => mergeLdr b (s.gpr rt) v) hl h, fun j hj => ?_⟩
  rw [mergeLdr, byte_belowHigh _ _ b j 8 rfl hj]
  split
  · next hb => rw [if_pos (by omega), byte_skipped x b j hb]
  · next hb => rw [if_neg (by omega)]

end

theorem partialLoadResults : Claim.PartialLoadResults := by
  unfold Claim.PartialLoadResults
  intro s rt base offset pa pd hl va byte old b4 b8 part
  exact ⟨fun h => lwl_result rt base offset _ hl (loadPart_uncached s _ _ _ _ pa h),
    fun h => lwr_result rt base offset _ hl (loadPart_uncached s _ _ _ _ pa h),
    fun h => ldl_result rt base offset _ hl (loadPart_uncached s _ _ _ _ pd h),
    fun h => ldr_result rt base offset _ hl (loadPart_uncached s _ _ _ _ pd h)⟩

/-- Settles O35: the datum is what memory holds, and a partial load merges it. -/
theorem uncachedLoads : Obligations.UncachedLoads := ⟨uncachedLoadResults, partialLoadResults⟩

theorem cachedPartialLoads : Claim.CachedPartialLoads := by
  unfold Claim.CachedPartialLoads
  intro s rt base offset pa pd k hl va byte old b4 b8 part
  exact ⟨fun h => lwl_result rt base offset _ hl (loadPart_cached s _ _ _ _ pa k h),
    fun h => lwr_result rt base offset _ hl (loadPart_cached s _ _ _ _ pa k h),
    fun h => ldl_result rt base offset _ hl (loadPart_cached s _ _ _ _ pd k h),
    fun h => ldr_result rt base offset _ hl (loadPart_cached s _ _ _ _ pd k h)⟩

/-! ### Stores -/

section
variable {s : State} {va : Word} {align n k : Nat} {pa : PAddr}

theorem storeFrom_storeResult (v : Word) (hn : n ≤ 8) (hl : s.leavesSegment = false) (h : UncachedStore s va align n pa) :
    StoreResult s (s.storeFrom va align n v) pa n v := by
  rw [State.storeFrom, storeVirt_uncached s va align n pa v h]
  exact storeUncached_result s pa n v hn hl h.ram

theorem storeFrom_lineStoreResult (v : Word) (hl : s.leavesSegment = false) (h : CachedStore s va align n pa k) :
    LineStoreResult s (s.storeFrom va align n v) pa k n v := by
  rw [State.storeFrom, storeVirt_cached s va align n pa k v h]
  exact storeLine_result s va pa k n v hl

end

/-- What SWL stores: the upper bytes of the low word of rt (40_loadstore.md R258). -/
theorem exec_swl (s : State) (rt base : RegNum) (offset : BitVec 16) :
    let va := s.address base offset
    exec (.swl rt offset base) s = s.storeFrom (va - BitVec.ofNat 64 (va.toNat % 4)) 1 (va.toNat % 4 + 1)
      (((BitVec.ofNat 32 (s.gpr rt).toNat) >>> (8 * (3 - va.toNat % 4))).setWidth 64) := by
  rw [← low32_eq_ofNat]
  rfl

/-- Settles O36: each store past the caches is the shared form, with the bytes and the place it names. -/
theorem uncachedStoreResults : Obligations.UncachedStoreResults := by
  unfold Obligations.UncachedStoreResults
  intro s rt base offset pa hl va v b4 b8
  have hb4 : b4 < 4 := Nat.mod_lt _ (by decide)
  have hb8 : b8 < 8 := Nat.mod_lt _ (by decide)
  exact ⟨storeFrom_storeResult v (by decide) hl, storeFrom_storeResult v (by decide) hl, storeFrom_storeResult v (by decide) hl,
    storeFrom_storeResult v (by decide) hl, fun h => exec_swl s rt base offset ▸ storeFrom_storeResult _ (by omega) hl h,
    storeFrom_storeResult v (by omega) hl, storeFrom_storeResult _ (by omega) hl, storeFrom_storeResult v (by omega) hl⟩

theorem cachedStoreResults : Claim.CachedStoreResults := by
  unfold Claim.CachedStoreResults
  intro s rt base offset pa k hl va v b4 b8
  exact ⟨storeFrom_lineStoreResult v hl, storeFrom_lineStoreResult v hl, storeFrom_lineStoreResult v hl,
    storeFrom_lineStoreResult v hl, storeFrom_lineStoreResult v hl, storeFrom_lineStoreResult v hl,
    fun h => exec_swl s rt base offset ▸ storeFrom_lineStoreResult _ hl h, storeFrom_lineStoreResult _ hl⟩

/-- Settles O37: the datum is what the line holds, and a store that hits writes the line. -/
theorem dataCacheHits : Obligations.DataCacheHits := ⟨cachedLoadResults, cachedPartialLoads, cachedStoreResults⟩

/-! ### Conditional stores -/

theorem linkDiffers_eq_false {s : State} {pa : PAddr} (h : s.llPa = some pa ∨ s.llPa = none) : s.linkDiffers pa = false := by
  rcases h with h | h <;> simp [State.linkDiffers, h]

section
variable {s : State} {va : Word} {n k : Nat} {pa : PAddr} (rt : RegNum)

/-- With LLbit = 1 a conditional store is a store, and 1 (40_loadstore.md R262). -/
theorem storeConditional_stores (h : CachedStore s va n n pa k) (hlink : s.llPa = some pa ∨ s.llPa = none) (hll : s.llBit = true) :
    s.storeConditional rt va n = ((s.storeLine va pa k n (s.gpr rt).toNat).afterConditional.setGpr rt 1).advance := by
  have hwrite : s.memWrite va pa 3 n (s.gpr rt) = .ok () (s.storeLine va pa k n (s.gpr rt).toNat) := by
    simp [State.memWrite, State.storeCached, State.ensureD, h.hit, h.described, Chk.run]
  simp only [State.storeConditional, prepare_pass s .store va n (pa, 3) h.translates h.notWatched, Run.bind, ne_eq,
    not_true_eq_false, linkDiffers_eq_false hlink, hll, Bool.not_true, Bool.false_eq_true, if_false, hwrite, Run.finish]

/-- With LLbit = 0 a conditional store is 0 and no store (40_loadstore.md R262). -/
theorem storeConditional_fails (h : CachedStore s va n n pa k) (hlink : s.llPa = some pa ∨ s.llPa = none) (hll : s.llBit = false) :
    s.storeConditional rt va n = (s.afterConditional.setGpr rt 0).advance := by
  simp [State.storeConditional, prepare_pass s .store va n (pa, 3) h.translates h.notWatched, Run.bind, linkDiffers_eq_false hlink,
    hll, Run.finish]

end

/-- The state in which a conditional store that has left `t` completes. -/
def State.afterStoreConditional (t : State) (rt : RegNum) (v : Word) : State := (t.afterConditional.setGpr rt v).stepped

/-- What a conditional store does after the transfer, to the state that has been reached from `s`. -/
theorem afterStoreConditional_next {s t : State} (rt : RegNum) (v : Word) (hpc : t.pc = s.pc) (hd : t.delay = s.delay)
    (hg : t.gprs = s.gprs) (hl : s.leavesSegment = false) :
    (t.afterConditional.setGpr rt v).advance = .next (t.afterStoreConditional rt v) ∧ Advanced s (t.afterStoreConditional rt v) ∧
      (t.afterStoreConditional rt v).gpr rt = (if rt = 0 then 0 else v) ∧
      ∀ r, r ≠ rt → (t.afterStoreConditional rt v).gpr r = s.gpr r := by
  obtain ⟨hnext, hadvanced⟩ := advance_of_same s (t.afterConditional.setGpr rt v) ((setGpr_pc _ _ _).trans hpc)
    ((setGpr_delay _ _ _).trans hd) hl
  exact ⟨hnext, hadvanced, setGpr_gpr_self _ rt v, fun r hr =>
    (setGpr_gpr_ne t.afterConditional rt r v hr).trans (gpr_eq_of_gprs s _ hg r)⟩

/-- What it leaves of that state. -/
theorem afterStoreConditional_frame (t : State) (rt : RegNum) (v : Word) :
    t.afterStoreConditional rt v = { t with
      gprs := (t.afterStoreConditional rt v).gprs
      llBit := (t.afterStoreConditional rt v).llBit
      pc := (t.afterStoreConditional rt v).pc
      delay := (t.afterStoreConditional rt v).delay } := by
  rw [State.afterStoreConditional, setGpr_eta]
  rfl

/-- Settles O39: the transfer is that of a store that hits, or none. -/
theorem storeConditionalResults : Obligations.StoreConditionalResults := by
  unfold Obligations.StoreConditionalResults
  intro s rt base offset pa k n i hl hi h hlink
  have hexec : exec i s = s.storeConditional rt (s.gpr base + BitVec.ofInt 64 offset.toInt) n := by
    rcases hi with ⟨rfl, rfl⟩ | ⟨rfl, rfl⟩ <;> rfl
  rw [hexec]
  generalize s.gpr base + BitVec.ofInt 64 offset.toInt = va at h
  refine ⟨fun hll => ?stores, fun hll => ?fails⟩
  case stores =>
    rw [storeConditional_stores rt h hlink hll]
    have hline := storeLine_dline s va pa k n (s.gpr rt).toNat
    obtain ⟨dcache, raced, code, hstore⟩ : ∃ dcache raced code, s.storeLine va pa k n (s.gpr rt).toNat =
        { s with caches := { s.caches with dcache := dcache }, raced := raced, code := code } := ⟨_, _, _, rfl⟩
    generalize s.storeLine va pa k n (s.gpr rt).toNat = t at hline hstore
    obtain ⟨hnext, hadvanced, hrt, hgprs⟩ := afterStoreConditional_next (s := s) (t := t) rt 1 (by rw [hstore]) (by rw [hstore])
      (by rw [hstore]) hl
    have hframe := afterStoreConditional_frame t rt 1
    have hlines : ∀ j, (t.afterStoreConditional rt 1).dline j = _ := fun j => (dline_congr (by rw [hframe]) j).trans (hline j)
    have hk := (hlines k).trans (if_pos rfl)
    exact ⟨_, hnext, hadvanced, hrt, hgprs, congrArg DLine.data hk, congrArg DLine.dirty hk,
      fun j hj => (hlines j).trans (if_neg hj), fun a => byteAt_congr _ s (by rw [hframe, hstore]) a, by rw [hframe, hstore]⟩
  case fails =>
    rw [storeConditional_fails rt h hlink hll]
    obtain ⟨hnext, hadvanced, hrt, hgprs⟩ := afterStoreConditional_next (s := s) (t := s) rt 0 rfl rfl rfl hl
    have hframe := afterStoreConditional_frame s rt 0
    exact ⟨_, hnext, hadvanced, by rw [hrt, ite_self], hgprs, fun a => byteAt_congr _ s (by rw [hframe]) a, hframe⟩

end Machine
end Sys2Proof
end

section
/-! PROOF. Loads and stores that miss the data cache (O38). The fill of the L2 below them is that of a fetch; what is left is the way
of the D-cache that is replaced: its line, where it is modified, finds by inclusion the one L2 line of its address, which the fill has
left alone. -/

namespace Sys2Proof
namespace Machine

/-! ### The records of races while lines move -/

theorem foldl_raced_subset (f : State → Nat → State) (hf : ∀ (t : State) (k : Nat), (f t k).raced ⊆ t.raced) (l : List Nat)
    (s : State) : (l.foldl f s).raced ⊆ s.raced :=
  List.foldlRecOn l f (motive := fun t => t.raced ⊆ s.raced) (List.Subset.refl _) fun t ht k _ =>
    List.Subset.trans (hf t k) ht

theorem settle_raced_subset (s : State) : s.settle.raced ⊆ s.raced := fun _ h => (List.mem_filter.mp h).1

theorem dropD_raced_subset (s : State) (k : Nat) : (s.dropD k).raced ⊆ s.raced :=
  settle_raced_subset (s.setDline k { s.dline k with state := .invalid, dirty := false })

theorem dropL1Copies_raced_subset (s : State) (k : Nat) (keep : Bool) : (s.dropL1Copies k keep).raced ⊆ s.raced := by
  dsimp only [State.dropL1Copies]
  refine List.Subset.trans (foldl_raced_subset State.dropD dropD_raced_subset _ _) ?_
  refine List.Subset.trans (foldl_raced_subset State.dropI (fun _ _ => List.Subset.refl _) _ _) ?_
  split <;> exact List.Subset.refl _

theorem dropL2_raced_subset (s : State) (k : Nat) (keep : Bool) : (s.dropL2 k keep).raced ⊆ s.raced := by
  have hlast : ∀ (t : State) (l : L2Line), (t.setL2line k l).settle.raced ⊆ t.raced := fun t l =>
    settle_raced_subset (t.setL2line k l)
  dsimp only [State.dropL2]
  split
  · refine List.Subset.trans (hlast _ _) (List.Subset.trans ?_ (dropL1Copies_raced_subset s k keep))
    split
    · rw [writeBytes_frame]
      exact List.Subset.refl _
    · exact List.Subset.refl _
  · exact List.Subset.refl _

/-- A fill of the L2 adds no record of a store. -/
theorem ensureL2_raced_subset {s t : State} {pa : PAddr} {fetch : Bool} {k : Nat} (h : s.ensureL2 pa fetch = .ok k t) :
    t.raced ⊆ s.raced := by
  unfold State.ensureL2 at h
  split at h
  · cases h
    exact List.Subset.refl _
  · unfold Chk.run at h
    split at h <;> cases h
    exact dropL2_raced_subset s _ true

/-! ### Lines by their set and tag -/

theorem lineNumber_eq_of_l2 {pa pb : PAddr} (hset : l2Set pb = l2Set pa) (htag : l2Tag pb = l2Tag pa) :
    lineNumber pb = lineNumber pa := by
  have hnumber : ∀ p : PAddr, lineNumber p = (l2Tag p).toNat * 4096 + l2Set p := fun p => by
    have := p.isLt
    simp only [lineNumber, l2Tag, l2Set, BitVec.extractLsb'_toNat, Nat.shiftRight_eq_div_pow]
    omega
  rw [hnumber, hnumber, hset, htag]

theorem lineNumber_dlineBase (s : State) (k : Nat) : lineNumber (s.dlineBase k) = (s.dline k).tag.toNat * 128 + k / 4 % 128 := by
  have hzero : (0#5).toNat = 0 := rfl
  rw [lineNumber, State.dlineBase, toNat_append_eq_add, toNat_append_eq_add, hzero, BitVec.toNat_ofNat]
  omega

theorem l1Tag_toNat (pa : PAddr) : (l1Tag pa).toNat = lineNumber pa / 128 := by
  have := pa.isLt
  simp only [lineNumber, l1Tag, BitVec.extractLsb'_toNat, Nat.shiftRight_eq_div_pow]
  omega

/-- A valid D-cache line is a copy of the line of its own address. -/
theorem mem_dCopies_of_lineNumber {s : State} {k : Nat} {pa : PAddr} (hk : k / 4 < 512) (hv : (s.dline k).state.isValid = true)
    (h : lineNumber (s.dlineBase k) = lineNumber pa) : k ∈ s.dCopies pa := by
  rw [lineNumber_dlineBase] at h
  refine mem_dCopies.mpr ⟨⟨hk, by omega⟩, hv, BitVec.eq_of_toNat_eq ?_⟩
  rw [l1Tag_toNat, ← h]
  omega

/-- An L2 line holds the line of its own address. -/
theorem lineNumber_l2lineBase {s : State} {j : Nat} {pa : PAddr} (hset : j / 4 = l2Set pa) (htag : (s.l2line j).tag = l2Tag pa) :
    lineNumber (s.l2lineBase j) = lineNumber pa := by
  refine lineNumber_eq_of_l2 ?_ ((l2Tag_l2lineBase s j).trans htag)
  have := l2Set_lt pa
  have hzero : (0#5).toNat = 0 := rfl
  rw [l2Set, State.l2lineBase, Laws.extractLsb'_append_low _ _ _ (by decide), Laws.extractLsb'_append_high _ _ _ (by decide),
    BitVec.extractLsb'_eq_self, BitVec.toNat_ofNat, hset]
  omega

/-- The D-cache sets of an address are the ones of its VA[13:12] (20_memory.md R196). -/
theorem keyColour_of_l1Set {k : Nat} {va : Word} (h : k / 4 = l1Set va) : keyColour k = va.extractLsb' 12 2 := by
  apply BitVec.eq_of_toNat_eq
  simp only [l1Set, BitVec.extractLsb'_toNat, Nat.shiftRight_eq_div_pow] at h
  simp only [keyColour, BitVec.toNat_ofNat, BitVec.extractLsb'_toNat, Nat.shiftRight_eq_div_pow]
  omega

/-! ### The modified line that a fill of the D-cache replaces -/

theorem writeBackD_unmodified {s : State} {k : Nat} (h : ¬s.modifiedD k) : s.writeBackD k = s := by
  rw [State.writeBackD, if_neg (by simpa using h)]

/-- A modified line goes to the one L2 line that holds its address. -/
theorem writeBackD_modified {s : State} {k i : Nat} (h : s.modifiedD k) (hi : s.l2Hits (s.dlineBase k) = [i]) :
    s.writeBackD k = s.setL2line i { tag := l2Tag (s.dlineBase k), state := .dirty, data := (s.dline k).data } := by
  obtain ⟨hv, hd⟩ := h
  simp [State.writeBackD, hv, hd, hi]

/-- A write-back changes the lines of the L2 only. -/
theorem writeBackD_frame (s : State) (k : Nat) :
    s.writeBackD k = { s with caches := { s.caches with l2 := (s.writeBackD k).caches.l2 } } := by
  dsimp only [State.writeBackD]; split <;> rfl

/-- Where an address has no copy in the D-cache, no D-cache line has its place and tag in the L2. -/
theorem l2Place_ne_of_noCopy {s : State} {pa : PAddr} {k : Nat} (hcopies : s.dCopies pa = []) (hk : k / 4 < 512)
    (hv : (s.dline k).state.isValid = true) : ¬(l2Set (s.dlineBase k) = l2Set pa ∧ l2Tag (s.dlineBase k) = l2Tag pa) := by
  rintro ⟨hset, htag⟩
  have hcopy := mem_dCopies_of_lineNumber (pa := pa) hk hv (lineNumber_eq_of_l2 hset htag)
  rw [hcopies] at hcopy
  cases hcopy

/-- No D-cache line stays with an L2 line that is replaced. -/
theorem replaced_not_mem_l2Hits {s : State} {pa : PAddr} {j k : Nat} (hk : k / 4 < 512) (hv : (s.dline k).state.isValid = true)
    (hkept : k ∉ s.goneWith pa j s.dCopies) (hmiss : s.l2Hits pa = []) : j ∉ s.l2Hits (s.dlineBase k) := fun hj => by
  obtain ⟨hset, hvalid, htag⟩ := mem_l2Hits.mp hj
  refine hkept ?_
  rw [State.goneWith, if_pos ⟨hmiss, hvalid⟩]
  exact mem_dCopies_of_lineNumber hk hv (lineNumber_l2lineBase hset htag).symm

section
variable {s u : State} {pa : PAddr} {j k : Nat}

/-- A D-cache line that has not gone with a replaced L2 line is as it was. -/
theorem FillsL2.dline_kept (h : FillsL2 s u pa j) (hk : k ∉ s.goneWith pa j s.dCopies) : u.dline k = s.dline k :=
  h.dcache.2 k hk (by simp)

theorem FillsL2.l2line_kept (h : FillsL2 s u pa j) {i : Nat} (hi : i ≠ j ∨ s.l2Hits pa ≠ []) : u.l2line i = s.l2line i :=
  h.below.1 i List.not_mem_nil hi

/-- A D-cache line that is modified after a fill of the L2 was so before it, and has not gone. -/
theorem FillsL2.modifiedD_iff (h : FillsL2 s u pa j) : u.modifiedD k ↔ s.modifiedD k ∧ k ∉ s.goneWith pa j s.dCopies := by
  by_cases hgone : k ∈ s.goneWith pa j s.dCopies
  · have hline : (u.dline k).state = .invalid := h.dcache.1 k hgone (by simp)
    simp [State.modifiedD, hline, hgone, DState.isValid]
  · simp only [State.modifiedD, h.dline_kept hgone, hgone, not_false_eq_true, and_true]

/-- The L2 lines that take the data of D-cache line `k` are those of its address where it is modified after the fill of the L2. -/
theorem FillsL2.takenFrom_eq (h : FillsL2 s u pa j) :
    s.takenFrom pa j k = if u.modifiedD k then s.l2Hits (s.dlineBase k) else [] := by
  simp only [h.modifiedD_iff, and_assoc]
  rfl

/-- After a fill of the L2, the L2 line of a modified D-cache line is the one it was, and not the one that has been filled. -/
theorem FillsL2.l2Hits_modified (h : FillsL2 s u pa j) (hcopies : s.dCopies pa = []) (hk : k / 4 < 512) (hm : u.modifiedD k)
    {i : Nat} (hi : s.l2Hits (s.dlineBase k) = [i]) : u.l2Hits (s.dlineBase k) = [i] ∧ (s.l2Hits pa = [] → i ≠ j) := by
  obtain ⟨⟨hv, -⟩, hkept⟩ := h.modifiedD_iff.mp hm
  by_cases hmiss : s.l2Hits pa = []
  · have hold : j ∉ s.l2Hits (s.dlineBase k) := replaced_not_mem_l2Hits hk hv hkept hmiss
    have hnew : j ∉ u.l2Hits (s.dlineBase k) := fun hj => by
      obtain ⟨-, hhits, -⟩ := h.below.2.2 hmiss
      obtain ⟨hset, -, htag⟩ := mem_l2Hits.mp hj
      obtain ⟨hset', -, htag'⟩ := mem_l2Hits.mp (hhits ▸ List.mem_singleton_self j : j ∈ u.l2Hits pa)
      exact l2Place_ne_of_noCopy hcopies hk hv ⟨hset.symm.trans hset', htag.symm.trans htag'⟩
    refine ⟨eq_singleton_of_mem (l2Hits_nodup _ _) fun m => ?_, fun _ hij =>
      hold (by rw [hi, hij]; exact List.mem_singleton_self j)⟩
    have hsame : m ∈ u.l2Hits (s.dlineBase k) ↔ m ∈ s.l2Hits (s.dlineBase k) := by
      by_cases hmj : m = j
      · subst hmj; simp only [hold, hnew]
      · rw [mem_l2Hits, mem_l2Hits, h.l2line_kept (.inl hmj)]
    rw [hsame, hi, List.mem_singleton]
  · have hsame : u.l2Hits (s.dlineBase k) = s.l2Hits (s.dlineBase k) := by
      simp only [State.l2Hits, h.l2line_kept (.inr hmiss)]
    exact ⟨hsame.trans hi, fun hno => absurd hno hmiss⟩

/-- A fill of the L2 goes on to be one where another line of it, of another address, has been written. -/
theorem FillsBelow.setL2line (h : FillsBelow s u pa j []) {i : Nat} {l : L2Line} (hij : s.l2Hits pa = [] → i ≠ j)
    (hapart : ¬(i / 4 = l2Set pa ∧ l.tag = l2Tag pa)) : FillsBelow s (u.setL2line i l) pa j [i] := by
  obtain ⟨hothers, hmemory, hfill⟩ := h
  have hkept : ∀ m, m ≠ i → (u.setL2line i l).l2line m = u.l2line m := fun m hm => (l2line_setL2line u i m l).trans (if_neg hm)
  refine ⟨fun m hm hmj => (hkept m (by simpa using hm)).trans (hothers m List.not_mem_nil hmj), hmemory, fun hmiss => ?_⟩
  obtain ⟨hset, hhits, hdata, hclean, hwrites⟩ := hfill hmiss
  have hji : j ≠ i := (hij hmiss).symm
  refine ⟨hset, eq_singleton_of_mem (l2Hits_nodup _ pa) fun m => ?_, by rw [hkept j hji, hdata], by rw [hkept j hji, hclean],
    fun hvalid => (hwrites hvalid).congr fun _ => rfl⟩
  by_cases hm : m = i
  · subst hm
    refine ⟨fun hhit => ?_, fun hmj => absurd hmj (hij hmiss)⟩
    obtain ⟨hplace, -, htag⟩ := mem_l2Hits.mp hhit
    rw [l2line_setL2line, if_pos rfl] at htag
    exact absurd ⟨hplace, htag⟩ hapart
  · rw [mem_l2Hits, hkept m hm, ← mem_l2Hits, hhits, List.mem_singleton]

/-- What the L2 and memory do for a fill of the D-cache: they fill as for the L2 alone, and the L2 line of the replaced D-cache line
takes its data. -/
theorem FillsL2.fillsBelow_writeBackD (h : FillsL2 s u pa j) (hcopies : s.dCopies pa = []) (hk : k / 4 < 512)
    (hincluded : s.modifiedD k → ∃ i, s.l2Hits (s.dlineBase k) = [i]) :
    FillsBelow s (u.writeBackD k) pa j (s.takenFrom pa j k) ∧
      ∀ i ∈ s.takenFrom pa j k,
        (u.writeBackD k).l2line i = { tag := l2Tag (s.dlineBase k), state := .dirty, data := (s.dline k).data } := by
  rw [h.takenFrom_eq]
  by_cases hm : u.modifiedD k
  · obtain ⟨hms, hkept⟩ := h.modifiedD_iff.mp hm
    have hline := h.dline_kept hkept
    have hbase : u.dlineBase k = s.dlineBase k := by rw [State.dlineBase, State.dlineBase, hline]
    obtain ⟨i, hi⟩ := hincluded hms
    obtain ⟨hhits, hij⟩ := h.l2Hits_modified hcopies hk hm hi
    have hset : i / 4 = l2Set (s.dlineBase k) := (mem_l2Hits.mp (hi ▸ List.mem_singleton_self i)).1
    have hapart : ¬(i / 4 = l2Set pa ∧ l2Tag (s.dlineBase k) = l2Tag pa) := hset ▸ l2Place_ne_of_noCopy hcopies hk hms.1
    rw [if_pos hm, hi, writeBackD_modified hm (hbase ▸ hhits), hbase, hline]
    refine ⟨h.below.setL2line hij hapart, fun m hmi => ?_⟩
    rw [List.mem_singleton.mp hmi, l2line_setL2line, if_pos rfl]
  · rw [if_neg hm, writeBackD_unmodified hm]
    exact ⟨h.below, fun _ hi => by cases hi⟩

end

/-! ### A fill of the D-cache -/

/-- `FillsD` with the ways named: `j` of the L2 and `k` of the D-cache. -/
structure FillsWay (s t : State) (va : Word) (pa : PAddr) (j k : Nat) (data : BitVec 256) (dirty : Bool) : Prop where
  below : FillsBelow s t pa j (s.takenFrom pa j k)
  taken : ∀ i ∈ s.takenFrom pa j k, t.l2line i = { tag := l2Tag (s.dlineBase k), state := .dirty, data := (s.dline k).data }
  way : k / 4 = l1Set va
  hits : t.dHits (l1Set va) pa = [k]
  data : (t.dline k).data = data
  dirty : (t.dline k).dirty = dirty
  dcache : KeepsD s t pa j (some k)
  icache : KeepsI s t pa j none

section
variable {s t u : State} {va : Word} {pa : PAddr} {j k : Nat} {data : BitVec 256} {dirty : Bool}

theorem FillsWay.fillsD (h : FillsWay s t va pa j k data dirty) : FillsD s t va pa data dirty :=
  ⟨j, k, h.below, h.taken, h.way, h.hits, h.data, h.dirty, h.dcache, h.icache⟩

/-- What else changes after a fill, in the new line or outside the caches and memory. -/
theorem FillsWay.congr (h : FillsWay s t va pa j k data dirty) (hi : ∀ i, u.iline i = t.iline i)
    (hl2 : ∀ i, u.l2line i = t.l2line i) (hbytes : ∀ a, u.byteAt a = t.byteAt a)
    (hd : ∀ i, i ≠ k → u.dline i = t.dline i) (hv : (u.dline k).state.isValid = true) (htag : (u.dline k).tag = (t.dline k).tag) :
    FillsWay s u va pa j k (u.dline k).data (u.dline k).dirty := by
  obtain ⟨hdgone, hdkept⟩ := h.dcache
  obtain ⟨higone, hikept⟩ := h.icache
  obtain ⟨-, hvt, -⟩ := mem_dHits.mp (h.hits ▸ List.mem_singleton_self k : k ∈ t.dHits (l1Set va) pa)
  have hhits : u.dHits (l1Set va) pa = t.dHits (l1Set va) pa := List.filter_congr fun i _ => by
    by_cases hik : i = k
    · rw [hik, hv, hvt, htag]
    · rw [hd i hik]
  have hne : ∀ {i}, some i ≠ some k → i ≠ k := fun hi hik => hi (congrArg some hik)
  exact {
    below := h.below.congr hl2 hbytes
    taken := fun i hi => (hl2 i).trans (h.taken i hi)
    way := h.way
    hits := hhits.trans h.hits
    data := rfl
    dirty := rfl
    dcache := ⟨fun i hgone hik => by rw [hd i (hne hik)]; exact hdgone i hgone hik,
      fun i hkept hik => (hd i (hne hik)).trans (hdkept i hkept hik)⟩
    icache := ⟨fun i hgone hno => by rw [hi]; exact higone i hgone hno, fun i hkept hno => (hi i).trans (hikept i hkept hno)⟩ }

/-- A fill is not undone outside the caches and memory. -/
theorem FillsWay.congr_caches (h : FillsWay s t va pa j k data dirty) (hc : u.caches = t.caches) (hm : u.memory = t.memory) :
    FillsWay s u va pa j k data dirty := by
  have hk : k ∈ t.dHits (l1Set va) pa := h.hits ▸ List.mem_singleton_self k
  obtain ⟨-, hv, -⟩ := mem_dHits.mp hk
  have hline := dline_congr hc k
  have hfills := h.congr (iline_congr hc) (l2line_congr hc) (byteAt_congr u t hm) (fun i _ => dline_congr hc i)
    (by rw [hline]; exact hv) (by rw [hline])
  rwa [hline, h.data, h.dirty] at hfills

/-- A copy of the line of an address after its fill is the new line. -/
theorem FillsWay.eq_of_mem_dCopies (h : FillsWay s t va pa j k data dirty) (hcopies : s.dCopies pa = []) {i : Nat}
    (hi : i ∈ t.dCopies pa) : i = k := by
  by_contra hik
  obtain ⟨hgone, hkept⟩ := h.dcache
  have hne : some i ≠ some k := fun h => hik (Option.some.inj h)
  obtain ⟨hset, hv, htag⟩ := mem_dCopies.mp hi
  by_cases hg : i ∈ s.goneWith pa j s.dCopies
  · rw [hgone i hg hne] at hv
    cases hv
  · rw [hkept i hg hne] at hv htag
    have hcopy : i ∈ s.dCopies pa := mem_dCopies.mpr ⟨hset, hv, htag⟩
    rw [hcopies] at hcopy
    cases hcopy

/-- The state after D-cache line `k` has been replaced, in the state that the fill of the L2 leaves. -/
def State.replaceD (u : State) (k : Nat) (l : DLine) : State := ((u.writeBackD k).dropD k).setDline k l

theorem dline_replaceD (u : State) (k i : Nat) (l : DLine) : (u.replaceD k l).dline i = if i = k then l else u.dline i := by
  rw [State.replaceD, dline_setDline]
  split
  · rfl
  · next hik => rw [dline_dropD, if_neg hik, dline_writeBackD]

theorem iline_replaceD (u : State) (k i : Nat) (l : DLine) : (u.replaceD k l).iline i = u.iline i := by
  rw [State.replaceD, writeBackD_frame]
  rfl

theorem l2line_replaceD (u : State) (k i : Nat) (l : DLine) : (u.replaceD k l).l2line i = (u.writeBackD k).l2line i := by
  rw [State.replaceD]
  generalize u.writeBackD k = t
  rfl

theorem byteAt_replaceD (u : State) (k a : Nat) (l : DLine) : (u.replaceD k l).byteAt a = (u.writeBackD k).byteAt a := by
  rw [State.replaceD]
  generalize u.writeBackD k = t
  rfl

theorem replaceD_frame (u : State) (k : Nat) (l : DLine) :
    u.replaceD k l = { u with caches := (u.replaceD k l).caches, raced := (u.replaceD k l).raced } := by
  obtain ⟨l2, hback⟩ : ∃ l2, u.writeBackD k = { u with caches := { u.caches with l2 := l2 } } := ⟨_, writeBackD_frame u k⟩
  rw [State.replaceD, hback]
  rfl

theorem replaceD_raced_subset (u : State) (k : Nat) (l : DLine) : (u.replaceD k l).raced ⊆ u.raced := by
  have h : (u.writeBackD k).raced = u.raced := by rw [writeBackD_frame]
  exact h ▸ dropD_raced_subset (u.writeBackD k) k

/-- The D-cache line that a miss fills. -/
theorem FillsL2.fillsWay (h : FillsL2 s u pa j) (hm : MissesD s va pa) (hk : k / 4 = l1Set va)
    (hincluded : s.modifiedD k → ∃ i, s.l2Hits (s.dlineBase k) = [i]) {l : DLine} (hv : l.state.isValid = true)
    (htag : l.tag = l1Tag pa) (hdata : l.data = (u.l2line j).data) :
    FillsWay s (u.replaceD k l) va pa j k (s.fillData pa) l.dirty := by
  have hkset : k / 4 < 512 := hk ▸ l1Set_lt va
  obtain ⟨hbelow, htaken⟩ := h.fillsBelow_writeBackD hm.miss hkset hincluded
  obtain ⟨hdgone, hdkept⟩ := h.dcache
  obtain ⟨higone, hikept⟩ := h.icache
  have hnew : (u.replaceD k l).dline k = l := (dline_replaceD u k k l).trans (if_pos rfl)
  have hold : ∀ {i}, i ≠ k → (u.replaceD k l).dline i = u.dline i := fun {i} hik => (dline_replaceD u k i l).trans (if_neg hik)
  have hne : ∀ {i}, some i ≠ some k → i ≠ k := fun hi hik => hi (congrArg some hik)
  exact {
    below := hbelow.congr (fun i => l2line_replaceD u k i l) fun a => byteAt_replaceD u k a l
    taken := fun i hi => (l2line_replaceD u k i l).trans (htaken i hi)
    way := hk
    hits := by
      refine eq_singleton_of_mem ((ways_nodup _).filter _) fun i => ⟨fun hi => ?_, fun hik => ?_⟩
      · by_contra hik
        obtain ⟨hset, hvi, htagi⟩ := mem_dHits.mp hi
        rw [hold hik] at hvi htagi
        by_cases hg : i ∈ s.goneWith pa j s.dCopies
        · rw [hdgone i hg (by simp)] at hvi
          cases hvi
        · rw [hdkept i hg (by simp)] at hvi htagi
          have hbefore : i ∈ s.dHits (l1Set va) pa := mem_dHits.mpr ⟨hset, hvi, htagi⟩
          rw [hm.inSet] at hbefore
          cases hbefore
      · rw [hik, mem_dHits, hnew]
        exact ⟨hk, hv, htag⟩
    data := by rw [hnew, hdata, h.data]
    dirty := by rw [hnew]
    dcache := ⟨fun i hgone hik => by rw [hold (hne hik)]; exact hdgone i hgone (by simp),
      fun i hkept hik => (hold (hne hik)).trans (hdkept i hkept (by simp))⟩
    icache := ⟨fun i hgone hno => by rw [iline_replaceD]; exact higone i hgone hno,
      fun i hkept hno => (iline_replaceD u k i l).trans (hikept i hkept hno)⟩ }

end

/-- A miss of the D-cache fills one of its ways, and adds no record of a store. -/
theorem ensureD_fills {s : State} {va : Word} {pa : PAddr} (h : MissesD s va pa) :
    ∃ j k f, s.ensureD va pa = .ok k f ∧ FillsWay s f va pa j k (s.fillData pa) false ∧ f.raced ⊆ s.raced ∧
      f = { s with caches := f.caches, memory := f.memory, raced := f.raced } := by
  obtain ⟨j, u, hfill, hu⟩ := ensureL2_fills s pa false h.below
  let way := u.drawBelow 4 .victimD
  have hway : way < 4 := drawBelow_lt u 4 _ (by decide)
  let l : DLine := { tag := l1Tag pa, state := .filled, dirty := false, scWay := BitVec.ofNat 2 (j % 4),
                     stateMod := Config.dStateMod, data := (u.l2line j).data }
  refine ⟨j, lineKey (l1Set va) way, u.replaceD (lineKey (l1Set va) way) l, ?_, ?_, ?_, ?_⟩
  · rw [State.ensureD, h.inSet, hfill]
    rfl
  · exact hu.fillsWay h (lineKey_div _ _ hway) (h.included way hway) rfl rfl rfl
  · exact List.Subset.trans (replaceD_raced_subset u _ l) (ensureL2_raced_subset hfill)
  · have hframe := replaceD_frame u (lineKey (l1Set va) way) l
    generalize u.replaceD (lineKey (l1Set va) way) l = f at hframe ⊢
    rw [hframe, hu.frame]

/-! ### Loads and stores that fill -/

/-- A read of the line just filled is no race. -/
theorem notRaced_of_fill {s f : State} {va : Word} {pa : PAddr} {j k n : Nat} {data : BitVec 256} {dirty : Bool}
    (hm : MissesD s va pa) (hf : FillsWay s f va pa j k data dirty) (hraced : f.raced ⊆ s.raced)
    (hline : ∀ i, i < n → (pa.toNat + i) / 32 = lineNumber pa) : f.notRaced va pa n := by
  refine .inr ⟨ownPlaces_nil f _ pa n fun i hi hrecord => hm.notRaced _ (hraced hrecord) (hline i hi), ?_⟩
  refine List.eq_nil_iff_forall_not_mem.mpr fun i hi => ?_
  obtain ⟨htouched, hcolour⟩ := (mem_aliasCopies f va pa i).mp hi
  have hik := hf.eq_of_mem_dCopies hm.miss (List.mem_filter.mp htouched).1
  exact hcolour (hik ▸ keyColour_of_l1Set hf.way)

section
variable {s : State} {va : Word} {pa : PAddr} {n : Nat}

/-- A cached read that misses takes the datum of the line that it fills. -/
theorem memRead_fills (hm : MissesD s va pa) (hg : s.gathered pa n = false) (hd : s.described pa n = .pass ())
    (hline : ∀ i, i < n → (pa.toNat + i) / 32 = lineNumber pa) :
    ∃ j k f, s.memRead va pa 3 n = .ok (lineGet (s.fillData pa) (lineOffset pa) n) f ∧
      FillsWay s f va pa j k (s.fillData pa) false ∧ f = { s with caches := f.caches, memory := f.memory, raced := f.raced } := by
  obtain ⟨j, k, f, hensure, hf, hraced, hframe⟩ := ensureD_fills hm
  have hdf : f.described pa n = .pass () := by rw [hframe]; exact hd
  refine ⟨j, k, f, ?_, hf, hframe⟩
  simp [State.memRead, hg, State.loadCached, hensure, Run.bind, hdf, Chk.run,
    cachedValue_own f va pa n _ (notRaced_of_fill hm hf hraced hline), hf.data]

theorem loadTo_fills (rt : RegNum) (value : Word → Word) (hl : s.leavesSegment = false) (hm : MissesD s va pa)
    (hw : s.watched .load pa = false) (ht : s.translateAligned .load va n = .pass (pa, 3)) (hg : s.gathered pa n = false)
    (hd : s.described pa n = .pass ()) (hline : ∀ i, i < n → (pa.toNat + i) / 32 = lineNumber pa) :
    FillingLoad s (s.loadTo rt va n value) va pa rt (value (BitVec.ofNat 64 (lineGet (s.fillData pa) (lineOffset pa) n))) := by
  obtain ⟨j, k, f, hread, hf, hframe⟩ := memRead_fills hm hg hd hline
  have hload : s.loadTo rt va n value =
      (f.setGpr rt (value (BitVec.ofNat 64 (lineGet (s.fillData pa) (lineOffset pa) n)))).advance := by
    simp only [State.loadTo, State.loadVirt, prepare_pass s .load va n (pa, 3) ht hw, Run.bind, hread, Run.finish]
  generalize value (BitVec.ofNat 64 (lineGet (s.fillData pa) (lineOffset pa) n)) = v at hload
  have hgprs : ∀ r, f.gpr r = s.gpr r := gpr_eq_of_gprs s f (by rw [hframe])
  obtain ⟨hnext, hadvanced⟩ := advance_of_same s (f.setGpr rt v) ((setGpr_pc f rt v).trans (by rw [hframe]))
    ((setGpr_delay f rt v).trans (by rw [hframe])) hl
  have hfills : FillsWay s (f.setGpr rt v).stepped va pa j k (s.fillData pa) false :=
    hf.congr_caches (setGpr_caches f rt v) (setGpr_memory f rt v)
  rw [hload]
  refine ⟨_, hnext, hadvanced, setGpr_gpr_self f rt v, fun r hr => (setGpr_gpr_ne f rt r v hr).trans (hgprs r), hfills.fillsD, ?_⟩
  rw [setGpr_eta]
  generalize (f.setGpr rt v).gprs = gprs
  rw [hframe]
  rfl

/-- A store that misses fills the line, and then does what a store that hits does. -/
theorem storeFrom_fills (v : Word) (hl : s.leavesSegment = false) (hm : MissesD s va pa) (hw : s.watched .store pa = false)
    (ht : s.translateAligned .store va n = .pass (pa, 3)) (hd : s.described pa n = .pass ()) :
    FillingStore s (s.storeFrom va n n v) va pa n v := by
  obtain ⟨j, k, f, hensure, hf, -, hframe⟩ := ensureD_fills hm
  have hdf : f.described pa n = .pass () := by rw [hframe]; exact hd
  have hlf : f.leavesSegment = false := by rw [hframe]; exact hl
  have hwrite : s.memWrite va pa 3 n v = .ok () (f.storeLine va pa k n v.toNat) := by
    simp [State.memWrite, State.storeCached, hensure, hdf, Chk.run]
  have hstore : s.storeFrom va n n v = (f.storeLine va pa k n v.toNat).advance := by
    simp only [State.storeFrom, State.storeVirt, prepare_pass s .store va n (pa, 3) ht hw, Run.bind, hwrite, Run.finish]
  obtain ⟨t, hnext, ⟨hpc, hdelay⟩, hdata, hdirty, hvalid, htag, hothers, hgprs, hbytes, hrest⟩ :=
    storeLine_result f va pa k n v hlf
  have hfills := hf.congr (fun i => by rw [hrest]; rfl) (fun i => by rw [hrest]; rfl) hbytes hothers hvalid htag
  rw [hdata, hdirty, hf.data] at hfills
  rw [hstore]
  exact ⟨t, hnext, ⟨hpc.trans (by rw [hframe]; rfl), hdelay⟩, fun r => (hgprs r).trans (gpr_eq_of_gprs s f (by rw [hframe]) r),
    hfills.fillsD, by rw [hrest, hframe]⟩

end

theorem loadsFill : Claim.LoadsFill := by
  unfold Claim.LoadsFill
  intro s rt base offset pa hl va reaches datum fills hm hw
  have hloads : ∀ (n : Nat) (value : Word → Word), (∀ i, i < n → (pa.toNat + i) / 32 = lineNumber pa) → reaches n →
      FillingLoad s (s.loadTo rt va n value) va pa rt (value (datum n)) := fun n value hline ⟨ht, hg, hd⟩ =>
    loadTo_fills rt value hl hm hw ht hg hd hline
  have hline : ∀ n, n = 1 ∨ n = 2 ∨ n = 4 ∨ n = 8 → pa.toNat % n = 0 → ∀ i, i < n → (pa.toNat + i) / 32 = lineNumber pa := by
    rintro n (rfl | rfl | rfl | rfl) ha i hi <;> rw [lineNumber] <;> omega
  refine ⟨fun h => ?bytes, fun ha h => ?halves, fun ha h => ?words, fun ha h => ?double⟩
  case bytes =>
    have hl1 := hline 1 (by decide) (Nat.mod_one _)
    exact ⟨hloads 1 (fun v => (v.setWidth 8).signExtend 64) hl1 h, hloads 1 (fun v => v) hl1 h⟩
  case halves =>
    have hl2 := hline 2 (by decide) ha
    exact ⟨hloads 2 (fun v => (v.setWidth 16).signExtend 64) hl2 h, hloads 2 (fun v => v) hl2 h⟩
  case words =>
    have hl4 := hline 4 (by decide) ha
    exact ⟨sext32_low32 (datum 4) ▸ hloads 4 (fun v => sext32 (low32 v)) hl4 h, hloads 4 (fun v => v) hl4 h⟩
  case double => exact hloads 8 (fun v => v) (hline 8 (by decide) ha) h

theorem storesFill : Claim.StoresFill := by
  unfold Claim.StoresFill
  intro s rt base offset pa hl va fills hm hw
  exact ⟨storeFrom_fills _ hl hm hw, storeFrom_fills _ hl hm hw, storeFrom_fills _ hl hm hw, storeFrom_fills _ hl hm hw⟩

/-- Settles O38: a miss fills one way of the D-cache, and the access is then one that hits there. -/
theorem cacheMissesFill : Obligations.CacheMissesFill := ⟨loadsFill, storesFill⟩

end Machine
end Sys2Proof
end

section
/-! PROOF. Words of the spec that are written out bit by bit (O3): each is what the encoder builds for its instruction, so decoding
reads that instruction back. -/

namespace Sys2Proof
namespace Laws

/-- Settles O3. -/
theorem wordsDecode : Obligations.WordsDecode :=
  ⟨decode_encode (.addi 8 9 0xFFFF), decode_encode (.add 8 9 10), decode_encode (.lwc1 0 0 4), decode_encode (.addD 2 4 6),
    decode_encode .eret, decode_encode (.cache 21 16 4)⟩

end Laws
end Sys2Proof
end

section
/-! PROOF. Integer arithmetic, logic and shifts (O9, O10, O11). A word operation works on the low words of its sources, which hold
the same integer as the registers where those are sign-extended words; so each result is the integer operation on the registers, and
overflow is its leaving the range of the width. -/

namespace Sys2Proof
namespace Machine

/-! ### The operand forms as integers -/

/-- A register that holds a sign-extended word and its low word are the same integer (00_scope.md R15). -/
theorem toInt_low32 {v : Word} (h : isWord v = true) : (low32 v).toInt = v.toInt := by
  have hv : v = sext32 (low32 v) := by simpa [isWord] using h
  calc (low32 v).toInt = (sext32 (low32 v)).toInt := (BitVec.toInt_signExtend_of_le (by decide)).symm
    _ = v.toInt := by rw [← hv]

theorem toNat_low32 (v : Word) : (low32 v).toNat = v.toNat % 2 ^ 32 := by
  rw [low32_eq_ofNat, BitVec.toNat_ofNat]

theorem sext32_eq_ofInt (w : Word32) : sext32 w = BitVec.ofInt 64 w.toInt := rfl

theorem immSext_eq_ofInt (imm : BitVec 16) : immSext imm = BitVec.ofInt 64 imm.toInt := rfl

theorem toInt_immSext (imm : BitVec 16) : (immSext imm).toInt = imm.toInt := BitVec.toInt_signExtend_of_le (by decide)

theorem toInt_immSext32 (imm : BitVec 16) : (imm.signExtend 32).toInt = imm.toInt := BitVec.toInt_signExtend_of_le (by decide)

theorem immZext_eq_ofNat (imm : BitVec 16) : immZext imm = BitVec.ofNat 64 imm.toNat := (BitVec.ofNat_toNat 64 imm).symm

/-- The operand of LUI (30_encoding.md R205). -/
theorem immUpper_eq_ofInt (imm : BitVec 16) : immUpper imm = BitVec.ofInt 64 (imm.toInt * 65536) := by
  have happend : (imm ++ 0#16).toInt = imm.toInt * 65536 := by rw [BitVec.toInt_append_zero]; omega
  exact congrArg (BitVec.ofInt 64) happend

/-- Sums and differences of registers are those of the integers they hold, modulo 2^64. -/
theorem add_eq_ofInt (a b : Word) : a + b = BitVec.ofInt 64 (a.toInt + b.toInt) := by
  rw [BitVec.ofInt_add, BitVec.ofInt_toInt, BitVec.ofInt_toInt]

theorem sub_eq_ofInt (a b : Word) : a - b = BitVec.ofInt 64 (a.toInt - b.toInt) := by
  apply BitVec.eq_of_toInt_eq
  rw [BitVec.toInt_sub, BitVec.toInt_ofInt]

/-! ### Word results -/

theorem wordResult_of_isWord {sources : List Word} (s : State) (v : Word32) (h : sources.all isWord = true) :
    s.wordResult sources v = sext32 v := if_pos h

/-- A word operation whose sources are sign-extended words writes the integer that its 32-bit result holds (41_alu.md R305). -/
theorem writeWord_result {s : State} {sources : List Word} {v : Word32} {n : Int} (r : RegNum) (hl : s.leavesSegment = false)
    (hs : sources.all isWord = true) (hv : v.toInt = n) :
    GprResult s (s.writeGpr r (s.wordResult sources v)) r (BitVec.ofInt 64 n) := by
  rw [wordResult_of_isWord s v hs, sext32_eq_ofInt, hv]
  exact writeGpr_result s r _ hl

theorem all_isWord_pair {a b : Word} (ha : isWord a = true) (hb : isWord b = true) : [a, b].all isWord = true := by
  simp [ha, hb]

theorem all_isWord_single {a : Word} (ha : isWord a = true) : [a].all isWord = true := by
  simp [ha]

theorem wordSumResults : Claim.WordSumResults := by
  unfold Claim.WordSumResults
  intro s rd rs rt imm hl
  refine ⟨fun ha hb => ⟨?addu, ?subu⟩, fun ha => ?addiu, ⟨_, writeGpr_result s rd _ hl⟩, ⟨_, writeGpr_result s rd _ hl⟩,
    ⟨_, writeGpr_result s rt _ hl⟩⟩
  case addu => exact writeWord_result rd hl (all_isWord_pair ha hb) (by rw [BitVec.toInt_add, toInt_low32 ha, toInt_low32 hb])
  case subu => exact writeWord_result rd hl (all_isWord_pair ha hb) (by rw [BitVec.toInt_sub, toInt_low32 ha, toInt_low32 hb])
  case addiu => exact writeWord_result rt hl (all_isWord_single ha) (by rw [BitVec.toInt_add, toInt_low32 ha, toInt_immSext32])

theorem doubleSumResults : Claim.DoubleSumResults := by
  unfold Claim.DoubleSumResults
  intro s rd rs rt imm hl
  refine ⟨?daddu, ?dsubu, ?daddiu⟩
  case daddu =>
    rw [BitVec.ofNat_add, BitVec.ofNat_toNat, BitVec.ofNat_toNat, BitVec.setWidth_eq, BitVec.setWidth_eq]
    exact writeGpr_result s rd _ hl
  case dsubu =>
    rw [← sub_eq_ofInt]
    exact writeGpr_result s rd _ hl
  case daddiu =>
    rw [← toInt_immSext, ← add_eq_ofInt]
    exact writeGpr_result s rt _ hl

/-- Settles O9: a result register holds the integer sum, wrapped to the width of the operation. -/
theorem wrappingSums : Obligations.WrappingSums := ⟨wordSumResults, doubleSumResults⟩

/-! ### Overflow -/

/-- The integers that a signed number of `w + 1` bits can be. -/
def FitsSigned (w : Nat) (n : Int) : Prop := -(2 ^ w : Int) ≤ n ∧ n < 2 ^ w

/-- The two top bits of a number differ where it does not fit in one bit less: the overflow test of 41_alu.md R281. -/
theorem topBits_differ_iff {w : Nat} (t : BitVec (w + 2)) :
    (t.getLsbD (w + 1) != t.getLsbD w) = true ↔ ¬FitsSigned w t.toInt := by
  have hpow : 2 ^ (w + 2) = 4 * 2 ^ w ∧ 2 ^ (w + 1) = 2 * 2 ^ w := ⟨by rw [Nat.pow_add, Nat.mul_comm], Nat.pow_succ'⟩
  have htop : t.getLsbD (w + 1) = decide (2 * 2 ^ w ≤ t.toNat) := hpow.2 ▸ BitVec.msb_eq_decide t
  have hnext : t.getLsbD w = decide (2 ^ w ≤ t.toNat % (2 * 2 ^ w)) := by
    have hmsb : (t.setWidth (w + 1)).msb = t.getLsbD w := by simp [BitVec.msb_setWidth]
    rw [← hmsb, BitVec.msb_eq_decide, BitVec.toNat_setWidth, hpow.2, Nat.add_sub_cancel]
  have ht := t.isLt
  have hcast : (2 ^ w : Int) = (2 ^ w : Nat) := by push_cast; rfl
  rw [htop, hnext, bne_iff_ne, ne_eq, decide_eq_decide, FitsSigned, BitVec.toInt_eq_toNat_cond, hcast]
  rw [hpow.1] at ht ⊢
  generalize 2 ^ w = p at ht ⊢
  by_cases hneg : 2 * p ≤ t.toNat
  · have hmod : t.toNat % (2 * p) = t.toNat - 2 * p := by
      rw [Nat.mod_eq_sub_mod hneg, Nat.mod_eq_of_lt (by omega)]
    rw [hmod, if_neg (by omega)]
    omega
  · rw [Nat.mod_eq_of_lt (by omega), if_pos (by omega)]
    omega

/-- A wrap to `w + 1` bits keeps an integer that fits. -/
theorem FitsSigned.bmod_eq {w : Nat} {n : Int} (h : FitsSigned w n) : n.bmod (2 ^ (w + 1)) = n := by
  obtain ⟨hlow, hhigh⟩ := h
  apply Int.bmod_eq_of_le_mul_two <;> push_cast <;> omega

section
variable {w : Nat} (a b : BitVec w)

/-- One bit more holds every sum and every difference. -/
theorem fitsSigned_add_sub : FitsSigned w (a.toInt + b.toInt) ∧ FitsSigned w (a.toInt - b.toInt) := by
  have halow := BitVec.le_two_mul_toInt (x := a)
  have hahigh := BitVec.two_mul_toInt_lt (x := a)
  have hblow := BitVec.le_two_mul_toInt (x := b)
  have hbhigh := BitVec.two_mul_toInt_lt (x := b)
  refine ⟨⟨?_, ?_⟩, ⟨?_, ?_⟩⟩ <;> omega

theorem toInt_signExtend_add : (a.signExtend (w + 1) + b.signExtend (w + 1)).toInt = a.toInt + b.toInt := by
  rw [BitVec.toInt_add, BitVec.toInt_signExtend_of_le (Nat.le_succ w), BitVec.toInt_signExtend_of_le (Nat.le_succ w),
    (fitsSigned_add_sub a b).1.bmod_eq]

theorem toInt_signExtend_sub : (a.signExtend (w + 1) - b.signExtend (w + 1)).toInt = a.toInt - b.toInt := by
  rw [BitVec.toInt_sub, BitVec.toInt_signExtend_of_le (Nat.le_succ w), BitVec.toInt_signExtend_of_le (Nat.le_succ w),
    (fitsSigned_add_sub a b).2.bmod_eq]

end

theorem addOverflows_iff {w : Nat} (a b : BitVec (w + 1)) :
    ((a.signExtend (w + 2) + b.signExtend (w + 2)).getLsbD (w + 1) !=
      (a.signExtend (w + 2) + b.signExtend (w + 2)).getLsbD w) = true ↔ ¬FitsSigned w (a.toInt + b.toInt) := by
  rw [topBits_differ_iff, toInt_signExtend_add]

theorem subOverflows_iff {w : Nat} (a b : BitVec (w + 1)) :
    ((a.signExtend (w + 2) - b.signExtend (w + 2)).getLsbD (w + 1) !=
      (a.signExtend (w + 2) - b.signExtend (w + 2)).getLsbD w) = true ↔ ¬FitsSigned w (a.toInt - b.toInt) := by
  rw [topBits_differ_iff, toInt_signExtend_sub]

theorem addOverflows32_iff (a b : Word32) : addOverflows32 a b = true ↔ ¬FitsSigned 31 (a.toInt + b.toInt) := addOverflows_iff a b

theorem subOverflows32_iff (a b : Word32) : subOverflows32 a b = true ↔ ¬FitsSigned 31 (a.toInt - b.toInt) := subOverflows_iff a b

theorem addOverflows64_iff (a b : Word) : addOverflows64 a b = true ↔ ¬FitsSigned 63 (a.toInt + b.toInt) := addOverflows_iff a b

theorem subOverflows64_iff (a b : Word) : subOverflows64 a b = true ↔ ¬FitsSigned 63 (a.toInt - b.toInt) := subOverflows_iff a b

/-! ### Sums that trap -/

/-- What an instruction with an exact signed result does: it writes `n` where that fits in `w + 1` bits, else it takes the Integer
Overflow exception. -/
def ExactOrOverflow (s : State) (o : Out) (r : RegNum) (w : Nat) (n : Int) : Prop :=
  (FitsSigned w n → GprResult s o r (BitVec.ofInt 64 n)) ∧ (¬FitsSigned w n → Takes s o .overflow)

/-- A 32-bit operation that traps writes the exact result where its test of overflow finds that it fits (41_alu.md R280, R305). -/
theorem trappingWord_exact {s : State} {sources : List Word} {overflow : Bool} {v : Word32} {n : Int} (r : RegNum)
    (hl : s.leavesSegment = false) (hs : sources.all isWord = true) (ho : overflow = true ↔ ¬FitsSigned 31 n)
    (hv : v.toInt = n.bmod (2 ^ 32)) : ExactOrOverflow s (s.trappingWord r sources overflow v) r 31 n := by
  rw [State.trappingWord, hs, Bool.true_and]
  refine ⟨fun hfits => ?fits, fun hfits => ?traps⟩
  case fits =>
    rw [if_neg (mt ho.mp (not_not.mpr hfits))]
    exact writeWord_result r hl hs (hv.trans hfits.bmod_eq)
  case traps =>
    rw [if_pos (ho.mpr hfits)]
    rfl

theorem trappingDouble_exact {s : State} {overflow : Bool} {v : Word} {n : Int} (r : RegNum) (hl : s.leavesSegment = false)
    (ho : overflow = true ↔ ¬FitsSigned 63 n) (hv : v = BitVec.ofInt 64 n) :
    ExactOrOverflow s (s.trappingDouble r overflow v) r 63 n := by
  rw [State.trappingDouble, hv]
  refine ⟨fun hfits => ?fits, fun hfits => ?traps⟩
  case fits =>
    rw [if_neg (mt ho.mp (not_not.mpr hfits))]
    exact writeGpr_result s r _ hl
  case traps =>
    rw [if_pos (ho.mpr hfits)]
    rfl

theorem trappingWordSums : Claim.TrappingWordSums := by
  unfold Claim.TrappingWordSums
  intro s rd rs rt imm hl ha
  refine ⟨fun hb => ⟨?add, ?sub⟩, ?addi⟩
  case add =>
    rw [← toInt_low32 ha, ← toInt_low32 hb]
    exact trappingWord_exact rd hl (all_isWord_pair ha hb) (addOverflows32_iff _ _) (BitVec.toInt_add _ _)
  case sub =>
    rw [← toInt_low32 ha, ← toInt_low32 hb]
    exact trappingWord_exact rd hl (all_isWord_pair ha hb) (subOverflows32_iff _ _) BitVec.toInt_sub
  case addi =>
    rw [← toInt_low32 ha, ← toInt_immSext32]
    exact trappingWord_exact rt hl (all_isWord_single ha) (addOverflows32_iff _ _) (BitVec.toInt_add _ _)

theorem trappingDoubleSums : Claim.TrappingDoubleSums := by
  unfold Claim.TrappingDoubleSums
  intro s rd rs rt imm hl
  refine ⟨?dadd, ?dsub, ?daddi⟩
  case dadd => exact trappingDouble_exact rd hl (addOverflows64_iff _ _) (add_eq_ofInt _ _)
  case dsub => exact trappingDouble_exact rd hl (subOverflows64_iff _ _) (sub_eq_ofInt _ _)
  case daddi =>
    rw [← toInt_immSext]
    exact trappingDouble_exact rt hl (addOverflows64_iff _ _) (add_eq_ofInt _ _)

/-- Settles O10: the test of overflow is whether the exact sum fits, and a sum that fits is what wraps to the register. -/
theorem trappingSums : Obligations.TrappingSums := ⟨trappingWordSums, trappingDoubleSums⟩

/-! ### Logic and comparisons -/

theorem logicResults : Claim.LogicResults := by
  unfold Claim.LogicResults
  intro s rd rs rt imm hl
  rw [← immZext_eq_ofNat, ← immUpper_eq_ofInt]
  have hresult := fun r v => writeGpr_result s r v hl
  exact ⟨hresult rd _, hresult rd _, hresult rd _, hresult rd _, hresult rt _, hresult rt _, hresult rt _, hresult rt _⟩

theorem ofBool_decide (p : Prop) [Decidable p] : ofBool (decide p) = if p then 1 else 0 := by
  simp only [ofBool, decide_eq_true_eq]

theorem ofBool_ltSigned (a b : Word) : ofBool (ltSigned a b) = if a.toInt < b.toInt then 1 else 0 := ofBool_decide _

theorem ofBool_ltUnsigned (a b : Word) : ofBool (ltUnsigned a b) = if a.toNat < b.toNat then 1 else 0 := ofBool_decide _

theorem setLessResults : Claim.SetLessResults := by
  unfold Claim.SetLessResults
  intro s rd rs rt imm hl
  rw [← toInt_immSext, BitVec.ofInt_toInt]
  simp only [← ofBool_ltSigned, ← ofBool_ltUnsigned]
  exact ⟨writeGpr_result s rd _ hl, writeGpr_result s rd _ hl, writeGpr_result s rt _ hl, writeGpr_result s rt _ hl⟩

/-! ### Shifts -/

section
variable {w : Nat} (x : BitVec w) (n : Nat)

theorem shiftLeft_eq_ofNat : x <<< n = BitVec.ofNat w (x.toNat * 2 ^ n) := by
  apply BitVec.eq_of_toNat_eq
  rw [BitVec.toNat_shiftLeft, BitVec.toNat_ofNat, Nat.shiftLeft_eq]

theorem ushiftRight_eq_ofNat : x >>> n = BitVec.ofNat w (x.toNat / 2 ^ n) := by
  rw [← Nat.shiftRight_eq_div_pow, ← BitVec.toNat_ushiftRight, BitVec.ofNat_toNat, BitVec.setWidth_eq]

theorem toInt_sshiftRight_eq_div : (x.sshiftRight n).toInt = x.toInt / 2 ^ n := by
  rw [BitVec.toInt_sshiftRight, Int.shiftRight_eq_div_pow]
  push_cast
  rfl

theorem sshiftRight_eq_ofInt : x.sshiftRight n = BitVec.ofInt w (x.toInt / 2 ^ n) := by
  rw [← toInt_sshiftRight_eq_div, BitVec.ofInt_toInt]

end

/-- The amounts of the variable shifts (44_shift.md R400). -/
theorem amount5_eq (s : State) (rs : RegNum) : s.amount5 rs = (s.gpr rs).toNat % 32 := by
  rw [State.amount5, BitVec.extractLsb'_toNat, Nat.shiftRight_zero]

theorem amount6_eq (s : State) (rs : RegNum) : s.amount6 rs = (s.gpr rs).toNat % 64 := by
  rw [State.amount6, BitVec.extractLsb'_toNat, Nat.shiftRight_zero]

section
variable {s : State} {v : Word} (rd : RegNum) (n : Nat)

theorem shiftLeftWord_result (v : Word) (hl : s.leavesSegment = false) :
    GprResult s (s.writeGpr rd (sext32 (low32 v <<< n))) rd ((BitVec.ofNat 32 (v.toNat % 2 ^ 32 * 2 ^ n)).signExtend 64) := by
  rw [← toNat_low32, ← shiftLeft_eq_ofNat]
  exact writeGpr_result s rd _ hl

theorem shiftRightWord_result (hl : s.leavesSegment = false) (hv : isWord v = true) :
    GprResult s (s.writeGpr rd (s.wordResult [v] (low32 v >>> n))) rd
      ((BitVec.ofNat 32 (v.toNat % 2 ^ 32 / 2 ^ n)).signExtend 64) := by
  rw [← toNat_low32, ← ushiftRight_eq_ofNat]
  exact writeWord_result rd hl (all_isWord_single hv) rfl

theorem arithmeticShiftWord_result (hl : s.leavesSegment = false) (hv : isWord v = true) :
    GprResult s (s.writeGpr rd (s.wordResult [v] ((low32 v).sshiftRight n))) rd (BitVec.ofInt 64 (v.toInt / 2 ^ n)) :=
  writeWord_result rd hl (all_isWord_single hv) (by rw [toInt_sshiftRight_eq_div, toInt_low32 hv])

end

theorem wordShiftResults : Claim.WordShiftResults := by
  unfold Claim.WordShiftResults
  intro s rd rt rs sa hl
  rw [← amount5_eq]
  have hresult := fun v => writeGpr_result s rd v hl
  refine ⟨shiftLeftWord_result rd _ _ hl, shiftLeftWord_result rd _ _ hl, fun hv => ⟨?srl, ?srlv, ?sra, ?srav⟩,
    ⟨_, hresult _⟩, ⟨_, hresult _⟩, ⟨_, hresult _⟩, ⟨_, hresult _⟩⟩
  case srl => exact shiftRightWord_result rd _ hl hv
  case srlv => exact shiftRightWord_result rd _ hl hv
  case sra => exact arithmeticShiftWord_result rd _ hl hv
  case srav => exact arithmeticShiftWord_result rd _ hl hv

theorem doubleShiftResults : Claim.DoubleShiftResults := by
  unfold Claim.DoubleShiftResults
  intro s rd rt rs sa hl
  simp only [← amount6_eq, ← shiftLeft_eq_ofNat, ← ushiftRight_eq_ofNat, ← sshiftRight_eq_ofInt]
  have hresult := fun v => writeGpr_result s rd v hl
  exact ⟨hresult _, hresult _, hresult _, hresult _, hresult _, hresult _, hresult _, hresult _, hresult _⟩

/-- Settles O11: a shift of a register is the product or quotient by a power of two of the integer it holds. -/
theorem logicAndShifts : Obligations.LogicAndShifts := ⟨⟨logicResults, setLessResults⟩, ⟨wordShiftResults, doubleShiftResults⟩⟩

end Machine
end Sys2Proof
end

section
/-! PROOF. Multiply and divide (O12, O13). A product of two numbers of `w` bits is formed in `w + w` bits, where it is exact; HI and
LO are its parts. A quotient or a remainder is the integer one, which the width of the operands holds but in the one case of
overflow. -/

namespace Sys2Proof
namespace Machine

/-! ### Products -/

/-- A field of a number is the floor of its quotient by the power of two below the field, modulo the field's size. -/
theorem extractLsb'_eq_ofInt {n k w : Nat} (v : BitVec n) (h : k + w ≤ n) :
    v.extractLsb' k w = BitVec.ofInt w (v.toInt / 2 ^ k) := by
  have hfield : v.extractLsb' k w = (v.sshiftRight k).signExtend w := by
    ext i hi
    simp [BitVec.getElem_signExtend, BitVec.getElem_sshiftRight, show i < n by omega, show k + i < n by omega]
  rw [hfield, ← toInt_sshiftRight_eq_div]
  rfl

section
variable {w : Nat} (x y : BitVec w)

theorem mul_eq_ofInt : x * y = BitVec.ofInt w (x.toInt * y.toInt) := by
  rw [BitVec.ofInt_mul, BitVec.ofInt_toInt, BitVec.ofInt_toInt]

theorem mul_eq_ofNat : x * y = BitVec.ofNat w (x.toNat * y.toNat) := rfl

/-- Twice the width holds every signed product. -/
theorem toInt_signExtend_mul (hw : 0 < w) : (x.signExtend (w + w) * y.signExtend (w + w)).toInt = x.toInt * y.toInt := by
  rw [BitVec.toInt_mul, BitVec.toInt_signExtend_of_le (Nat.le_add_left w w), BitVec.toInt_signExtend_of_le (Nat.le_add_left w w)]
  have hlow := BitVec.le_toInt_mul_toInt (x := x) (y := y)
  have hhigh := BitVec.toInt_mul_toInt_le (x := x) (y := y)
  have hpow : (2 : Int) ^ (w + w) = 4 * 2 ^ (w * 2 - 2) := by
    rw [show w + w = 2 + (w * 2 - 2) by omega, pow_add]
    norm_num
  have hpos : (0 : Int) < 2 ^ (w * 2 - 2) := by positivity
  apply Int.bmod_eq_of_le_mul_two <;> push_cast <;> omega

/-- Twice the width holds every unsigned product. -/
theorem toNat_setWidth_mul : (x.setWidth (w + w) * y.setWidth (w + w)).toNat = x.toNat * y.toNat := by
  have hprod : x.toNat * y.toNat < 2 ^ (w + w) := by
    rw [pow_add]
    exact Nat.mul_lt_mul'' x.isLt y.isLt
  rw [BitVec.toNat_mul, BitVec.toNat_setWidth_of_le (Nat.le_add_left w w), BitVec.toNat_setWidth_of_le (Nat.le_add_left w w),
    Nat.mod_eq_of_lt hprod]

theorem highPart_signedProduct (hw : 0 < w) :
    (x.signExtend (w + w) * y.signExtend (w + w)).extractLsb' w w = BitVec.ofInt w (x.toInt * y.toInt / 2 ^ w) := by
  rw [extractLsb'_eq_ofInt _ le_rfl, toInt_signExtend_mul x y hw]

theorem highPart_unsignedProduct :
    (x.setWidth (w + w) * y.setWidth (w + w)).extractLsb' w w = BitVec.ofNat w (x.toNat * y.toNat / 2 ^ w) := by
  rw [BitVec.extractLsb', toNat_setWidth_mul, Nat.shiftRight_eq_div_pow]

/-- The low part of a product is the product of the low parts, so that it is the same for a signed and for an unsigned one. -/
theorem lowPart_product {n : Nat} (u v : BitVec n) (h : w ≤ n) (hu : u.setWidth w = x) (hv : v.setWidth w = y) :
    (u * v).extractLsb' 0 w = x * y := by
  rw [← BitVec.setWidth_eq_extractLsb' h, BitVec.setWidth_mul u v h, hu, hv]

theorem setWidth_signExtend_self {n : Nat} (h : w ≤ n) : (x.signExtend n).setWidth w = x := by
  ext i hi
  simp [BitVec.getElem_signExtend, hi, show i < n by omega]

theorem lowPart_signedProduct : (x.signExtend (w + w) * y.signExtend (w + w)).extractLsb' 0 w = x * y :=
  have h := Nat.le_add_left w w
  lowPart_product x y _ _ h (setWidth_signExtend_self x h) (setWidth_signExtend_self y h)

theorem lowPart_unsignedProduct : (x.setWidth (w + w) * y.setWidth (w + w)).extractLsb' 0 w = x * y :=
  have h := Nat.le_add_left w w
  lowPart_product x y _ _ h (BitVec.setWidth_setWidth_of_le x h |>.trans (BitVec.setWidth_eq x))
    (BitVec.setWidth_setWidth_of_le y h |>.trans (BitVec.setWidth_eq y))

end

/-- The upper half of a signed product of words is the floor of its quotient by 2^32, which a word holds (42_muldiv.md R321). -/
theorem sext32_highPart_signedProduct (x y : Word32) :
    sext32 ((x.signExtend 64 * y.signExtend 64).extractLsb' 32 32) = BitVec.ofInt 64 (x.toInt * y.toInt / 2 ^ 32) := by
  have hlow := BitVec.le_toInt_mul_toInt (x := x) (y := y)
  have hhigh := BitVec.toInt_mul_toInt_le (x := x) (y := y)
  have hfits : (BitVec.ofInt 32 (x.toInt * y.toInt / 2 ^ 32)).toInt = x.toInt * y.toInt / 2 ^ 32 := by
    apply BitVec.toInt_ofInt_eq_self (by decide) <;> omega
  rw [highPart_signedProduct x y (by decide), sext32_eq_ofInt, hfits]

theorem toInt_low32_eq_bmod (v : Word) : (low32 v).toInt = v.toInt.bmod (2 ^ 32) := by
  rw [low32, extractLsb'_eq_ofInt v (by decide), BitVec.toInt_ofInt, pow_zero, Int.ediv_one]

/-- The low word of a product depends on the low words of its factors only. -/
theorem sext32_mul_low32 (a b : Word) : sext32 (low32 a * low32 b) = BitVec.ofInt 64 ((a.toInt * b.toInt).bmod (2 ^ 32)) := by
  rw [sext32_eq_ofInt, BitVec.toInt_mul, toInt_low32_eq_bmod, toInt_low32_eq_bmod, Int.bmod_mul_bmod, Int.mul_bmod_bmod]

theorem sext32_low32_signedProduct (a b : Word) :
    sext32 (low32 ((low32 a).signExtend 64 * (low32 b).signExtend 64)) = BitVec.ofInt 64 ((a.toInt * b.toInt).bmod (2 ^ 32)) := by
  rw [low32, lowPart_signedProduct, sext32_mul_low32]

theorem sext32_low32_unsignedProduct (a b : Word) :
    sext32 (low32 ((low32 a).setWidth 64 * (low32 b).setWidth 64)) = BitVec.ofInt 64 ((a.toInt * b.toInt).bmod (2 ^ 32)) := by
  rw [low32, lowPart_unsignedProduct, sext32_mul_low32]

/-! ### Results in HI and LO -/

/-- The instruction completes with some values in HI and LO, and changes nothing else. -/
def SomeHiLoResult (s : State) (o : Out) : Prop := ∃ hi lo, HiLoResult s o hi lo

section
variable {s : State} {rs rt : RegNum}

theorem writeHiLo_result_of_eq {hi lo hi' lo' : Word} (hl : s.leavesSegment = false) (hhi : hi = hi') (hlo : lo = lo') :
    HiLoResult s (s.writeHiLo hi lo) hi' lo' := hhi ▸ hlo ▸ writeHiLo_result s hi lo hl

theorem writeHiLo_someResult (hl : s.leavesSegment = false) (hi lo : Word) : SomeHiLoResult s (s.writeHiLo hi lo) :=
  ⟨hi, lo, writeHiLo_result s hi lo hl⟩

theorem ite_someResult {c : Prop} [Decidable c] {o p : Out} (ho : SomeHiLoResult s o) (hp : SomeHiLoResult s p) :
    SomeHiLoResult s (if c then o else p) := by
  split
  · exact ho
  · exact hp

/-- A word form does its operation where both sources are sign-extended words (42_muldiv.md R349). -/
theorem whenWords_result {o : Out} {hi lo : Word} (ha : isWord (s.gpr rs) = true) (hb : isWord (s.gpr rt) = true)
    (ho : HiLoResult s o hi lo) : HiLoResult s (s.whenWords rs rt o) hi lo := by
  rwa [State.whenWords, ha, hb, Bool.true_and, if_pos rfl]

/-- A division does its operation where the test of its operands does not hold (42_muldiv.md R345, R346). -/
theorem ite_result_of_not {c : Prop} [Decidable c] {o p : Out} {hi lo : Word} (hc : ¬c) (hp : HiLoResult s p hi lo) :
    HiLoResult s (if c then o else p) hi lo := by
  rwa [if_neg hc]

theorem whenWords_someResult {o : Out} (hl : s.leavesSegment = false) (ho : SomeHiLoResult s o) :
    SomeHiLoResult s (s.whenWords rs rt o) := ite_someResult ho (writeHiLo_someResult hl _ _)

end

theorem multiplyResults : Claim.MultiplyResults := by
  unfold Claim.MultiplyResults
  intro s rs rt hl
  refine ⟨fun ha hb => ⟨?mult, ?multu⟩, whenWords_someResult hl (writeHiLo_someResult hl _ _),
    whenWords_someResult hl (writeHiLo_someResult hl _ _), ?dmult, ?dmultu⟩
  case mult =>
    have hhi := sext32_highPart_signedProduct (low32 (s.gpr rs)) (low32 (s.gpr rt))
    rw [toInt_low32 ha, toInt_low32 hb] at hhi
    exact whenWords_result ha hb (writeHiLo_result_of_eq hl hhi (sext32_low32_signedProduct _ _))
  case multu =>
    rw [← toNat_low32, ← toNat_low32]
    exact whenWords_result ha hb (writeHiLo_result_of_eq hl (congrArg sext32 (highPart_unsignedProduct _ _))
      (congrArg sext32 ((lowPart_unsignedProduct _ _).trans (mul_eq_ofNat _ _))))
  case dmult =>
    exact writeHiLo_result_of_eq hl (highPart_signedProduct _ _ (by decide)) ((lowPart_signedProduct _ _).trans (mul_eq_ofInt _ _))
  case dmultu =>
    exact writeHiLo_result_of_eq hl (highPart_unsignedProduct _ _) ((lowPart_unsignedProduct _ _).trans (mul_eq_ofNat _ _))

theorem hiLoMoves : Claim.HiLoMoves := by
  unfold Claim.HiLoMoves
  intro s r hl
  exact ⟨writeGpr_result s r _ hl, writeGpr_result s r _ hl, writeHiLo_result s _ _ hl, writeHiLo_result s _ _ hl⟩

theorem writeGpr_result_of_eq {s : State} {v v' : Word} (r : RegNum) (hl : s.leavesSegment = false) (hv : v = v') :
    GprResult s (s.writeGpr r v) r v' := hv ▸ writeGpr_result s r v hl

theorem godson2Multiply : Claim.Godson2Multiply := by
  unfold Claim.Godson2Multiply
  intro s rd rs rt hl
  have hproduct := mul_eq_ofInt (s.gpr rs) (s.gpr rt)
  exact ⟨writeGpr_result_of_eq rd hl (sext32_low32_signedProduct _ _),
    writeGpr_result_of_eq rd hl (sext32_low32_unsignedProduct _ _),
    writeGpr_result_of_eq rd hl ((lowPart_signedProduct _ _).trans hproduct),
    writeGpr_result_of_eq rd hl ((lowPart_unsignedProduct _ _).trans hproduct)⟩

/-- Settles O12: HI and LO, or the general register of a Godson2 form, take the parts of a product that twice the width holds. -/
theorem multiplications : Obligations.Multiplications := ⟨multiplyResults, hiLoMoves, godson2Multiply⟩

/-! ### Quotients and remainders -/

section
variable {w : Nat} (x y : BitVec w)

theorem udiv_eq_ofNat : x / y = BitVec.ofNat w (x.toNat / y.toNat) := by
  rw [← BitVec.toNat_udiv, BitVec.ofNat_toNat, BitVec.setWidth_eq]

theorem umod_eq_ofNat : x % y = BitVec.ofNat w (x.toNat % y.toNat) := by
  rw [← BitVec.toNat_umod, BitVec.ofNat_toNat, BitVec.setWidth_eq]

/-- The width of the operands holds every remainder. -/
theorem toInt_remainder : (remainder x y).toInt = x.toInt.tmod y.toInt := by
  rw [remainder, ← BitVec.toInt_srem, BitVec.ofInt_toInt]

/-- The width of the operands holds every quotient but that of the most negative number by -1 (42_muldiv.md R346). -/
theorem toInt_quotient (h : x ≠ BitVec.intMin w ∨ y ≠ BitVec.allOnes w) : (quotient x y).toInt = x.toInt.tdiv y.toInt := by
  rw [quotient, ← BitVec.toInt_sdiv_of_ne_or_ne x y (by rwa [BitVec.neg_one_eq_allOnes]), BitVec.ofInt_toInt]

end

theorem divOverflows32_iff (a b : Word32) : divOverflows32 a b = true ↔ a.toInt = -2 ^ 31 ∧ b.toInt = -1 := by
  rw [divOverflows32, Bool.and_eq_true, beq_iff_eq, beq_iff_eq, ← BitVec.toInt_inj, ← BitVec.toInt_inj]
  rfl

theorem divOverflows64_iff (a b : Word) : divOverflows64 a b = true ↔ a.toInt = -2 ^ 63 ∧ b.toInt = -1 := by
  rw [divOverflows64, Bool.and_eq_true, beq_iff_eq, beq_iff_eq, ← BitVec.toInt_inj, ← BitVec.toInt_inj]
  rfl

theorem sext32_remainder (a b : Word32) : sext32 (remainder a b) = BitVec.ofInt 64 (a.toInt.tmod b.toInt) := by
  rw [sext32_eq_ofInt, toInt_remainder]

theorem sext32_quotient {a b : Word32} (h : ¬divOverflows32 a b = true) :
    sext32 (quotient a b) = BitVec.ofInt 64 (a.toInt.tdiv b.toInt) := by
  rw [sext32_eq_ofInt, toInt_quotient]
  simpa [divOverflows32, imp_iff_not_or] using h

/-- A register that holds a sign-extended word other than 0 has a low word other than 0. -/
theorem low32_ne_zero {v : Word} (hv : isWord v = true) (h : v ≠ 0) : low32 v ≠ 0 := by
  intro hlow
  have hint : v.toInt = 0 := by rw [← toInt_low32 hv, hlow]; rfl
  exact h (BitVec.eq_of_toInt_eq hint)

theorem divideResults : Claim.DivideResults := by
  unfold Claim.DivideResults
  intro s rs rt hl
  have hsome := writeHiLo_someResult hl
  refine ⟨fun ha hb h0 hfits => ?div, fun ha hb h0 => ?divu, fun h0 hfits => ?ddiv, fun h0 => ?ddivu,
    whenWords_someResult hl (ite_someResult (hsome _ _) (hsome _ _)),
    whenWords_someResult hl (ite_someResult (hsome _ _) (hsome _ _)),
    ite_someResult (hsome _ _) (hsome _ _), ite_someResult (hsome _ _) (hsome _ _)⟩
  case div =>
    rw [← toInt_low32 ha, ← toInt_low32 hb] at hfits ⊢
    rw [← divOverflows32_iff] at hfits
    exact whenWords_result ha hb (ite_result_of_not (by simpa [hfits] using low32_ne_zero hb h0)
      (writeHiLo_result_of_eq hl (sext32_remainder _ _) (sext32_quotient hfits)))
  case divu =>
    rw [← toNat_low32, ← toNat_low32, ← udiv_eq_ofNat, ← umod_eq_ofNat]
    exact whenWords_result ha hb (ite_result_of_not (low32_ne_zero hb h0) (writeHiLo_result s _ _ hl))
  case ddiv =>
    rw [← divOverflows64_iff] at hfits
    exact ite_result_of_not (by simpa [hfits] using h0) (writeHiLo_result s _ _ hl)
  case ddivu =>
    rw [← udiv_eq_ofNat, ← umod_eq_ofNat]
    exact ite_result_of_not h0 (writeHiLo_result s _ _ hl)

section
variable {s : State} (rd : RegNum)

/-- A Godson2 division by a divisor other than 0 writes its word result (42_muldiv.md R345). -/
theorem divideWord_result {b v : Word32} {n : Word} (hl : s.leavesSegment = false) (hb : b ≠ 0) (hv : sext32 v = n) :
    GprResult s (s.divideWord rd b v) rd n := by
  rw [State.divideWord, if_neg hb, hv]
  exact writeGpr_result s rd n hl

theorem divideDouble_result {b v n : Word} (hl : s.leavesSegment = false) (hb : b ≠ 0) (hv : v = n) :
    GprResult s (s.divideDouble rd b v) rd n := by
  rw [State.divideDouble, if_neg hb, hv]
  exact writeGpr_result s rd n hl

end

theorem godson2Divide : Claim.Godson2Divide := by
  unfold Claim.Godson2Divide
  intro s rd rs rt hl
  have hresult := fun v => writeGpr_result s rd v hl
  refine ⟨fun hb => ?word, fun hb => ⟨fun hfits => ?ddivG, ?dmodG, ?ddivuG, ?dmoduG⟩, ⟨_, hresult _⟩, ⟨_, hresult _⟩,
    ⟨_, hresult _⟩, ⟨_, hresult _⟩, ⟨_, hresult _⟩, ⟨_, hresult _⟩, ⟨_, hresult _⟩, ⟨_, hresult _⟩⟩
  case word =>
    rw [← toNat_low32] at hb
    have hlow : low32 (s.gpr rt) ≠ 0 := fun h => hb (by rw [h]; rfl)
    rw [← low32_eq_ofNat, ← low32_eq_ofNat, ← toNat_low32, ← toNat_low32, ← udiv_eq_ofNat, ← umod_eq_ofNat]
    exact ⟨divideWord_result rd hl hlow rfl, divideWord_result rd hl hlow (sext32_remainder _ _),
      divideWord_result rd hl hlow rfl, divideWord_result rd hl hlow rfl⟩
  case ddivG =>
    rw [← divOverflows64_iff] at hfits
    exact divideDouble_result rd hl hb (if_neg hfits)
  case dmodG => exact divideDouble_result rd hl hb rfl
  case ddivuG => exact divideDouble_result rd hl hb (udiv_eq_ofNat _ _)
  case dmoduG => exact divideDouble_result rd hl hb (umod_eq_ofNat _ _)

/-- Settles O13: a division of words is that of the integers in the registers, and only a zero divisor or the quotient that does not
fit leaves a free value, which completes as any other. -/
theorem divisions : Obligations.Divisions := ⟨divideResults, godson2Divide⟩

end Machine
end Sys2Proof
end

section
/-! PROOF. Jumps and branches (O14 to O17). Outside a delay slot each of them is one of two ends, `enterSlot` or the skip of a
branch-likely, behind a condition on a register or on CC0; an and-link form is the same end from the state in which the link register
has been written. -/

namespace Sys2Proof
namespace Machine

/-! ### Targets and conditions as numbers -/

/-- The target of a PC-relative branch (43_branch.md R383). -/
theorem branchTarget_eq_ofInt (pc : Word) (offset : BitVec 16) :
    branchTarget pc offset = pc + 4 + BitVec.ofInt 64 (offset.toInt * 4) := by
  have happend : (offset ++ 0#2).toInt = offset.toInt * 4 := by rw [BitVec.toInt_append_zero]; omega
  exact congrArg (fun n => pc + 4 + BitVec.ofInt 64 n) happend

/-- The target of J and JAL: the region of the delay slot, and the field as a number of words in it (43_branch.md R383). -/
theorem jumpTarget_eq_ofNat (pc : Word) (j : BitVec 26) :
    jumpTarget pc j = BitVec.ofNat 64 ((pc + 4).toNat / 2 ^ 28 * 2 ^ 28 + j.toNat * 4) := by
  have hregion := (pc + 4).isLt
  have hj := j.isLt
  have hfield : (j ++ 0#2).toNat = j.toNat * 4 := by rw [BitVec.toNat_append, Nat.shiftLeft_eq]; simp
  apply BitVec.eq_of_toNat_eq
  rw [jumpTarget, BitVec.toNat_append, hfield, BitVec.extractLsb'_toNat, BitVec.toNat_ofNat, Nat.shiftRight_eq_div_pow,
    ← Nat.shiftLeft_add_eq_or_of_lt (by omega), Nat.shiftLeft_eq]
  omega

section
variable (s : State) (rs : RegNum)

theorem isNegative_iff : s.isNegative rs = true ↔ (s.gpr rs).toInt < 0 := by
  simp [State.isNegative, ltSigned, BitVec.slt_iff_toInt_lt]

theorem not_isNegative_iff : (!s.isNegative rs) = true ↔ 0 ≤ (s.gpr rs).toInt := by
  rw [Bool.not_eq_true', ← Bool.not_eq_true, isNegative_iff, not_lt]

theorem isNotPositive_iff : s.isNotPositive rs = true ↔ (s.gpr rs).toInt ≤ 0 := by
  simp [State.isNotPositive, ltSigned, BitVec.slt_eq_decide]

theorem not_isNotPositive_iff : (!s.isNotPositive rs) = true ↔ 0 < (s.gpr rs).toInt := by
  rw [Bool.not_eq_true', ← Bool.not_eq_true, isNotPositive_iff, not_le]

end

/-! ### The ends of a branch -/

section
variable {s : State} {taken : Bool} {p : Prop} (offset : BitVec 16)

theorem branch_enters [Decidable p] (hp : taken = true ↔ p) (hl : s.leavesAfter 4 = false) :
    EntersSlot s (s.branch taken offset) (if p then some (s.pc + 4 + BitVec.ofInt 64 (offset.toInt * 4)) else none) := by
  simp only [State.branch, hp, branchTarget_eq_ofInt]
  exact enterSlot_enters s _ hl

theorem branchLikely_skips (hl : s.leavesAfter 8 = false) : SkipsSlot s (s.branchLikely false offset) := by
  refine ⟨{ s with pc := s.pc + 8, delay := .none }, ?_, rfl, rfl, fun _ => rfl, fun _ => rfl, rfl⟩
  simp [State.branchLikely, hl]

/-- What a branch-likely to `target` does (43_branch.md R360): taken, as the ordinary branch; not taken, the slot is skipped. Either way
the next instruction must lie in the segment of the branch (entry 55). -/
def LikelyResult (s : State) (o : Out) (target : Word) (p : Prop) : Prop :=
  (p → s.leavesAfter 4 = false → EntersSlot s o (some target)) ∧ (¬p → s.leavesAfter 8 = false → SkipsSlot s o)

theorem branchLikely_result (hp : taken = true ↔ p) :
    LikelyResult s (s.branchLikely taken offset) (s.pc + 4 + BitVec.ofInt 64 (offset.toInt * 4)) p := by
  rw [← branchTarget_eq_ofInt]
  refine ⟨fun h hl => ?taken, fun h hl => ?skipped⟩
  case taken =>
    rw [hp.mpr h]
    exact enterSlot_enters s _ hl
  case skipped =>
    rw [Bool.eq_false_iff.mpr (mt hp.mp h)]
    exact branchLikely_skips offset hl

end

/-! ### The and-link forms -/

/-- As `LikelyResult`, with the link value in general register 31 (43_branch.md R384). -/
def LinkingLikelyResult (s : State) (o : Out) (target : Word) (p : Prop) : Prop :=
  (p → s.leavesAfter 4 = false → LinksAndEntersSlot s o 31 (some target)) ∧
  (¬p → s.leavesAfter 8 = false → LinksAndSkipsSlot s o)

section
variable {s t : State} {rd : RegNum} {v : Word} {o : Out}

/-- A change of the pc after a register write is a change of that register and the pc. -/
theorem OnlyPc.onlyGpr (h : OnlyPc (s.setGpr rd v) t) : OnlyGpr s t rd := by
  obtain ⟨hgprs, hbytes, hrest⟩ := h
  refine ⟨fun r hr => (hgprs r).trans (setGpr_gpr_ne s rd r v hr), fun a => ?_, ?_⟩
  · simpa [State.byteAt] using hbytes a
  · rw [hrest, setGpr_eta]

theorem EntersSlot.links {target : Option Word} (h : EntersSlot (s.setGpr rd s.linkValue) o target) :
    LinksAndEntersSlot s o rd target := by
  obtain ⟨t, ho, hpc, hdelay, honly⟩ := h
  exact ⟨t, ho, by simpa using hpc, hdelay, (honly.gprs rd).trans (setGpr_gpr_self s rd _), honly.onlyGpr⟩

theorem SkipsSlot.links (h : SkipsSlot s.link o) : LinksAndSkipsSlot s o := by
  obtain ⟨t, ho, hpc, hdelay, honly⟩ := h
  exact ⟨t, ho, by simpa [State.link] using hpc, hdelay, (honly.gprs 31).trans (setGpr_gpr_self s 31 _), honly.onlyGpr⟩

theorem LikelyResult.links {target : Word} {p : Prop} (h : LikelyResult s.link o target p) : LinkingLikelyResult s o target p := by
  obtain ⟨htaken, hskipped⟩ := h
  exact ⟨fun hp hl => (htaken hp ((setGpr_leavesAfter s 31 _ 4).trans hl)).links,
    fun hp hl => (hskipped hp ((setGpr_leavesAfter s 31 _ 8).trans hl)).links⟩

theorem setGpr_enterSlot_links (target : Option Word) (hl : s.leavesAfter 4 = false) :
    LinksAndEntersSlot s ((s.setGpr rd s.linkValue).enterSlot target) rd target :=
  (enterSlot_enters _ target ((setGpr_leavesAfter s rd _ 4).trans hl)).links

end

section
variable {s : State} {taken : Bool} {p : Prop} (offset : BitVec 16)

theorem link_pc : s.link.pc = s.pc := setGpr_pc s 31 _

theorem link_branch_links [Decidable p] (hp : taken = true ↔ p) (hl : s.leavesAfter 4 = false) :
    LinksAndEntersSlot s (s.link.branch taken offset) 31
      (if p then some (s.pc + 4 + BitVec.ofInt 64 (offset.toInt * 4)) else none) := by
  rw [← link_pc]
  exact (branch_enters offset hp ((setGpr_leavesAfter s 31 _ 4).trans hl)).links

theorem link_branchLikely_links (hp : taken = true ↔ p) :
    LinkingLikelyResult s (s.link.branchLikely taken offset) (s.pc + 4 + BitVec.ofInt 64 (offset.toInt * 4)) p := by
  rw [← link_pc]
  exact (branchLikely_result offset hp).links

end

/-! ### Jumps, ordinary branches and branch-likely forms outside a delay slot -/

/-- The two tests of an and-link branch pass. -/
theorem outsideSlot_linkAllowed {s : State} {rs : RegNum} (act : Out) (hd : s.delay = .none) (hr : rs ≠ 31) :
    s.outsideSlot (linkAllowed rs act) = act := (outsideSlot_of_none s _ hd).trans (if_neg hr)

/-- The two tests of a branch on CC0 pass. -/
theorem whenCp1_outsideSlot {s : State} (act : Out) (hu : s.cp1Usable = true) (hd : s.delay = .none) :
    s.whenCp1 (s.outsideSlot act) = act := (whenCp1_usable s _ hu).trans (outsideSlot_of_none s act hd)

theorem jumpResults : Claim.JumpResults := by
  unfold Claim.JumpResults
  intro s rd rs j hd hl region
  have hregion : jumpTarget s.pc j = region := jumpTarget_eq_ofNat s.pc j
  have hj : exec (.j j) s = s.enterSlot (some region) := hregion ▸ outsideSlot_of_none s _ hd
  have hjal : exec (.jal j) s = s.link.enterSlot (some region) := hregion ▸ outsideSlot_of_none s _ hd
  have hjr : exec (.jr rs) s = s.enterSlot (some (s.gpr rs)) := outsideSlot_of_none s _ hd
  rw [hj, hjal, hjr]
  refine ⟨enterSlot_enters s _ hl, setGpr_enterSlot_links _ hl, enterSlot_enters s _ hl, fun hne => ?jalr⟩
  case jalr =>
    have hjalr : exec (.jalr rd rs) s = (s.setGpr rd s.linkValue).enterSlot (some (s.gpr rs)) :=
      (outsideSlot_of_none s _ hd).trans (if_neg hne)
    rw [hjalr]
    exact setGpr_enterSlot_links _ hl

theorem branchResults : Claim.BranchResults := by
  unfold Claim.BranchResults
  intro s rs rt offset hd hl target a
  have henters : ∀ {taken : Bool} {p : Prop} [Decidable p], (taken = true ↔ p) →
      EntersSlot s (s.outsideSlot (s.branch taken offset)) (if p then some target else none) := fun hp =>
    (outsideSlot_of_none s _ hd).symm ▸ branch_enters offset hp hl
  exact ⟨henters beq_iff_eq, henters bne_iff_ne, henters (isNotPositive_iff s rs), henters (not_isNotPositive_iff s rs),
    henters (isNegative_iff s rs), henters (not_isNegative_iff s rs)⟩

theorem andLinkBranchResults : Claim.AndLinkBranchResults := by
  unfold Claim.AndLinkBranchResults
  intro s rs offset hd hl hr target a
  have hbltzal : exec (.bltzal rs offset) s = s.link.branch (s.isNegative rs) offset := outsideSlot_linkAllowed _ hd hr
  have hbgezal : exec (.bgezal rs offset) s = s.link.branch (!s.isNegative rs) offset := outsideSlot_linkAllowed _ hd hr
  rw [hbltzal, hbgezal]
  exact ⟨link_branch_links offset (isNegative_iff s rs) hl, link_branch_links offset (not_isNegative_iff s rs) hl⟩

/-- Settles O14: each form is one end, `enterSlot`, with its target and condition. -/
theorem jumpsAndBranches : Obligations.JumpsAndBranches := ⟨jumpResults, branchResults, andLinkBranchResults⟩

theorem likelyBranchResults : Claim.LikelyBranchResults := by
  unfold Claim.LikelyBranchResults
  intro s rs rt offset hd target a likely linking
  have hlikely : ∀ {taken : Bool} {p : Prop}, (taken = true ↔ p) → likely (s.outsideSlot (s.branchLikely taken offset)) p := fun hp =>
    (outsideSlot_of_none s _ hd).symm ▸ branchLikely_result offset hp
  refine ⟨hlikely beq_iff_eq, hlikely bne_iff_ne, hlikely (isNotPositive_iff s rs), hlikely (not_isNotPositive_iff s rs),
    hlikely (isNegative_iff s rs), hlikely (not_isNegative_iff s rs), fun hr => ?linking⟩
  case linking =>
    have hbltzall : exec (.bltzall rs offset) s = s.link.branchLikely (s.isNegative rs) offset := outsideSlot_linkAllowed _ hd hr
    have hbgezall : exec (.bgezall rs offset) s = s.link.branchLikely (!s.isNegative rs) offset := outsideSlot_linkAllowed _ hd hr
    rw [hbltzall, hbgezall]
    exact ⟨link_branchLikely_links offset (isNegative_iff s rs), link_branchLikely_links offset (not_isNegative_iff s rs)⟩

theorem fpBranchResults : Claim.FpBranchResults := by
  unfold Claim.FpBranchResults
  intro s offset hd hu target
  have hbc1f : exec (.bc1f offset) s = s.branch (!s.fcsr.cc0) offset := whenCp1_outsideSlot _ hu hd
  have hbc1t : exec (.bc1t offset) s = s.branch s.fcsr.cc0 offset := whenCp1_outsideSlot _ hu hd
  have hbc1fl : exec (.bc1fl offset) s = s.branchLikely (!s.fcsr.cc0) offset := whenCp1_outsideSlot _ hu hd
  have hbc1tl : exec (.bc1tl offset) s = s.branchLikely s.fcsr.cc0 offset := whenCp1_outsideSlot _ hu hd
  have hclear : (!s.fcsr.cc0) = true ↔ s.fcsr.cc0 = false := by rw [Bool.not_eq_true']
  obtain ⟨hflTaken, hflSkips⟩ := branchLikely_result (s := s) offset hclear
  obtain ⟨htlTaken, htlSkips⟩ := branchLikely_result (s := s) offset (Iff.refl (s.fcsr.cc0 = true))
  rw [hbc1f, hbc1t, hbc1fl, hbc1tl]
  exact ⟨fun hl => ⟨branch_enters offset hclear hl, branch_enters offset Iff.rfl hl, fun h => hflTaken h hl, fun h => htlTaken h hl⟩,
    fun hl => ⟨fun h => htlSkips (by simp [h]) hl, fun h => hflSkips (by simp [h]) hl⟩⟩

/-- Settles O15: each form is `branchLikely`, or for BC1F and BC1T `branch`, with its condition. -/
theorem likelyAndFpBranches : Obligations.LikelyAndFpBranches := ⟨likelyBranchResults, fpBranchResults⟩

/-! ### A branch and its delay slot -/

/-- Settles O16: the slot begins with the target pending, so its end goes there. -/
theorem delaySlotThenTarget : Obligations.DelaySlotThenTarget := by
  unfold Obligations.DelaySlotThenTarget
  intro s rs rt rd rb offset imm hd hl heq
  obtain ⟨hbeq, -⟩ := branchResults s rs rt offset hd hl
  rw [if_pos heq] at hbeq
  obtain ⟨u, hu, -, hdelay, ⟨hugprs, hubytes, -⟩⟩ := hbeq
  have hstays : u.leavesSegment = false := by simp [State.leavesSegment, hdelay]
  obtain ⟨v, hv, ⟨hpc, hnone⟩, hresult, ⟨hvgprs, hvbytes, -⟩⟩ := writeGpr_result u rd (u.gpr rb + immSext imm) hstays
  refine ⟨u, v, hu, hv, ?pc, hnone, fun hrd => ?sum, fun r hr => (hvgprs r hr).trans (hugprs r),
    fun a => (hvbytes a).trans (hubytes a)⟩
  case pc => simpa [State.nextPc, hdelay] using hpc
  case sum => rw [hresult, if_neg hrd, hugprs, immSext_eq_ofInt]

/-! ### Refusals -/

theorem outsideSlot_refused {s : State} (act : Out) (h : s.inDelaySlot = true) : s.outsideSlot act = .refused .branchInDelaySlot :=
  if_pos h

/-- An and-link branch on r31 (43_branch.md R372, R373, R380, R381). -/
theorem linkAllowed_refused {s : State} (act : Out) (h : s.delay = .none) :
    s.outsideSlot (linkAllowed 31 act) = .refused .linkRegisterSource := outsideSlot_of_none s _ h

/-- Settles O17: every form tests first that it is in no delay slot, and an and-link form then tests its register. -/
theorem branchRefusals : Obligations.BranchRefusals := by
  unfold Obligations.BranchRefusals
  intro s rd rs rt offset j
  refine ⟨fun hslot => ⟨?integer, fun hu => ?fpu, fun hu => ?eret⟩, fun hd => ⟨?jalr, ?linking⟩⟩
  case integer =>
    intro i hi
    fin_cases hi <;> exact outsideSlot_refused _ hslot
  case fpu =>
    have hrefused : ∀ act, s.whenCp1 (s.outsideSlot act) = .refused .branchInDelaySlot := fun act =>
      (whenCp1_usable s _ hu).trans (outsideSlot_refused act hslot)
    intro i hi
    fin_cases hi <;> exact hrefused _
  case eret => exact (whenCp0_usable s _ hu).trans (outsideSlot_refused _ hslot)
  case jalr => exact (outsideSlot_of_none s _ hd).trans (if_pos rfl)
  case linking =>
    intro i hi
    fin_cases hi <;> exact linkAllowed_refused _ hd

end Machine
end Sys2Proof
end

section
/-! PROOF. SYSCALL, BREAK and the conditional traps (O18). The conditional traps have one end, `trapWhen`, behind a comparison of a
register with a register or an immediate; so each is that end with the meaning of its comparison as one of integers. -/

namespace Sys2Proof
namespace Machine

/-! ### Comparisons as integers (00_scope.md R12) -/

section
variable (a b : Word)

theorem ltSigned_iff : ltSigned a b = true ↔ a.toInt < b.toInt := BitVec.slt_iff_toInt_lt

theorem not_ltSigned_iff : (!ltSigned a b) = true ↔ b.toInt ≤ a.toInt := by
  rw [Bool.not_eq_true', ← Bool.not_eq_true, ltSigned_iff, not_lt]

theorem ltUnsigned_iff : ltUnsigned a b = true ↔ a.toNat < b.toNat := BitVec.ult_iff_lt

theorem not_ltUnsigned_iff : (!ltUnsigned a b) = true ↔ b.toNat ≤ a.toNat := by
  rw [Bool.not_eq_true', ← Bool.not_eq_true, ltUnsigned_iff, not_lt]

end

/-! ### The end of a conditional trap -/

/-- What a conditional trap does: the Trap exception where `c` holds, else nothing but the advance (45_special_trap.md R425, R440). -/
def TrapsWhere (s : State) (o : Out) (c : Prop) : Prop := (c → Takes s o .trap) ∧ (¬c → NoEffect s o)

theorem trapWhen_trapsWhere {s : State} {b : Bool} {c : Prop} (hl : s.leavesSegment = false) (hc : b = true ↔ c) :
    TrapsWhere s (s.trapWhen b) c := by
  refine ⟨fun h => ?traps, fun h => ?goesOn⟩
  case traps => exact if_pos (hc.mpr h)
  case goesOn =>
    have hadvance : s.trapWhen b = s.advance := if_neg (mt hc.mp h)
    rw [hadvance]
    exact advance_noEffect s hl

/-! ### The instructions -/

theorem syscallAndBreak : Claim.SyscallAndBreak := fun _ _ => ⟨rfl, rfl⟩

theorem conditionalTraps : Claim.ConditionalTraps := by
  unfold Claim.ConditionalTraps
  intro s rs rt code imm hl ends a b i
  have htraps : ∀ {t : Bool} {c : Prop}, (t = true ↔ c) → ends (s.trapWhen t) c := trapWhen_trapsWhere hl
  have himm : imm.toInt = i.toInt := (toInt_immSext imm).symm
  rw [himm]
  refine ⟨htraps (not_ltSigned_iff a b), htraps (not_ltUnsigned_iff a b), htraps (ltSigned_iff a b), htraps (ltUnsigned_iff a b),
    htraps beq_iff_eq, htraps bne_iff_ne, htraps (not_ltSigned_iff a i), htraps (not_ltUnsigned_iff a i),
    htraps (ltSigned_iff a i), htraps (ltUnsigned_iff a i), ?teqi, ?tnei⟩
  case teqi => exact htraps (beq_iff_eq.trans BitVec.toInt_inj.symm)
  case tnei => exact htraps (bne_iff_ne.trans (not_congr BitVec.toInt_inj.symm))

/-- Settles O18: SYSCALL and BREAK always raise, and each conditional trap is `trapWhen` with its comparison. -/
theorem systemCallsAndTraps : Obligations.SystemCallsAndTraps := ⟨syscallAndBreak, conditionalTraps⟩

end Machine
end Sys2Proof
end

section
/-! PROOF. ERET (O21), and the instructions that coprocessors 0 and 1 own where they are not usable (O22). -/

namespace Sys2Proof
namespace Machine

/-! ### ERET -/

/-- ERET where CP0 is usable and no branch is pending. -/
theorem eret_next (s : State) (hu : s.cp0Usable = true) (hd : s.delay = .none) : exec .eret s = .next s.exceptionReturn :=
  (whenCp0_usable s _ hu).trans (outsideSlot_of_none s _ hd)

theorem exceptionReturn_errorLevel (s : State) (h : s.cp0.status.erl = true) :
    s.exceptionReturn = { s with
      pc := s.cp0.errorEpc, cp0 := { s.cp0 with status := { s.cp0.status with erl := false } }, llBit := false, delay := .none } :=
  if_pos h

theorem exceptionReturn_exceptionLevel (s : State) (h : s.cp0.status.erl = false) :
    s.exceptionReturn = { s with
      pc := s.cp0.epc, cp0 := { s.cp0 with status := { s.cp0.status with exl := false } }, llBit := false, delay := .none } :=
  if_neg (by simp [h])

theorem eretSetsPc : Claim.EretReturns := by
  unfold Claim.EretReturns
  intro s hu hd
  refine ⟨s.exceptionReturn, eret_next s hu hd, ?_⟩
  cases herl : s.cp0.status.erl with
  | true =>
    rw [exceptionReturn_errorLevel s herl]
    exact ⟨rfl, fun _ => ⟨rfl, rfl⟩, nofun, fun _ => rfl, fun _ => rfl, rfl⟩
  | false =>
    rw [exceptionReturn_exceptionLevel s herl]
    exact ⟨rfl, nofun, fun _ => ⟨rfl, rfl⟩, fun _ => rfl, fun _ => rfl, rfl⟩

theorem restartPc_eq (s : State) : s.restartPc = if s.delay = .none then s.pc else s.pc - 4 := by
  split
  · next h => simp [State.restartPc, inDelaySlot_eq_false s h]
  · next h => simp [State.restartPc, inDelaySlot_eq_true s h]

theorem mode_congr {s t : State} (h : t.cp0.status = s.cp0.status) : t.mode = s.mode := by simp only [State.mode, h]

theorem eretUndoesException : Claim.EretUndoesException := by
  unfold Claim.EretUndoesException
  intro s e hexl herl
  have hstatus := takeException_status s e
  have hkernel : (s.takeException e).cp0Usable = true := by
    simp [State.cp0Usable, mode_of_exl _ (congrArg StatusReg.exl hstatus)]
  have hepc : (s.takeException e).cp0.epc = if s.delay = .none then s.pc else s.pc - 4 := by
    rw [takeException_epc, hexl, ← restartPc_eq]; rfl
  have hback : { (s.takeException e).cp0.status with exl := false } = s.cp0.status := by
    rw [hstatus]; exact congrArg (fun b => { s.cp0.status with exl := b }) hexl.symm
  refine ⟨_, eret_next _ hkernel rfl, ?_⟩
  rw [exceptionReturn_exceptionLevel _ ((congrArg StatusReg.erl hstatus).trans herl)]
  exact ⟨hepc, hback, mode_congr hback, rfl, rfl, takeException_gpr s e, byteAt_congr _ s (takeException_memory s e)⟩

/-- Settles O21. -/
theorem eretReturns : Obligations.EretReturns := ⟨eretSetsPc, eretUndoesException⟩

/-! ### Coprocessor Unusable -/

/-- Every privileged instruction tests first whether CP0 is usable (46_cp0.md R455). -/
theorem exec_privileged (s : State) (i : Instr) (h : isPrivileged i = true) : ∃ act, exec i s = s.whenCp0 act := by
  cases i with
  | mtc0 | dmtc0 | tlbp | tlbr | tlbwi | tlbwr | eret | cache => exact ⟨_, rfl⟩
  | mfc0 rt rd | dmfc0 rt rd =>
    have hrd : rd ≠ 24 ∧ rd ≠ 25 := by simpa [isPrivileged, encode] using h
    exact ⟨_, if_neg (by simpa [← BitVec.toNat_inj] using hrd)⟩
  | _ => simp [isPrivileged, encode] at h

/-- Every instruction of the floating-point unit, that is of opcode COP1 or one of its loads and stores, tests first whether CP1 is
usable (47_fpu_move_branch.md R500). -/
theorem exec_usesFpu (s : State) (i : Instr) (h : usesFpu i = true) : ∃ act, exec i s = s.whenCp1 act := by
  cases i
  all_goals simp [usesFpu, encode] at h
  all_goals exact ⟨_, rfl⟩

theorem cp0Usable_eq_false (s : State) (hm : s.mode ≠ .kernel) (hcu : s.cp0.status.cu.getLsbD 0 = false) :
    s.cp0Usable = false := by
  rw [State.cp0Usable, hcu, Bool.or_false]
  simpa using hm

theorem privilegedInstructionsTrap : Claim.PrivilegedInstructionsTrap := by
  unfold Claim.PrivilegedInstructionsTrap
  intro s i hi hm hcu
  obtain ⟨act, hact⟩ := exec_privileged s i hi
  exact hact.trans (whenCp0_unusable s act (cp0Usable_eq_false s hm hcu))

theorem fpuUnusableTraps : Claim.FpuUnusableTraps := by
  unfold Claim.FpuUnusableTraps
  intro s i hi hcu
  obtain ⟨act, hact⟩ := exec_usesFpu s i hi
  exact hact.trans (whenCp1_unusable s act hcu)

/-- Settles O22. -/
theorem unusableCoprocessorTraps : Obligations.UnusableCoprocessorTraps :=
  ⟨privilegedInstructionsTrap, fpuUnusableTraps⟩

end Machine
end Sys2Proof
end

section
/-! PROOF. MFC0 and DMFC0, and what each CP0 register reads as (O26). A register is a word made of its fields, so a field is read back
where it lies in the word, and the low 32 bits of a sign-extended word are the word's. -/

namespace Sys2Proof
namespace Machine

/-! ### The moves from CP0 -/

theorem cp0Read_named (s : State) (r : RegNum) (h : cp0Named r = true) : ∃ v, s.cp0Read r = some v := by
  unfold State.cp0Read
  dsimp only
  split
  case h_27 =>
    have := r.isLt
    simp only [cp0Named, List.contains_cons, List.contains_nil, imp_false] at *
    simp at h
    omega
  all_goals exact ⟨_, rfl⟩

/-- A move from CP0 where CP0 is usable, and from registers 24 and 25 in every mode (46_cp0.md R454). -/
theorem moveFromCp0_eq {s : State} {rt rd : RegNum} {v : Word} (value : Word → Word) (hv : s.cp0Read rd = some v)
    (hu : s.cp0Usable = true ∨ rd = 24 ∨ rd = 25) : s.moveFromCp0 rt rd value = s.writeGpr rt (value v) := by
  rw [State.moveFromCp0, hv]
  dsimp only
  split
  · rfl
  · next hrd =>
    refine whenCp0_usable s _ (hu.resolve_right ?_)
    rintro (rfl | rfl) <;> exact hrd rfl

theorem cp0ReadResults : Claim.Cp0ReadResults := by
  unfold Claim.Cp0ReadResults
  intro s rt rd hl hn hu
  obtain ⟨v, hv⟩ := cp0Read_named s rd hn
  have hdouble : exec (.dmfc0 rt rd) s = s.writeGpr rt v := moveFromCp0_eq (fun v => v) hv hu
  have hword : exec (.mfc0 rt rd) s = s.writeGpr rt ((BitVec.ofNat 32 v.toNat).signExtend 64) := by
    rw [← low32_eq_ofNat]
    exact moveFromCp0_eq (fun v => sext32 (low32 v)) hv hu
  rw [hdouble, hword]
  exact ⟨v, hv, writeGpr_result s rt _ hl, writeGpr_result s rt _ hl⟩

/-! ### Words of fields -/

theorem extractLsb'_sext32 {len : Nat} (t : Word32) (start : Nat) (h : start + len ≤ 32) :
    (sext32 t).extractLsb' start len = t.extractLsb' start len := by
  refine BitVec.eq_of_getLsbD_eq fun i hi => ?_
  simp only [BitVec.getLsbD_extractLsb']
  rw [getLsbD_sext32 t _ (by omega)]

/-- A mask of the low word tests a sign-extended word as it does the word. -/
theorem sext32_and_eq_zero {t : Word32} (mask : Word32) (h : t &&& mask = 0) : sext32 t &&& mask.setWidth 64 = 0 := by
  refine BitVec.eq_of_getLsbD_eq fun i hi => ?_
  by_cases hlow : i < 32
  · have hbit := congrArg (fun w : Word32 => w.getLsbD i) h
    rw [BitVec.getLsbD_and, getLsbD_sext32 t i hlow, BitVec.getLsbD_setWidth]
    simpa [hi] using hbit
  · simp [BitVec.getLsbD_of_ge mask i (by omega)]

@[simp] theorem getLsbD_bit_zero (b : Bool) : (bit b).getLsbD 0 = b := by simp [bit]

@[simp] theorem toNat_bit (b : Bool) : (bit b).toNat = b.toNat := BitVec.toNat_ofBool b

theorem getLsbD_append_high {m n : Nat} (a : BitVec m) (b : BitVec n) (i : Nat) (h : n ≤ i) :
    (a ++ b).getLsbD i = a.getLsbD (i - n) := by
  rw [BitVec.getLsbD_append, if_neg (by omega)]

theorem getLsbD_append_low {m n : Nat} (a : BitVec m) (b : BitVec n) (i : Nat) (h : i < n) :
    (a ++ b).getLsbD i = b.getLsbD i := by
  rw [BitVec.getLsbD_append, if_pos h]

/-! ### The registers with plain fields -/

theorem contextReg_word (c : ContextReg) : c.word = BitVec.ofNat 64 (c.pteBase.toNat * 2 ^ 23 + c.badVpn2.toNat * 2 ^ 4) := by
  apply BitVec.eq_of_toNat_eq
  have hzero : (0#4).toNat = 0 := rfl
  rw [ContextReg.word, toNat_append_eq_add, toNat_append_eq_add, hzero, BitVec.toNat_ofNat]
  omega

theorem xcontextReg_word (c : XContextReg) :
    c.word = BitVec.ofNat 64 (c.pteBase.toNat * 2 ^ 37 + c.r.toNat * 2 ^ 35 + c.badVpn2.toNat * 2 ^ 4) := by
  apply BitVec.eq_of_toNat_eq
  have hzero : (0#4).toNat = 0 := rfl
  rw [XContextReg.word, toNat_append_eq_add, toNat_append_eq_add, toNat_append_eq_add, hzero, BitVec.toNat_ofNat]
  omega

theorem entryHi_word (h : EntryHi) :
    h.word = BitVec.ofNat 64 (h.r.toNat * 2 ^ 62 + h.vpn2.toNat * 2 ^ 13 + h.asid.toNat) := by
  apply BitVec.eq_of_toNat_eq
  have hzero : (0#5).toNat = 0 := rfl
  have hfill : (0#18).toNat = 0 := rfl
  rw [EntryHi.word, toNat_append_eq_add, toNat_append_eq_add, toNat_append_eq_add, toNat_append_eq_add, hzero, hfill,
    BitVec.toNat_ofNat]
  omega

theorem pageMask_word (mask : BitVec 12) : (mask ++ 0#13).setWidth 64 = BitVec.ofNat 64 (mask.toNat * 2 ^ 13) := by
  apply BitVec.eq_of_toNat_eq
  have hzero : (0#13).toNat = 0 := rfl
  rw [BitVec.toNat_setWidth, toNat_append_eq_add, hzero, BitVec.toNat_ofNat, Nat.add_zero]

theorem setWidth_eq_ofNat {n : Nat} (x : BitVec n) : x.setWidth 64 = BitVec.ofNat 64 x.toNat := (BitVec.ofNat_toNat 64 x).symm

/-- Status as its fields, KX, SX and UX read 1 (10_state.md R55, R56, R60). -/
theorem statusReg_word_fields (r : StatusReg) :
    r.word.extractLsb' 28 4 = r.cu ∧ r.word.getLsbD 26 = r.fr ∧ r.word.getLsbD 22 = r.bev ∧ r.word.getLsbD 20 = r.sr ∧
      r.word.extractLsb' 8 8 = r.im ∧ r.word.extractLsb' 5 3 = 7 ∧ r.word.extractLsb' 3 2 = r.ksu ∧ r.word.getLsbD 2 = r.erl ∧
      r.word.getLsbD 1 = r.exl ∧ r.word.getLsbD 0 = r.ie := by
  unfold StatusReg.word
  simp (disch := decide) only [Laws.extractLsb'_append_high, Laws.extractLsb'_append_all, getLsbD_append_high,
    getLsbD_append_low, Nat.reduceSub, BitVec.extractLsb'_eq_self, getLsbD_bit_zero, true_and, and_true]
  rfl

theorem statusReg_word_reserved (r : StatusReg) : r.word &&& 0x0BAF0000#32 = 0 := by
  unfold StatusReg.word
  refine BitVec.eq_of_getLsbD_eq fun i hi => ?_
  simp only [BitVec.getLsbD_append, BitVec.getLsbD_and]
  interval_cases i <;> simp

theorem cp0ReadValues : Claim.Cp0ReadValues := by
  unfold Claim.Cp0ReadValues
  intro s
  obtain ⟨hcu, hfr, hbev, hsr, him, hx, hksu, herl, hexl, hie⟩ := statusReg_word_fields s.cp0.status
  refine ⟨congrArg some (setWidth_eq_ofNat _), congrArg some (contextReg_word _), congrArg some (pageMask_word _),
    congrArg some (setWidth_eq_ofNat _), rfl, congrArg some (entryHi_word _), rfl, congrArg some (xcontextReg_word _), rfl,
    sext32 s.cp0.status.word, rfl, ?_⟩
  simp (disch := decide) only [extractLsb'_sext32, getLsbD_sext32, isWord_sext32, hcu, hfr, hbev, hsr, him, hx, hksu, herl, hexl,
    hie, true_and, and_true]
  exact sext32_and_eq_zero _ (statusReg_word_reserved _)

/-! ### The other registers -/

/-- EntryLo: below bit 34 its fields, above it the E bit at its place (10_state.md R45; entry 17). -/
theorem entryLo_word_bit (l : EntryLo) (i : Nat) (hi : i < 64) :
    l.word.getLsbD i =
      ((l.pfn ++ l.c ++ bit l.d ++ bit l.v ++ bit l.g : BitVec 34).getLsbD i ||
        (decide (i = 34 + Config.entryLoEOffset.val) && l.e)) := by
  have he : (if l.e then 1 <<< (34 + Config.entryLoEOffset.val) else 0 : Word).getLsbD i =
      (decide (i = 34 + Config.entryLoEOffset.val) && l.e) := by
    cases l.e with
    | false => simp
    | true =>
      refine (BitVec.getLsbD_ofNat 64 (1 <<< (34 + Config.entryLoEOffset.val)) i).trans ?_
      rw [Nat.one_shiftLeft, Nat.testBit_two_pow]
      simp [hi, eq_comm]
  rw [EntryLo.word, BitVec.getLsbD_or, he]
  simp [hi]

theorem entryLo_word_fields (l : EntryLo) :
    l.word.extractLsb' 6 28 = l.pfn ∧ l.word.extractLsb' 3 3 = l.c ∧ l.word.getLsbD 2 = l.d ∧ l.word.getLsbD 1 = l.v ∧
      l.word.getLsbD 0 = l.g ∧
      ∀ i, 34 ≤ i → i < 64 → l.word.getLsbD i = (decide (i = 34 + Config.entryLoEOffset.val) && l.e) := by
  let low : BitVec 34 := l.pfn ++ l.c ++ bit l.d ++ bit l.v ++ bit l.g
  have hlow : ∀ i, i < 34 → l.word.getLsbD i = low.getLsbD i := fun i hi => by
    rw [entryLo_word_bit l i (by omega), decide_eq_false (by omega), Bool.false_and, Bool.or_false]
  have hfield : ∀ start len, start + len ≤ 34 → l.word.extractLsb' start len = low.extractLsb' start len :=
    fun start len h => BitVec.eq_of_getLsbD_eq fun i hi => by
      simp only [BitVec.getLsbD_extractLsb']
      rw [hlow _ (by omega)]
  refine ⟨?_, ?_, ?_, ?_, ?_, fun i hi h64 => ?_⟩
  case refine_6 => rw [entryLo_word_bit l i h64, BitVec.getLsbD_of_ge _ i hi, Bool.false_or]
  all_goals
    simp (disch := decide) only [hlow, hfield, low, Laws.extractLsb'_append_high, Laws.extractLsb'_append_all, getLsbD_append_high,
      getLsbD_append_low, Nat.reduceSub, BitVec.extractLsb'_eq_self, getLsbD_bit_zero]

/-- Index as its fields (10_state.md R43). -/
theorem index_word_fields (p : Bool) (index : BitVec 6) :
    let v := sext32 (bit p ++ 0#25 ++ index)
    v.getLsbD 31 = p ∧ v.extractLsb' 0 6 = index ∧ v.extractLsb' 6 25 = 0 ∧ isWord v = true := by
  intro v
  simp (disch := decide) only [v, isWord_sext32, getLsbD_sext32, extractLsb'_sext32, Laws.extractLsb'_append_high,
    Laws.extractLsb'_append_all, getLsbD_append_high, Nat.reduceSub, getLsbD_bit_zero, true_and, and_true]
  rfl

theorem pendingIp_fields (s : State) :
    s.pendingIp.getLsbD 7 = (s.timerIp || s.perfRequest) ∧ s.pendingIp.extractLsb' 2 5 = s.pins.interrupts ∧
      s.pendingIp.extractLsb' 0 2 = s.cp0.cause.softIp := by
  unfold State.pendingIp
  simp (disch := decide) only [Laws.extractLsb'_append_high, Laws.extractLsb'_append_all, getLsbD_append_high, Nat.reduceSub,
    getLsbD_bit_zero, and_self]

/-- Cause as its fields, IP[7:2] the requests (10_state.md R63, 60_exceptions.md R641). -/
theorem causeWord_fields (s : State) :
    s.causeWord.getLsbD 31 = s.cp0.cause.bd ∧ s.causeWord.extractLsb' 28 2 = s.cp0.cause.ce ∧
      s.causeWord.getLsbD 15 = (s.timerIp || s.perfRequest) ∧ s.causeWord.extractLsb' 10 5 = s.pins.interrupts ∧
      s.causeWord.extractLsb' 8 2 = s.cp0.cause.softIp ∧ s.causeWord.extractLsb' 2 5 = s.cp0.cause.excCode := by
  obtain ⟨htimer, hpins, hsoft⟩ := pendingIp_fields s
  unfold State.causeWord
  simp (disch := decide) only [Laws.extractLsb'_append_high, Laws.extractLsb'_append_low, getLsbD_append_high, getLsbD_append_low,
    Nat.reduceSub, BitVec.extractLsb'_eq_self, getLsbD_bit_zero, htimer, hpins, hsoft, and_self]

theorem causeWord_reserved (s : State) : s.causeWord &&& 0x4FFF0083#32 = 0 := by
  unfold State.causeWord
  refine BitVec.eq_of_getLsbD_eq fun i hi => ?_
  simp only [BitVec.getLsbD_append, BitVec.getLsbD_and]
  interval_cases i <;> simp

theorem configWord_fields (k0 : BitVec 3) :
    let v := sext32 (configWord k0)
    v.extractLsb' 0 3 = k0 ∧ v.getLsbD 13 = Config.configEB ∧ v &&& 0xFFFFFFFFFFFFDFF8 = 0x00400930 := by
  unfold configWord
  generalize Config.configEB = eb
  revert eb k0
  decide

theorem watchLo_word_fields (l : WatchLoReg) :
    l.word.extractLsb' 3 29 = l.paddr0 ∧ l.word.getLsbD 2 = false ∧ l.word.getLsbD 1 = l.r ∧ l.word.getLsbD 0 = l.w := by
  unfold WatchLoReg.word
  simp (disch := decide) only [Laws.extractLsb'_append_high, getLsbD_append_high, getLsbD_append_low, Nat.reduceSub,
    BitVec.extractLsb'_eq_self, getLsbD_bit_zero, true_and, and_true]
  rfl

theorem perfControl_word_fields (p : PerfControl) :
    p.word.extractLsb' 9 4 = p.event1 ∧ p.word.extractLsb' 5 4 = p.event0 ∧ p.word.getLsbD 4 = p.ie7 ∧
      p.word.extractLsb' 0 4 = p.enables := by
  unfold PerfControl.word
  simp (disch := decide) only [Laws.extractLsb'_append_high, Laws.extractLsb'_append_low, getLsbD_append_high, getLsbD_append_low,
    Nat.reduceSub, BitVec.extractLsb'_eq_self, getLsbD_bit_zero, and_true]

theorem perfControl_word_reserved (p : PerfControl) : (sext32 p.word).extractLsb' 13 51 = 0 := by
  have hp : p.word.toNat < 2 ^ 13 := by
    have hfill : (0#19).toNat = 0 := rfl
    rw [PerfControl.word, toNat_append_eq_add, toNat_append_eq_add, toNat_append_eq_add, toNat_append_eq_add, hfill, toNat_bit]
    have := p.ie7.toNat_lt
    omega
  have hsext : (sext32 p.word).toNat = p.word.toNat := by
    rw [sext32, BitVec.signExtend_eq_setWidth_of_msb_false (BitVec.msb_eq_false_iff_two_mul_lt.mpr (by omega)),
      BitVec.toNat_setWidth, Nat.mod_eq_of_lt (by omega)]
  apply BitVec.eq_of_toNat_eq
  rw [BitVec.extractLsb'_toNat, hsext, Nat.shiftRight_eq_div_pow, Nat.div_eq_of_lt hp]
  rfl

theorem cp0ReadFields : Claim.Cp0ReadFields := by
  unfold Claim.Cp0ReadFields
  intro s sext entryLo
  have hlo : ∀ l : EntryLo, entryLo (some l.word) l := fun l => ⟨_, rfl, entryLo_word_fields l⟩
  obtain ⟨hbd, hce, htimer, hpins, hsoft, hcode⟩ := causeWord_fields s
  obtain ⟨hpaddr, htwo, hr, hw⟩ := watchLo_word_fields s.cp0.watchLo
  obtain ⟨he1, he0, hie7, hen⟩ := perfControl_word_fields s.cp0.perfControl
  refine ⟨⟨_, rfl, index_word_fields _ _⟩, hlo _, hlo _, rfl, rfl, ⟨_, rfl, ?cause⟩, congrArg some (setWidth_eq_ofNat _),
    ⟨_, rfl, configWord_fields _⟩, ⟨_, rfl, isWord_sext32 _⟩, ⟨_, rfl, ?watchLo⟩, congrArg some (setWidth_eq_ofNat _), ⟨_, rfl⟩,
    ⟨_, rfl, ?perf⟩, rfl, rfl, rfl⟩
  all_goals simp (disch := decide) only [extractLsb'_sext32, getLsbD_sext32, isWord_sext32, true_and, and_true, *]
  case cause => exact sext32_and_eq_zero _ (causeWord_reserved s)
  case perf => exact perfControl_word_reserved _

/-- Settles O26. -/
theorem cp0Reads : Obligations.Cp0Reads := ⟨cp0ReadResults, cp0ReadValues, cp0ReadFields⟩

end Machine
end Sys2Proof
end

section
/-! PROOF. MTC0 and DMTC0 (O27). Each register is one write that passes for every value with the low word of GPR[rt]; what DMTC0 and
MTC0 then do is said once. -/

namespace Sys2Proof
namespace Machine

/-! ### The moves to CP0 -/

theorem extractLsb'_low32 {len : Nat} (v : Word) (start : Nat) (h : start + len ≤ 32) :
    (low32 v).extractLsb' start len = v.extractLsb' start len := by
  refine BitVec.eq_of_getLsbD_eq fun i hi => ?_
  have hlow : start + i < 32 := by omega
  simp [low32, hlow]

theorem getLsbD_low32 (v : Word) (i : Nat) (h : i < 32) : (low32 v).getLsbD i = v.getLsbD i := by
  simp [low32, h]

theorem mtc0Value_of_isWord (s : State) {v : Word} (h : isWord v = true) : s.mtc0Value v = v := if_pos h

/-- A move to CP0 whose write passes. -/
theorem moveToCp0_next {s t : State} {rd : RegNum} {v : Word} {exact : Bool} (hu : s.cp0Usable = true) (hl : s.leavesSegment = false)
    (hw : s.cp0Write rd v exact = .pass t) (hpc : t.pc = s.pc) (hd : t.delay = s.delay) :
    s.moveToCp0 rd v exact = .next t.stepped ∧ Advanced s t.stepped := by
  obtain ⟨hnext, hadvanced⟩ := advance_of_same s t hpc hd hl
  refine ⟨?_, hadvanced⟩
  rw [State.moveToCp0, whenCp0_usable s _ hu, hw]
  exact hnext

section
variable {s : State} {rt rd : RegNum} {c : Word → Cp0} {P : Word → State → Prop}

/-- A register whose write passes for every value with the low word of GPR[rt]. -/
theorem writesCp0_of_pass (hu : s.cp0Usable = true) (hl : s.leavesSegment = false) (k : Word → State)
    (hw : ∀ v exact, low32 v = low32 (s.gpr rt) → s.cp0Write rd v exact = .pass (k v))
    (hpc : ∀ v, (k v).pc = s.pc) (hd : ∀ v, (k v).delay = s.delay) (hc : ∀ v, (k v).cp0 = c v) (hP : ∀ v, P v (k v).stepped) :
    Claim.WritesCp0 s rt rd c P := by
  have hmoves : ∀ v exact, low32 v = low32 (s.gpr rt) →
      ∃ t, s.moveToCp0 rd v exact = .next t ∧ Advanced s t ∧ t.cp0 = c v ∧ P v t := fun v exact hv => by
    obtain ⟨hnext, hadvanced⟩ := moveToCp0_next hu hl (hw v exact hv) (hpc v) (hd v)
    exact ⟨_, hnext, hadvanced, hc v, hP v⟩
  exact ⟨hmoves _ true rfl, s.mtc0Value (s.gpr rt), low32_mtc0Value s _, mtc0Value_of_isWord s, hmoves _ false (low32_mtc0Value s _)⟩

/-- A register whose write changes CP0 only. -/
theorem writesCp0_only (hu : s.cp0Usable = true) (hl : s.leavesSegment = false)
    (hw : ∀ v exact, low32 v = low32 (s.gpr rt) → s.cp0Write rd v exact = .pass { s with cp0 := c v }) :
    Claim.WritesCp0 s rt rd c fun _ => OnlyCp0 s :=
  writesCp0_of_pass hu hl (fun v => { s with cp0 := c v }) hw (fun _ => rfl) (fun _ => rfl) (fun _ => rfl)
    fun _ => ⟨fun _ => rfl, fun _ => rfl, rfl⟩

/-- A read-only register keeps its value. -/
theorem writesCp0_readOnly (hu : s.cp0Usable = true) (hl : s.leavesSegment = false)
    (hw : ∀ v exact, s.cp0Write rd v exact = .pass s) : Claim.WritesCp0 s rt rd (fun _ => s.cp0) fun _ => OnlyPc s :=
  writesCp0_of_pass hu hl (fun _ => s) (fun v exact _ => hw v exact) (fun _ => rfl) (fun _ => rfl) (fun _ => rfl)
    fun _ => ⟨fun _ => rfl, fun _ => rfl, rfl⟩

end

theorem whenReservedZero_pass {v mask : Word32} (s : State) (h : v &&& mask = 0) : whenReservedZero v mask s = .pass s := if_pos h

/-! ### The registers -/

theorem statusOf_low32 (v : Word) :
    statusOf (low32 v) =
      { cu := v.extractLsb' 28 4, fr := v.getLsbD 26, bev := v.getLsbD 22, sr := v.getLsbD 20, im := v.extractLsb' 8 8,
        ksu := v.extractLsb' 3 2, erl := v.getLsbD 2, exl := v.getLsbD 1, ie := v.getLsbD 0 } := by
  simp (disch := decide) only [statusOf, extractLsb'_low32, getLsbD_low32]

theorem cp0WriteResults : Claim.Cp0WriteResults := by
  unfold Claim.Cp0WriteResults
  intro s rt hu hl low writes only
  refine ⟨writesCp0_readOnly hu hl fun _ _ => rfl, writesCp0_readOnly hu hl fun _ _ => rfl, writesCp0_readOnly hu hl fun _ _ => rfl,
    ?entryHi, writesCp0_only hu hl fun _ _ _ => rfl, writesCp0_only hu hl fun _ _ _ => rfl,
    writesCp0_only hu hl fun v _ hv => ?tagLo, writesCp0_only hu hl fun v _ hv => ?tagHi, writesCp0_only hu hl fun _ _ _ => rfl,
    fun h => writesCp0_only hu hl fun v _ hv => ?context, fun h => writesCp0_only hu hl fun v _ hv => ?pageMask, fun h => ?wired,
    fun h => writesCp0_only hu hl fun v _ hv => ?status⟩
  case entryHi =>
    exact writesCp0_of_pass hu hl
      (fun v => s.setEntryHi { r := v.extractLsb' 62 2, vpn2 := v.extractLsb' 13 31, asid := v.extractLsb' 0 8 })
      (fun _ _ _ => rfl) (fun _ => rfl) (fun _ => rfl) (fun _ => rfl) fun _ => rfl
  case tagLo => exact congrArg (fun w => Chk.pass { s with cp0 := { s.cp0 with tagLo := w } }) hv
  case tagHi => exact congrArg (fun w => Chk.pass { s with cp0 := { s.cp0 with tagHi := w } }) hv
  case context => exact whenReservedZero_pass _ (hv ▸ h)
  case pageMask => exact whenReservedZero_pass _ (hv ▸ h)
  case wired =>
    refine writesCp0_of_pass hu hl
      (fun v => { s with cp0 := { s.cp0 with wired := v.extractLsb' 0 6, random := 63 }, randomHold := true })
      (fun v _ hv => ?_) (fun _ => rfl) (fun _ => rfl) (fun _ => rfl) fun _ => rfl
    rw [← extractLsb'_low32 v 0 (by decide)]
    exact whenReservedZero_pass _ (hv ▸ h)
  case status =>
    rw [← statusOf_low32]
    exact whenReservedZero_pass _ (hv ▸ h)

/-- Config.IB and DB written as 1 and CU as 0 (10_state.md R70). -/
theorem config_bits {w : Word32} (h : w &&& 0x38 = 0x30) : w.extractLsb' 4 2 = 3 ∧ w &&& 0x8 = 0 := by
  constructor
  · have hfield := congrArg (fun v : Word32 => v.extractLsb' 4 2) h
    rw [BitVec.extractLsb'_and] at hfield
    exact BitVec.and_allOnes.symm.trans hfield
  · have hbit := congrArg (fun v : Word32 => v &&& 0x8) h
    simpa [BitVec.and_assoc] using hbit

theorem cp0OtherWrites : Claim.Cp0OtherWrites := by
  unfold Claim.Cp0OtherWrites
  intro s rt hu hl low writes only
  refine ⟨fun h => ?index, ?cause, fun h => writesCp0_only hu hl fun v _ hv => ?config, writesCp0_only hu hl fun v _ hv => ?llAddr,
    ?watchLo, fun h => writesCp0_only hu hl fun v _ hv => ?xcontext, ?diagnostic, writesCp0_only hu hl fun _ _ _ => rfl,
    writesCp0_only hu hl fun v _ hv => ?counters⟩
  case index =>
    refine ⟨if low.getLsbD 31 = s.cp0.indexP then s.cp0.indexP else s.drawBit .indexP, fun hp => if_pos hp,
      writesCp0_only hu hl fun v _ hv => ?_⟩
    rw [← extractLsb'_low32 v 0 (by decide), show low = low32 v from hv.symm]
    exact whenReservedZero_pass _ (hv ▸ h)
  case cause =>
    refine writesCp0_of_pass hu hl (fun v => s.writeCause (low32 v)) (fun _ _ _ => rfl) (fun _ => rfl) (fun _ => rfl) (fun v => ?_)
      fun _ => rfl
    rw [← extractLsb'_low32 v 8 (by decide)]
    rfl
  case config =>
    obtain ⟨hlines, hcu⟩ := config_bits h
    rw [← extractLsb'_low32 v 0 (by decide)]
    exact (if_neg (not_not.mpr (hv ▸ hlines))).trans (whenReservedZero_pass _ (hv ▸ hcu))
  case llAddr => exact congrArg (fun w => Chk.pass { s with cp0 := { s.cp0 with llAddr := w } }) hv
  case watchLo =>
    exact writesCp0_of_pass hu hl
      (fun v => { s with
        cp0 := { s.cp0 with watchLo := { paddr0 := v.extractLsb' 3 29, r := v.getLsbD 1, w := v.getLsbD 0 } }, pendingWatch := false })
      (fun _ _ _ => rfl) (fun _ => rfl) (fun _ => rfl) (fun _ => rfl) fun _ => rfl
  case xcontext => exact whenReservedZero_pass _ (hv ▸ h)
  case diagnostic =>
    exact writesCp0_of_pass hu hl (fun v => s.writeDiagnostic v) (fun _ _ _ => rfl) (fun _ => rfl) (fun _ => rfl) (fun _ => rfl)
      fun _ => ⟨fun hflush => if_pos hflush, rfl⟩
  case counters =>
    exact congrArg (fun w => Chk.pass { s with cp0 := { s.cp0 with counter1 := v.extractLsb' 32 32, counter0 := w } }) hv

/-! ### EntryLo0 and EntryLo1 -/

/-- The fields that a value gives EntryLo, whatever its other bits above 33 (10_state.md R45; entry 17). -/
def EntryLo.ofWord (v : Word) : EntryLo :=
  { e := v.getLsbD (34 + Config.entryLoEOffset.val), pfn := v.extractLsb' 6 28, c := v.extractLsb' 3 3, d := v.getLsbD 2,
    v := v.getLsbD 1, g := v.getLsbD 0 }

theorem toNat_entryLoHigh (v : Word) : (v.extractLsb' 34 30).toNat = v.toNat / 2 ^ 34 := by
  have := v.isLt
  rw [BitVec.extractLsb'_toNat, Nat.shiftRight_eq_div_pow]
  omega

theorem entryLoHigh_eq_zero_iff (v : Word) : v.extractLsb' 34 30 = 0 ↔ v.toNat / 2 ^ 34 = 0 := by
  rw [← BitVec.toNat_inj, toNat_entryLoHigh]
  rfl

theorem entryLoHigh_eq_e_iff (v : Word) :
    v.extractLsb' 34 30 = 1#30 <<< Config.entryLoEOffset.val ↔ v.toNat / 2 ^ 34 = 2 ^ Config.entryLoEOffset.val := by
  have hlt : 2 ^ Config.entryLoEOffset.val < 2 ^ 30 := Nat.pow_lt_pow_right (by decide) Config.entryLoEOffset.isLt
  rw [← BitVec.toNat_inj, toNat_entryLoHigh, BitVec.toNat_shiftLeft, Nat.shiftLeft_eq, BitVec.toNat_ofNat,
    Nat.mod_eq_of_lt (by decide : 1 < 2 ^ 30), Nat.one_mul, Nat.mod_eq_of_lt hlt]

/-- A value passes where its bits above 33 are 0 or the E bit alone, and where MTC0 makes it. -/
theorem entryLoOf_pass {v : Word} {exact : Bool}
    (h : exact = false ∨ v.toNat / 2 ^ 34 = 0 ∨ v.toNat / 2 ^ 34 = 2 ^ Config.entryLoEOffset.val) :
    entryLoOf v exact = .pass (.ofWord v) := by
  have hbit : v.getLsbD (34 + Config.entryLoEOffset.val) = (v.extractLsb' 34 30).getLsbD Config.entryLoEOffset.val := by simp
  rw [← entryLoHigh_eq_zero_iff, ← entryLoHigh_eq_e_iff] at h
  rw [EntryLo.ofWord, hbit]
  by_cases hzero : v.extractLsb' 34 30 = 0
  · refine (if_pos hzero).trans ?_
    simp [hzero]
  · refine (if_neg hzero).trans ?_
    by_cases he : v.extractLsb' 34 30 = 1#30 <<< Config.entryLoEOffset.val
    · refine (if_pos he).trans ?_
      simp [he]
    · exact (if_neg he).trans (if_neg (by simpa using h.resolve_right fun h => h.elim hzero he))

theorem entryLoOf_refused {v : Word} (hzero : v.toNat / 2 ^ 34 ≠ 0) (he : v.toNat / 2 ^ 34 ≠ 2 ^ Config.entryLoEOffset.val) :
    entryLoOf v true = .refuse .reservedRegisterBit :=
  (if_neg (mt (entryLoHigh_eq_zero_iff v).mp hzero)).trans ((if_neg (mt (entryLoHigh_eq_e_iff v).mp he)).trans (if_pos rfl))

theorem cp0Write_entryLo {s : State} {v : Word} {exact : Bool} {c : Chk EntryLo} (h : entryLoOf v exact = c) :
    s.cp0Write 2 v exact = (c.bind fun l => .pass { s with cp0 := { s.cp0 with entryLo0 := l } }) ∧
      s.cp0Write 3 v exact = (c.bind fun l => .pass { s with cp0 := { s.cp0 with entryLo1 := l } }) :=
  h ▸ ⟨rfl, rfl⟩

/-- A move whose write passes and changes CP0 only. -/
theorem moveToCp0_only {s : State} {rd : RegNum} {v : Word} {exact : Bool} {c : Cp0} (hu : s.cp0Usable = true)
    (hl : s.leavesSegment = false) (hw : s.cp0Write rd v exact = .pass { s with cp0 := c }) :
    ∃ t, s.moveToCp0 rd v exact = .next t ∧ Advanced s t ∧ t.cp0 = c ∧ OnlyCp0 s t := by
  obtain ⟨hnext, hadvanced⟩ := moveToCp0_next hu hl hw rfl rfl
  exact ⟨_, hnext, hadvanced, rfl, fun _ => rfl, fun _ => rfl, rfl⟩

theorem entryLoWrites : Claim.EntryLoWrites := by
  unfold Claim.EntryLoWrites
  intro s rt hu hl v eBit image high writes
  refine ⟨fun hv => ?_, fun hzero he => ?_, s.mtc0Value v, low32_mtc0Value s v, mtc0Value_of_isWord s, ?_⟩
  · obtain ⟨hlo0, hlo1⟩ := cp0Write_entryLo (s := s) (entryLoOf_pass (exact := true) (.inr hv))
    exact ⟨moveToCp0_only hu hl hlo0, moveToCp0_only hu hl hlo1⟩
  · obtain ⟨hlo0, hlo1⟩ := cp0Write_entryLo (s := s) (entryLoOf_refused hzero he)
    exact ⟨moveToCp0_refused s 2 v true _ hu hlo0, moveToCp0_refused s 3 v true _ hu hlo1⟩
  · obtain ⟨hlo0, hlo1⟩ := cp0Write_entryLo (s := s) (entryLoOf_pass (v := s.mtc0Value v) (exact := false) (.inl rfl))
    exact ⟨moveToCp0_only hu hl hlo0, moveToCp0_only hu hl hlo1⟩

/-- Settles O27. -/
theorem cp0Writes : Obligations.Cp0Writes := ⟨cp0WriteResults, cp0OtherWrites, entryLoWrites⟩

end Machine
end Sys2Proof
end

section
/-! PROOF. TLBWI, TLBWR, TLBR and TLBP (O28). -/

namespace Sys2Proof
namespace Machine

/-! ### Writes -/

/-- The page sizes do not agree where another written entry has a valid page of another size. -/
theorem writtenSizesAgree_setTlb_eq_false (s : State) (i : BitVec 6) (h : ¬s.sizesFit i) :
    (s.setTlb i s.cp0.tlbEntry).writtenSizesAgree = false := by
  obtain ⟨j, hj, hw, hv, hmask⟩ : ∃ j : Fin 64, j.val ≠ i.toNat ∧ s.tlbWritten[j] = true ∧
      ((s.tlb[j]).page0.v = true ∨ (s.tlb[j]).page1.v = true) ∧ (s.tlb[j]).mask ≠ s.cp0.pageMask := by
    simpa [State.sizesFit] using h
  have hmem : (s.tlb[j], true) ∈ (s.setTlb i s.cp0.tlbEntry).tlb.toList.zip (s.setTlb i s.cp0.tlbEntry).tlbWritten.toList := by
    refine List.mem_iff_getElem.mpr ⟨j, by simp, ?_⟩
    simpa [State.setTlb, Vector.getElem_set, Ne.symm hj] using hw
  have hfails : (!(true && (s.tlb[j]).mayBeCached) || (s.tlb[j]).mask == s.cp0.pageMask) = false := by
    rw [(mayBeCached_iff _).mpr hv, beq_eq_false_iff_ne.mpr hmask]
    rfl
  rw [State.writtenSizesAgree, List.all_eq_false]
  exact ⟨_, hmem, Bool.eq_false_iff.mp hfails⟩

theorem writeTlb_mixed (s : State) (i : BitVec 6) (hu : s.cp0Usable = true) (hm : pageMaskLegal s.cp0.pageMask = true)
    (h : ¬s.sizesFit i) : s.writeTlb i = .refused .mixedPageSizes := by
  simp [State.writeTlb, whenCp0_usable s _ hu, hm, writtenSizesAgree_setTlb_eq_false s i h]

theorem writeTlb_fits (s : State) (i : BitVec 6) (hu : s.cp0Usable = true) (hm : pageMaskLegal s.cp0.pageMask = true)
    (h : s.sizesFit i) (hl : s.leavesSegment = false) : s.writeTlb i = .next (s.setTlb i s.cp0.tlbEntry).stepped :=
  writeTlb_next s i hu hm (writtenSizesAgree_setTlb s i h) hl

theorem setTlb_tlb_self (s : State) (i : BitVec 6) (e : TlbEntry) : (s.setTlb i e).tlb[i.toFin] = e := by
  simp [State.setTlb]

theorem setTlb_tlb_ne (s : State) (i : BitVec 6) (e : TlbEntry) (j : Fin 64) (h : j.val ≠ i.toNat) :
    (s.setTlb i e).tlb[j] = s.tlb[j] := by
  simp [State.setTlb, Ne.symm h]

theorem setTlb_written (s : State) (i : BitVec 6) (e : TlbEntry) (j : Fin 64) :
    (s.setTlb i e).tlbWritten[j] = (decide (j.val = i.toNat) || s.tlbWritten[j]) := by
  by_cases h : j.val = i.toNat
  · simp [State.setTlb, h]
  · simp [State.setTlb, h, Ne.symm h]

/-! ### TLBR -/

/-- The state that TLBR makes, before the pc goes on (46_cp0.md R458). -/
def State.tlbRead (s : State) : State :=
  let e := s.tlb[s.cp0.index.toFin]
  let t := s.setEntryHi { r := e.r, vpn2 := e.vpn2 &&& ~~~(e.mask.setWidth 31), asid := e.asid }
  { t with cp0 := { t.cp0 with pageMask := e.mask, entryLo1 := e.page1.entryLo e.g, entryLo0 := e.page0.entryLo e.g } }

theorem tlbr_next (s : State) (hu : s.cp0Usable = true) (hl : s.leavesSegment = false) :
    exec .tlbr s = .next s.tlbRead.stepped ∧ Advanced s s.tlbRead.stepped := by
  obtain ⟨hnext, hadvanced⟩ := advance_of_same s s.tlbRead rfl rfl hl
  exact ⟨(whenCp0_usable s _ hu).trans hnext, hadvanced⟩

theorem tlbReadResults : Claim.TlbReadResults := by
  unfold Claim.TlbReadResults
  intro s hu hl e lo
  obtain ⟨hnext, hadvanced⟩ := tlbr_next s hu hl
  exact ⟨_, hnext, hadvanced, rfl, fun _ => rfl, fun _ => rfl, rfl⟩

/-- What TLBR gives back of the entry that TLBWI has just written where Index names it. -/
theorem tlbRead_setTlb (s : State) :
    let t := ((s.setTlb s.cp0.index s.cp0.tlbEntry).stepped.tlbRead)
    t.cp0.pageMask = s.cp0.pageMask ∧
      t.cp0.entryHi = { s.cp0.entryHi with vpn2 := s.cp0.entryHi.vpn2 &&& ~~~(s.cp0.pageMask.setWidth 31) } ∧
      t.cp0.entryLo0 = { s.cp0.entryLo0 with g := s.cp0.entryLo0.g && s.cp0.entryLo1.g } ∧
      t.cp0.entryLo1 = { s.cp0.entryLo1 with g := s.cp0.entryLo0.g && s.cp0.entryLo1.g } := by
  have hentry : (s.setTlb s.cp0.index s.cp0.tlbEntry).stepped.tlb[s.cp0.index.toFin] = s.cp0.tlbEntry := setTlb_tlb_self s _ _
  have hmask : s.cp0.entryHi.vpn2 &&& ~~~(s.cp0.pageMask.setWidth 31) &&& ~~~(s.cp0.pageMask.setWidth 31) =
      s.cp0.entryHi.vpn2 &&& ~~~(s.cp0.pageMask.setWidth 31) := by rw [BitVec.and_assoc, BitVec.and_self]
  have hindex : (s.setTlb s.cp0.index s.cp0.tlbEntry).stepped.cp0.index = s.cp0.index := rfl
  simp only [State.tlbRead, hindex, hentry]
  exact ⟨rfl, congrArg (fun vpn2 => { s.cp0.entryHi with vpn2 := vpn2 }) hmask, rfl, rfl⟩

theorem tlbWriteThenRead : Claim.TlbWriteThenRead := by
  unfold Claim.TlbWriteThenRead
  intro s hu hl hm hi both written
  have hwritten : ∀ i : BitVec 6, written i (s.setTlb i s.cp0.tlbEntry).stepped := fun i =>
    ⟨setTlb_tlb_ne s i s.cp0.tlbEntry, rfl, fun _ => rfl, fun _ => rfl, setTlb_written s i s.cp0.tlbEntry, rfl⟩
  refine ⟨writeTlb_mixed s _ hu hm, writeTlb_mixed s _ hu hm, fun hfit => ?_, fun hfit => ?_⟩
  · exact ⟨_, writeTlb_fits s _ hu hm hfit hl, ⟨rfl, rfl⟩, hwritten _, setTlb_tlb_self s _ _⟩
  · refine ⟨_, writeTlb_fits s _ hu hm hfit hl, ⟨rfl, rfl⟩, hwritten _, fun hlt => ?_⟩
    obtain ⟨hnext, hadvanced⟩ := tlbr_next (s.setTlb s.cp0.index s.cp0.tlbEntry).stepped hu hlt
    obtain ⟨hmask, hhi, hlo0, hlo1⟩ := tlbRead_setTlb s
    exact ⟨_, hnext, hadvanced, hmask, hhi, hlo0, hlo1, rfl, fun _ => rfl, fun _ => rfl⟩

/-! ### TLBP -/

theorem tlbProbeMatches : Claim.TlbProbeMatches := by
  unfold Claim.TlbProbeMatches
  intro e h
  have hpages : e.vpn2 &&& ~~~(e.mask.setWidth 31) = h.vpn2 &&& ~~~(e.mask.setWidth 31) ↔
      ∀ i, i < 31 → e.mask.getLsbD i = false → e.vpn2.getLsbD i = h.vpn2.getLsbD i := by
    rw [BitVec.eq_of_getLsbD_eq_iff]
    refine forall₂_congr fun i hi => ?_
    simp only [BitVec.getLsbD_and, BitVec.getLsbD_not, BitVec.getLsbD_setWidth, hi, decide_true, Bool.true_and]
    cases e.mask.getLsbD i <;> simp
  have hregion : (e.r == h.r || !Config.tlbpComparesR) = true ↔ (Config.tlbpComparesR = true → e.r = h.r) := by
    cases Config.tlbpComparesR <;> simp
  simp only [TlbEntry.matchesHi, Bool.and_eq_true, hregion, Bool.or_eq_true, beq_iff_eq, hpages, and_assoc]

theorem advance_onlyCp0 (s : State) (c : Cp0) (hl : s.leavesSegment = false) :
    ∃ t, { s with cp0 := c : State }.advance = .next t ∧ Advanced s t ∧ t.cp0 = c ∧ OnlyCp0 s t :=
  ⟨_, advance_next _ hl, ⟨rfl, rfl⟩, rfl, fun _ => rfl, fun _ => rfl, rfl⟩

theorem tlbp_none {s : State} (hu : s.cp0Usable = true)
    (h : ((List.finRange 64).filter fun j => (s.tlb[j]).matchesHi s.cp0.entryHi) = []) :
    exec .tlbp s = { s with cp0 := { s.cp0 with indexP := true, index := s.draw 6 .probeIndex } : State }.advance := by
  refine (whenCp0_usable s _ hu).trans ?_
  rw [h]

theorem tlbp_one {s : State} {i : Fin 64} (hu : s.cp0Usable = true)
    (h : ((List.finRange 64).filter fun j => (s.tlb[j]).matchesHi s.cp0.entryHi) = [i]) :
    exec .tlbp s = { s with cp0 := { s.cp0 with indexP := false, index := BitVec.ofFin i } : State }.advance := by
  refine (whenCp0_usable s _ hu).trans ?_
  rw [h]

theorem tlbProbeResults : Claim.TlbProbeResults := by
  unfold Claim.TlbProbeResults
  intro s hu hl
  refine ⟨fun i hi => ?one, fun hnone => ?none⟩
  case one =>
    have hhits : ((List.finRange 64).filter fun j => (s.tlb[j]).matchesHi s.cp0.entryHi) = [i] :=
      List.perm_singleton.mp ((List.perm_ext_iff_of_nodup ((List.nodup_finRange 64).filter _) (List.nodup_singleton i)).mpr
        fun j => by rw [List.mem_filter, hi j]; simp)
    rw [tlbp_one hu hhits]
    exact advance_onlyCp0 s _ hl
  case none =>
    have hhits : ((List.finRange 64).filter fun j => (s.tlb[j]).matchesHi s.cp0.entryHi) = [] :=
      List.filter_eq_nil_iff.mpr fun j _ => Bool.eq_false_iff.mp (hnone j)
    rw [tlbp_none hu hhits]
    obtain ⟨t, hnext, hadvanced, hcp0, honly⟩ := advance_onlyCp0 s
      { s.cp0 with indexP := true, index := s.draw 6 .probeIndex } hl
    exact ⟨t, hnext, hadvanced, by rw [hcp0], honly⟩

/-- Settles O28. -/
theorem tlbInstructions : Obligations.TlbInstructions :=
  ⟨tlbWriteThenRead, tlbReadResults, tlbProbeResults, tlbProbeMatches⟩

end Machine
end Sys2Proof
end

section
/-! PROOF. CACHE on a cached address (O29): that it completes, and what the listed operations can change. All but the two that write back
L2 lines move lines between the caches and the tag registers only. -/

namespace Sys2Proof
namespace Machine

/-! ### What the operations change -/

/-- `t` differs from `s` in TagHi, TagLo, the caches and the records of races and of stored code. -/
def State.ChangesCaches (s t : State) : Prop :=
  ∃ hi lo caches raced code,
    t = { s with cp0 := { s.cp0 with tagHi := hi, tagLo := lo }, caches := caches, raced := raced, code := code }

theorem changesCaches_of_movesCopies {s t : State} (h : s.MovesCopies t) (code : List CodeVersion) :
    s.ChangesCaches { t with code := code } := by
  unfold State.MovesCopies at h
  rw [h]
  exact ⟨_, _, _, _, _, rfl⟩

theorem writeBackD_movesCopies (s : State) (k : Nat) : s.MovesCopies (s.writeBackD k) := by
  dsimp only [State.writeBackD]
  split <;> rfl

theorem writeBackD_dropD_movesCopies (s : State) (k : Nat) : s.MovesCopies ((s.writeBackD k).dropD k) :=
  (writeBackD_movesCopies s k).trans rfl

/-- What is left of an L2 line that is dropped without its data (46_cp0.md R477). -/
theorem dropL2_discards (s : State) (k : Nat) (hv : (s.l2line k).state.isValid = true) :
    s.dropL2 k false =
      (((s.dCopies (s.l2lineBase k)).foldl State.dropD ((s.iCopies (s.l2lineBase k)).foldl State.dropI s)).setL2line k
        { s.l2line k with state := .invalid }).settle := by
  simp [State.dropL2, hv, State.dropL1Copies]

theorem dropL2_discards_movesCopies (s : State) (k : Nat) : s.MovesCopies (s.dropL2 k false) := by
  cases hv : (s.l2line k).state.isValid with
  | false => rw [State.dropL2, hv]; rfl
  | true =>
    rw [dropL2_discards s k hv]
    exact ((foldl_movesCopies State.dropI (fun _ _ => rfl) _ s).trans (foldl_movesCopies State.dropD (fun _ _ => rfl) _ _)).trans rfl

/-- Every listed operation but the two that write back L2 lines leaves memory alone. -/
theorem cacheOp_changesCaches {s t : State} {op : BitVec 5} {va : Word} {pa : PAddr} (h : s.cacheOp op va pa = some t)
    (hop : op.toNat ∉ [3, 23]) : s.ChangesCaches t := by
  unfold State.cacheOp at h
  split at h <;> cases h
  case h_1 => exact changesCaches_of_movesCopies (foldl_movesCopies State.dropI (fun _ _ => rfl) _ s) _
  case h_2 => exact changesCaches_of_movesCopies (writeBackD_dropD_movesCopies s _) _
  case h_5 => exact changesCaches_of_movesCopies (foldl_movesCopies State.dropD (fun _ _ => rfl) _ s) _
  case h_6 => exact changesCaches_of_movesCopies (foldl_movesCopies _ writeBackD_dropD_movesCopies _ s) _
  case h_9 | h_13 => simp_all
  case h_12 => exact changesCaches_of_movesCopies (foldl_movesCopies _ dropL2_discards_movesCopies _ s) _
  all_goals exact ⟨_, _, _, _, _, rfl⟩

/-- The two operations that write back L2 lines move lines, and record what that means for stored code. -/
theorem cacheOp_movesLines {s t : State} {op : BitVec 5} {va : Word} {pa : PAddr} (h : s.cacheOp op va pa = some t)
    (hop : op.toNat ∈ [3, 23]) : ∃ u code, s.MovesLines u ∧ t = { u with code := code } := by
  unfold State.cacheOp at h
  split at h <;> cases h
  case h_9 => exact ⟨_, _, dropL2_movesLines s _ true, rfl⟩
  case h_13 => exact ⟨_, _, foldl_movesLines _ (fun u k => dropL2_movesLines u k true) _ s, rfl⟩
  all_goals simp_all

/-! ### CACHE completes -/

theorem address_eq (s : State) (base : RegNum) (offset : BitVec 16) :
    s.address base offset = s.gpr base + BitVec.ofInt 64 offset.toInt := rfl

/-- A listed operation on a cached address (46_cp0.md R464). -/
theorem cache_next {s t : State} {op : BitVec 5} {offset : BitVec 16} {base : RegNum} {pa : PAddr} (hu : s.cp0Usable = true)
    (hl : s.leavesSegment = false) (htr : s.translate .load (s.gpr base + BitVec.ofInt 64 offset.toInt) = .pass (pa, 3))
    (h : s.cacheOp op (s.gpr base + BitVec.ofInt 64 offset.toInt) pa = some t) (hpc : t.pc = s.pc) (hd : t.delay = s.delay) :
    exec (.cache op offset base) s = .next t.stepped ∧ Advanced s t.stepped := by
  obtain ⟨hnext, hadvanced⟩ := advance_of_same s t hpc hd hl
  refine ⟨(whenCp0_usable s _ hu).trans ?_, hadvanced⟩
  simp only [address_eq, htr, Chk.run, h, if_true]
  exact hnext

/-- Settles O29. -/
theorem cacheOperationsComplete : Obligations.CacheOperationsComplete := by
  unfold Obligations.CacheOperationsComplete
  intro s op offset base pa hu hl hlisted htr
  obtain ⟨t, ht⟩ := Option.isSome_iff_exists.mp ((cacheOp_isSome s op (s.gpr base + BitVec.ofInt 64 offset.toInt) pa).trans hlisted)
  by_cases hop : op.toNat ∈ [3, 23]
  · obtain ⟨u, code, hmoves, rfl⟩ := cacheOp_movesLines ht hop
    unfold State.MovesLines at hmoves
    obtain ⟨hnext, hadvanced⟩ := cache_next hu hl htr ht (by rw [hmoves]) (by rw [hmoves])
    exact ⟨_, hnext, hadvanced, fun r => by rw [hmoves]; rfl, by rw [hmoves]; rfl, by rw [hmoves]; rfl, fun h => absurd hop h⟩
  · obtain ⟨hi, lo, caches, raced, code, rfl⟩ := cacheOp_changesCaches ht hop
    obtain ⟨hnext, hadvanced⟩ := cache_next hu hl htr ht rfl rfl
    exact ⟨_, hnext, hadvanced, fun _ => rfl, rfl, rfl, fun _ => ⟨fun _ => rfl, rfl, rfl⟩⟩

end Machine
end Sys2Proof
end

section
/-! PROOF. The CACHE operations on the L1 caches (O30). -/

namespace Sys2Proof
namespace Machine

/-- An operation that moves lines between the caches and the tag registers only completes with what it does. -/
theorem cacheRuns_of_changesCaches {op : BitVec 5} {P : State → Word → PAddr → State → Prop}
    (f : State → Word → PAddr → State)
    (hf : ∀ s va pa, s.cacheOp op va pa = some (f s va pa)) (hop : op.toNat ∉ [3, 23])
    (hP : ∀ s va pa, P s va pa (f s va pa).stepped) : Claim.CacheRuns op P := by
  intro s offset base pa hu hl htr
  have ht := hf s (s.gpr base + BitVec.ofInt 64 offset.toInt) pa
  obtain ⟨hi, lo, caches, raced, code, heq⟩ := cacheOp_changesCaches ht hop
  obtain ⟨hnext, hadvanced⟩ := cache_next hu hl htr ht (by rw [heq]) (by rw [heq])
  exact ⟨_, hnext, hadvanced, hP s _ pa⟩

/-! ### Index Invalidate (I) -/

/-- A row of invalidations changes the I-cache only. -/
theorem dropIs_frame (l : List Nat) (s : State) :
    l.foldl State.dropI s = { s with caches := { s.caches with icache := (l.foldl State.dropI s).caches.icache } } :=
  List.foldlRecOn l State.dropI (motive := fun t => t = { s with caches := { s.caches with icache := t.caches.icache } }) rfl
    fun t ht k _ => by rw [ht]; rfl

/-- What Index Invalidate (I) does, for the lines `ways` and the record of stored code it leaves. -/
theorem dropIs_results {ways : List Nat} {s t : State} {set : Nat} (hways : ∀ k, k ∈ ways ↔ k / 4 = set)
    (ht : t = ways.foldl State.dropI s) (va : Word) :
    let u := (t.invalidateCode va).stepped
    (∀ k, u.iline k = if k / 4 = set then { s.iline k with valid := false } else s.iline k) ∧
    u = { s with caches := { s.caches with icache := u.caches.icache }, code := u.code, pc := u.pc, delay := u.delay } := by
  have hline (k : Nat) : t.iline k = if k / 4 = set then { s.iline k with valid := false } else s.iline k := by
    rw [ht, iline_dropIs]
    simp only [hways]
  have hframe : t = { s with caches := { s.caches with icache := t.caches.icache } } := ht ▸ dropIs_frame ways s
  clear ht
  exact ⟨hline, by rw [hframe]; rfl⟩

theorem invalidatesISet : Claim.InvalidatesISet :=
  cacheRuns_of_changesCaches (fun s va _ => s.cacheIndexInvalidateI va) (fun _ _ _ => rfl) (by decide)
    fun _ va _ => dropIs_results (fun k => mem_ways (l1Set va) k) rfl va

/-! ### The operations that invalidate D-cache lines -/

theorem dropD_invalidatesD {s t : State} {k : Nat} (h : ∀ j, t.dline j = (s.dropD k).dline j) : Claim.InvalidatesD s t k := by
  have hk : t.dline k = { s.dline k with state := .invalid, dirty := false } := by rw [h, dline_dropD, if_pos rfl]
  refine ⟨by rw [hk], by rw [hk], by rw [hk], by rw [hk], by rw [hk], fun j hj => by rw [h, dline_dropD, if_neg hj]⟩

theorem writeBackD_invalidatesD {s t : State} {k : Nat} (h : ∀ j, t.dline j = ((s.writeBackD k).dropD k).dline j) :
    Claim.InvalidatesD s t k := by
  refine dropD_invalidatesD fun j => ?_
  rw [h, dline_dropD, dline_dropD, dline_writeBackD, dline_writeBackD]

/-- Where no L2 line holds the address of a modified line, the way that SCWay names takes it (46_cp0.md R469; entry 7). -/
theorem writeBackD_uncovered {s : State} {k : Nat} (h : s.modifiedD k) (hi : s.l2Hits (s.dlineBase k) = []) :
    s.writeBackD k = s.setL2line (lineKey (l2Set (s.dlineBase k)) (s.dline k).scWay.toNat)
      { tag := l2Tag (s.dlineBase k), state := .dirty, data := (s.dline k).data } := by
  obtain ⟨hv, hd⟩ := h
  simp [State.writeBackD, hv, hd, hi]

theorem writeBackD_writesBackD {s t : State} {k : Nat} (h : ∀ j, t.l2line j = (s.writeBackD k).l2line j) :
    Claim.WritesBackD s t k := by
  refine ⟨fun hv hd => ⟨fun hnone => ?_, fun j hj => ?_⟩, fun hnot i => ?_⟩
  · rw [writeBackD_uncovered ⟨hv, hd⟩ hnone] at h
    exact ⟨by rw [h, l2line_setL2line, if_pos rfl], fun i hi => by rw [h, l2line_setL2line, if_neg hi]⟩
  · rw [writeBackD_modified ⟨hv, hd⟩ hj] at h
    exact ⟨by rw [h, l2line_setL2line, if_pos rfl], fun i hi => by rw [h, l2line_setL2line, if_neg hi]⟩
  · rw [h, writeBackD_unmodified fun ⟨hv, hd⟩ => by simp [hv, hd] at hnot]

theorem writeBackD_onlyDataCaches (s : State) (k : Nat) (code : List CodeVersion) :
    Claim.OnlyDataCaches s ({ (s.writeBackD k).dropD k with code := code } : State).stepped := by
  have h := writeBackD_frame s k
  generalize s.writeBackD k = t at h ⊢
  unfold Claim.OnlyDataCaches
  rw [h]
  rfl

/-- A line is written back where it is modified, and invalidated (46_cp0.md R469, R476). -/
theorem writeBackInvalidateD_results (s : State) (k : Nat) (code : List CodeVersion) :
    let t := ({ (s.writeBackD k).dropD k with code := code } : State).stepped
    Claim.InvalidatesD s t k ∧ Claim.WritesBackD s t k ∧ Claim.OnlyDataCaches s t :=
  ⟨writeBackD_invalidatesD fun _ => rfl, writeBackD_writesBackD fun j => l2line_dropD (s.writeBackD k) k j,
    writeBackD_onlyDataCaches s k code⟩

theorem invalidatesDLines : Claim.InvalidatesDLines := by
  refine ⟨cacheRuns_of_changesCaches (fun s va _ => s.cacheIndexWriteBackInvalidateD va) (fun _ _ _ => rfl) (by decide) ?index,
    cacheRuns_of_changesCaches (fun s va pa => s.cacheHitWriteBackInvalidateD va pa) (fun _ _ _ => rfl) (by decide) ?hitBack,
    cacheRuns_of_changesCaches (fun s va pa => s.cacheHitInvalidateD va pa) (fun _ _ _ => rfl) (by decide) ?hit⟩
  case index =>
    intro s va pa
    exact writeBackInvalidateD_results s (dIndexKey va) _
  case hitBack =>
    intro s va pa
    refine ⟨fun hnone => ?_, fun k hk => ?_⟩
    · rw [State.cacheHitWriteBackInvalidateD, hnone]
      rfl
    · rw [State.cacheHitWriteBackInvalidateD, hk]
      exact writeBackInvalidateD_results s k _
  case hit =>
    intro s va pa
    refine ⟨fun hnone => ?_, fun k hk => ?_⟩
    · rw [State.cacheHitInvalidateD, hnone]
      rfl
    · rw [State.cacheHitInvalidateD, hk]
      exact ⟨dropD_invalidatesD fun _ => rfl, fun _ => rfl, rfl⟩

/-! ### A doubleword of a line -/

/-- The bits of a line after `n` of its bytes were replaced. -/
theorem getLsbD_lineSet (data : BitVec 256) (offset n v p : Nat) (h : offset + n ≤ 32) :
    (lineSet data offset n v).getLsbD p =
      if 8 * offset ≤ p ∧ p < 8 * (offset + n) then v.testBit (p - 8 * offset) else data.getLsbD p := by
  have hlow : data.toNat % 2 ^ (8 * offset) < 2 ^ (8 * offset) := Nat.mod_lt _ (Nat.two_pow_pos _)
  have hmid : v % 2 ^ (8 * n) < 2 ^ (8 * n) := Nat.mod_lt _ (Nat.two_pow_pos _)
  have hsum : data.toNat % 2 ^ (8 * offset) + v % 2 ^ (8 * n) * 2 ^ (8 * offset) +
      data.toNat / 2 ^ (8 * (offset + n)) * 2 ^ (8 * (offset + n)) =
      2 ^ (8 * offset) * (2 ^ (8 * n) * (data.toNat / 2 ^ (8 * (offset + n))) + v % 2 ^ (8 * n)) +
        data.toNat % 2 ^ (8 * offset) := by
    generalize data.toNat / 2 ^ (8 * (offset + n)) = high
    rw [Nat.mul_add, Nat.pow_add]
    ring
  rw [lineSet, BitVec.getLsbD_ofNat, hsum, Nat.testBit_two_pow_mul_add _ hlow, Nat.testBit_two_pow_mul_add _ hmid,
    Nat.testBit_mod_two_pow, Nat.testBit_mod_two_pow, Nat.testBit_div_two_pow]
  rcases lt_or_ge p (8 * offset) with hbelow | hfrom
  · simp [hbelow, BitVec.getLsbD, show p < 256 by omega, show ¬8 * offset ≤ p by omega]
  rcases lt_or_ge p (8 * (offset + n)) with hin | habove
  · simp [hfrom, hin, show p < 256 by omega, show ¬p < 8 * offset by omega, show p - 8 * offset < 8 * n by omega]
  rw [if_neg (by omega : ¬p < 8 * offset), if_neg (by omega : ¬p - 8 * offset < 8 * n), if_neg (by omega),
    show p - 8 * offset - 8 * n + 8 * (offset + n) = p by omega]
  by_cases hp : p < 256
  · simp [hp, BitVec.getLsbD]
  · simp [hp, BitVec.getLsbD_of_ge data p (by omega)]

/-- The doubleword that an Index Load Data reads. -/
theorem lineGet_doubleword (data : BitVec 256) (a : Nat) :
    BitVec.ofNat 64 (lineGet data (doubleOffset a) 8) = data.extractLsb' (64 * (a / 8 % 4)) 64 := by
  apply BitVec.eq_of_toNat_eq
  rw [BitVec.toNat_ofNat, BitVec.extractLsb'_toNat, Nat.shiftRight_eq_div_pow, lineGet, Nat.mod_mod, doubleOffset,
    show 8 * (a / 8 % 4 * 8) = 64 * (a / 8 % 4) by omega]

/-- The doublewords of a line after an Index Store Data. -/
theorem lineSet_doubleword (data : BitVec 256) (a : Nat) (v : BitVec 64) (j : Nat) :
    (lineSet data (doubleOffset a) 8 v.toNat).extractLsb' (64 * j) 64 =
      if j = a / 8 % 4 then v else data.extractLsb' (64 * j) 64 := by
  apply BitVec.eq_of_getLsbD_eq
  intro i hi
  rw [BitVec.getLsbD_extractLsb', getLsbD_lineSet _ _ _ _ _ (by rw [doubleOffset]; omega), doubleOffset]
  by_cases hj : j = a / 8 % 4
  · rw [if_pos (by omega), if_pos hj, show 64 * j + i - 8 * (a / 8 % 4 * 8) = i by omega]
    simp [hi, BitVec.getLsbD]
  · rw [if_neg (by omega), if_neg hj, BitVec.getLsbD_extractLsb']

theorem tags_append (d : Word) : d.extractLsb' 32 32 ++ low32 d = d := Laws.append_fields (m := 32) (n := 32) d

theorem DState.code_ofCode (c : BitVec 2) : (DState.ofCode c).code = c := by revert c; decide

/-! ### Index Load and Store Tag and Data (D) -/

theorem setTags_onlyCp0 (s : State) (hi lo : Word32) : OnlyCp0 s (s.setTags hi lo).stepped := ⟨fun _ => rfl, fun _ => rfl, rfl⟩

theorem loadTagD_results (s : State) (va : Word) :
    let t := (s.cacheIndexLoadTagD va).stepped
    let l := s.dline (dIndexKey va)
    t.cp0.tagLo.extractLsb' 4 2 = l.scWay ∧ t.cp0.tagLo.extractLsb' 6 2 = l.state.code ∧
    t.cp0.tagLo.extractLsb' 8 24 = l.tag.extractLsb' 0 24 ∧ t.cp0.tagHi.extractLsb' 0 4 = l.tag.extractLsb' 24 4 ∧
    t.cp0.tagHi.extractLsb' 29 3 = l.stateMod ∧ t.cp0.tagLo.extractLsb' 0 4 = 0 ∧ t.cp0.tagHi.extractLsb' 4 25 = 0 ∧
    t.cp0 = { s.cp0 with tagHi := t.cp0.tagHi, tagLo := t.cp0.tagLo } ∧ OnlyCp0 s t := by
  intro t l
  have hhi : t.cp0.tagHi = l.stateMod ++ 0#25 ++ l.tag.extractLsb' 24 4 := rfl
  have hlo : t.cp0.tagLo = l.tag.extractLsb' 0 24 ++ l.state.code ++ l.scWay ++ 0#4 := rfl
  rw [hhi, hlo]
  simp (disch := decide) only [Laws.extractLsb'_append_high, Laws.extractLsb'_append_low, Nat.reduceSub,
    BitVec.extractLsb'_eq_self, true_and]
  exact ⟨rfl, rfl, rfl, setTags_onlyCp0 _ _ _⟩

/-- The line that an operation puts in place of line `k` is there, the others stay, whatever becomes of the record of races. -/
theorem setDline_results (s : State) (k : Nat) (l : DLine) (raced : List RacedByte) :
    let t := ({ s.setDline k l with raced := raced } : State).stepped
    t.dline k = l ∧ (∀ j, j ≠ k → t.dline j = s.dline j) ∧ (∀ i, t.l2line i = s.l2line i) ∧ Claim.OnlyDataCaches s t :=
  ⟨(dline_setDline s k k l).trans (if_pos rfl), fun j hj => (dline_setDline s k j l).trans (if_neg hj), fun _ => rfl, rfl⟩

theorem storeDataD_line (s : State) (va : Word) :
    (s.cacheIndexStoreDataD va).dline (dIndexKey va) = { s.dline (dIndexKey va) with
      data := lineSet (s.dline (dIndexKey va)).data (doubleOffset va.toNat) 8 s.tagData } := by
  rw [State.cacheIndexStoreDataD, dline_setDline, if_pos rfl]

theorem movesDTagsAndData : Claim.MovesDTagsAndData := by
  refine ⟨cacheRuns_of_changesCaches (fun s va _ => s.cacheIndexLoadTagD va) (fun _ _ _ => rfl) (by decide) ?loadTag,
    cacheRuns_of_changesCaches (fun s va _ => s.cacheIndexStoreTagD va) (fun _ _ _ => rfl) (by decide) ?storeTag,
    cacheRuns_of_changesCaches (fun s va _ => s.cacheIndexLoadDataD va) (fun _ _ _ => rfl) (by decide) ?loadData,
    cacheRuns_of_changesCaches (fun s va _ => s.cacheIndexStoreDataD va) (fun _ _ _ => rfl) (by decide) ?storeData⟩
  case loadTag => exact fun s va _ => loadTagD_results s va
  case storeTag =>
    intro s va _
    obtain ⟨hline, hothers⟩ := setDline_results s (dIndexKey va) { s.dline (dIndexKey va) with
      scWay := s.cp0.tagLo.extractLsb' 4 2, state := .ofCode (s.cp0.tagLo.extractLsb' 6 2),
      tag := s.cp0.tagHi.extractLsb' 0 4 ++ s.cp0.tagLo.extractLsb' 8 24 } (s.cacheIndexStoreTagD va).raced
    exact ⟨congrArg DLine.scWay hline, (congrArg (·.state.code) hline).trans (DState.code_ofCode _), congrArg DLine.tag hline,
      (congrArg DLine.stateMod hline :), (congrArg DLine.data hline :), (congrArg DLine.dirty hline :), hothers⟩
  case loadData => exact fun s va _ => ⟨(tags_append _).trans (lineGet_doubleword _ va.toNat), rfl, setTags_onlyCp0 _ _ _⟩
  case storeData =>
    intro s va _
    obtain ⟨hline, hothers⟩ := setDline_results s (dIndexKey va) { s.dline (dIndexKey va) with
      data := lineSet (s.dline (dIndexKey va)).data (doubleOffset va.toNat) 8 s.tagData } s.raced
    have hdata := congrArg DLine.data hline
    exact ⟨hline.trans (congrArg (fun d => { s.dline (dIndexKey va) with data := d }) hdata.symm),
      fun j _ => (congrArg (·.extractLsb' (64 * j) 64) hdata).trans (lineSet_doubleword _ va.toNat _ j), hothers⟩

/-! ### Storing and then loading -/

theorem extract_upper28 (w : Word32) : w.extractLsb' 4 28 ++ 0#4 = w &&& 0xFFFFFFF0 := by
  have hmask : ∀ i, i < 32 → BitVec.getLsbD (0xFFFFFFF0 : Word32) i = decide (4 ≤ i) := by decide
  apply BitVec.eq_of_getLsbD_eq
  intro i hi
  rw [BitVec.getLsbD_and, hmask i hi, BitVec.getLsbD_append, BitVec.getLsbD_extractLsb']
  rcases lt_or_ge i 4 with hlow | hhigh
  · simp [hlow, show ¬4 ≤ i by omega]
  · simp [hhigh, show ¬i < 4 by omega, show i - 4 < 28 by omega]

/-- The bits of TagLo that hold a tag or a state of the D-cache. -/
theorem tagLo_fields (w : Word32) :
    w.extractLsb' 8 24 ++ w.extractLsb' 6 2 ++ w.extractLsb' 4 2 ++ 0#4 = w &&& 0xFFFFFFF0 := by
  have hmerge : w.extractLsb' 8 24 ++ w.extractLsb' 6 2 ++ w.extractLsb' 4 2 = w.extractLsb' 4 28 :=
    (congrArg (· ++ w.extractLsb' 4 2) (Laws.extractLsb'_split w 6 24 2)).trans (Laws.extractLsb'_split w 4 26 2)
  exact (congrArg (· ++ 0#4) hmerge).trans (extract_upper28 w)

/-- The bits of TagHi that hold a tag of the D-cache. -/
theorem tagHi_fields (m : BitVec 28) (w : Word32) : (m ++ w.extractLsb' 0 4) &&& 0xF = w &&& 0xF := by
  have hmask : ∀ i, i < 32 → BitVec.getLsbD (0xF : Word32) i = decide (i < 4) := by decide
  apply BitVec.eq_of_getLsbD_eq
  intro i hi
  rw [BitVec.getLsbD_and, BitVec.getLsbD_and, hmask i hi, BitVec.getLsbD_append, BitVec.getLsbD_extractLsb']
  rcases lt_or_ge i 4 with hlow | hhigh
  · simp [hlow]
  · simp [show ¬i < 4 by omega]

theorem cacheTagAndDataRoundTrip : Claim.CacheTagAndDataRoundTrip := by
  intro s va hi lo
  refine ⟨?tag, ?data⟩
  case tag =>
    intro t u
    have hline : t.dline (dIndexKey va) = { s.dline (dIndexKey va) with
        scWay := s.cp0.tagLo.extractLsb' 4 2, state := .ofCode (s.cp0.tagLo.extractLsb' 6 2),
        tag := s.cp0.tagHi.extractLsb' 0 4 ++ s.cp0.tagLo.extractLsb' 8 24 } :=
      (dline_setDline s _ _ _).trans (if_pos rfl)
    have hhi : u.cp0.tagHi = (t.dline (dIndexKey va)).stateMod ++ 0#25 ++ (t.dline (dIndexKey va)).tag.extractLsb' 24 4 := rfl
    have hlo : u.cp0.tagLo = (t.dline (dIndexKey va)).tag.extractLsb' 0 24 ++ (t.dline (dIndexKey va)).state.code ++
        (t.dline (dIndexKey va)).scWay ++ 0#4 := rfl
    rw [hhi, hlo, hline]
    simp (disch := decide) only [Laws.extractLsb'_append_high, Laws.extractLsb'_append_low, Nat.reduceSub,
      BitVec.extractLsb'_eq_self, DState.code_ofCode]
    exact ⟨tagLo_fields _, tagHi_fields _ _, trivial, rfl⟩
  case data =>
    intro t u
    have hline : t.dline (dIndexKey va) = { s.dline (dIndexKey va) with
        data := lineSet (s.dline (dIndexKey va)).data (doubleOffset va.toNat) 8 s.tagData } := storeDataD_line s va
    have hload : BitVec.ofNat 64 (lineGet (t.dline (dIndexKey va)).data (doubleOffset va.toNat) 8) = s.cp0.tagHi ++ s.cp0.tagLo := by
      rw [hline, lineGet_doubleword]
      exact (lineSet_doubleword _ va.toNat _ _).trans (if_pos rfl)
    have hhi : u.cp0.tagHi = (s.cp0.tagHi ++ s.cp0.tagLo).extractLsb' 32 32 := congrArg (·.extractLsb' 32 32) hload
    have hlo : u.cp0.tagLo = (s.cp0.tagHi ++ s.cp0.tagLo).extractLsb' 0 32 := congrArg (·.extractLsb' 0 32) hload
    rw [hhi, hlo]
    exact ⟨Laws.extractLsb'_append_all _ _, (Laws.extractLsb'_append_high _ _ 32 (by decide)).trans BitVec.extractLsb'_eq_self⟩

/-- Settles O30: each operation by the rules of the lines it touches, the doublewords of a line by their bits. -/
theorem cacheOnL1 : Obligations.CacheOnL1 := ⟨invalidatesISet, invalidatesDLines, movesDTagsAndData, cacheTagAndDataRoundTrip⟩

end Machine
end Sys2Proof
end

section
/-! PROOF. The CACHE operations on the L2 cache (O31). -/

namespace Sys2Proof
namespace Machine

/-! ### A valid line of the L2 is removed -/

/-- The three caches after a removal say that the line and its L1 copies are invalid. -/
theorem invalidatesL2_of_lines {s t : State} {k : Nat}
    (hi : ∀ j, t.iline j = if j ∈ s.iCopies (s.l2lineBase k) then { s.iline j with valid := false } else s.iline j)
    (hd : ∀ j, t.dline j =
      if j ∈ s.dCopies (s.l2lineBase k) then { s.dline j with state := .invalid, dirty := false } else s.dline j)
    (hothers : ∀ j, j ≠ k → t.l2line j = s.l2line j) (hstate : (t.l2line k).state = .invalid)
    (htag : (t.l2line k).tag = (s.l2line k).tag) : Claim.InvalidatesL2 s t k := by
  refine ⟨hstate, htag, hothers, fun j hj => ?_, fun j hj => ?_, fun j hj => ?_, fun j hj => ?_⟩
  · rw [hi, if_pos hj]
  · rw [hi, if_neg hj]
  · rw [hd, if_pos hj]
  · rw [hd, if_neg hj]

theorem latestL2_tag (s : State) (k : Nat) : (s.latestL2 k).tag = (s.l2line k).tag := by
  unfold State.latestL2
  split <;> rfl

theorem dropL2_l2line (s : State) (k : Nat) (hv : (s.l2line k).state.isValid = true) :
    (s.dropL2 k true).l2line k = { s.latestL2 k with state := .invalid } := by
  obtain ⟨-, -, -, hl2⟩ := dropL1Copies_lines s k
  rw [State.dropL2, if_pos hv, l2line_settle, l2line_setL2line, if_pos rfl, hl2, if_pos rfl]

theorem dropL2_invalidatesL2 (s : State) (k : Nat) (hv : (s.l2line k).state.isValid = true) :
    Claim.InvalidatesL2 s (s.dropL2 k true) k := by
  obtain ⟨hi, hd, hothers⟩ := dropL2_lines s k hv
  have hline := dropL2_l2line s k hv
  exact invalidatesL2_of_lines hi hd hothers (congrArg L2Line.state hline)
    ((congrArg L2Line.tag hline).trans (latestL2_tag s k))

theorem dropL2_discards_invalidatesL2 (s : State) (k : Nat) (hv : (s.l2line k).state.isValid = true) :
    Claim.InvalidatesL2 s (s.dropL2 k false) k := by
  have hl2 (j : Nat) : (s.dropL2 k false).l2line j = if j = k then { s.l2line k with state := .invalid } else s.l2line j := by
    rw [dropL2_discards s k hv, l2line_settle, l2line_setL2line, l2line_dropDs, l2line_dropIs]
  refine invalidatesL2_of_lines (fun j => ?_) (fun j => ?_) (fun j hj => (hl2 j).trans (if_neg hj)) ?_ ?_
  · rw [dropL2_discards s k hv, iline_settle, iline_setL2line, iline_dropDs, iline_dropIs]
  · rw [dropL2_discards s k hv, dline_settle, dline_setL2line, dline_dropDs, dline_dropIs]
  · rw [hl2, if_pos rfl]
  · rw [hl2, if_pos rfl]

/-- A line that is not modified, nor a copy of it, leaves memory alone also where it is not in RAM. -/
theorem dropL2_writesBackL2 (s : State) (k : Nat) (hv : (s.l2line k).state.isValid = true) :
    WritesBackL2 s (s.dropL2 k true) k := by
  refine ⟨fun hnone hstate => ?clean, fun hr => ?ram⟩
  case clean =>
    have hcopies : s.modifiedCopies k = [] := hnone
    have hdirty := isDirty_eq_false_of_ne hstate
    have hlatest : (s.latestL2 k).state.isDirty = false := by rw [latestL2_unmodified hcopies, hdirty]
    have hunmodified : ¬s.modifiedL2 k := by
      rintro ⟨-, hown | ⟨d, hd, hcopy⟩⟩
      · simp [hdirty] at hown
      · have hmem : d ∈ s.modifiedCopies k := List.mem_filter.mpr ⟨hd, hcopy⟩
        simp [hcopies] at hmem
    obtain ⟨-, hsame, -⟩ := dropL2_memory s k hv fun h => absurd h hunmodified
    exact hsame hlatest
  case ram =>
    obtain ⟨-, hclean, hdirty⟩ := dropL2_memory s k hv fun _ => hr
    obtain ⟨-, hstores⟩ := writesBackL2_of_latest s _ k hclean hdirty
    exact hstores hr

/-- What Index and Hit WriteBack Invalidate (S) do with a valid line. -/
theorem dropL2_results (s : State) (k : Nat) (hv : (s.l2line k).state.isValid = true) (code : List CodeVersion) :
    let t := ({ s.dropL2 k true with code := code } : State).stepped
    Claim.InvalidatesL2 s t k ∧ WritesBackL2 s t k ∧ Claim.OnlyCachesAndMemory s t := by
  have hlines := dropL2_invalidatesL2 s k hv
  have hmemory := dropL2_writesBackL2 s k hv
  have hframe := dropL2_movesLines s k true
  generalize s.dropL2 k true = u at hlines hmemory hframe ⊢
  unfold State.MovesLines at hframe
  exact ⟨hlines, hmemory.congr fun _ => rfl, by unfold Claim.OnlyCachesAndMemory; rw [hframe]; rfl⟩

/-- What Hit Invalidate (S) does with the line that hits. -/
theorem dropL2_discards_results (s : State) (k : Nat) (hv : (s.l2line k).state.isValid = true) (code : List CodeVersion) :
    let t := ({ s.dropL2 k false with code := code } : State).stepped
    Claim.InvalidatesL2 s t k ∧ (∀ a, t.byteAt a = s.byteAt a) ∧ Claim.OnlyCachesAndMemory s t := by
  have hlines := dropL2_discards_invalidatesL2 s k hv
  have hframe := dropL2_discards_movesCopies s k
  generalize s.dropL2 k false = u at hlines hframe ⊢
  unfold State.MovesCopies at hframe
  exact ⟨hlines, fun _ => by rw [hframe]; rfl, by unfold Claim.OnlyCachesAndMemory; rw [hframe]; rfl⟩

/-! ### The operations that invalidate -/

/-- An operation that writes back L2 lines completes with what it does. -/
theorem cacheRuns_of_movesLines {op : BitVec 5} {P : State → Word → PAddr → State → Prop}
    (f : State → Word → PAddr → State)
    (hf : ∀ s va pa, s.cacheOp op va pa = some (f s va pa)) (hop : op.toNat ∈ [3, 23])
    (hP : ∀ s va pa, P s va pa (f s va pa).stepped) : Claim.CacheRuns op P := by
  intro s offset base pa hu hl htr
  have ht := hf s (s.gpr base + BitVec.ofInt 64 offset.toInt) pa
  obtain ⟨u, code, hmoves, heq⟩ := cacheOp_movesLines ht hop
  unfold State.MovesLines at hmoves
  obtain ⟨hnext, hadvanced⟩ := cache_next hu hl htr ht (by rw [heq, hmoves]) (by rw [heq, hmoves])
  exact ⟨_, hnext, hadvanced, hP s _ pa⟩

theorem isValid_of_ne {l : L2State} (h : l ≠ .invalid) : l.isValid = true :=
  Bool.of_not_eq_false (mt (isValid_eq_false_iff l).mp h)

theorem isValid_of_l2Hits {s : State} {pa : PAddr} {k : Nat} (h : s.l2Hits pa = [k]) : (s.l2line k).state.isValid = true := by
  obtain ⟨-, hv, -⟩ := mem_l2Hits.mp (h ▸ List.mem_singleton_self k : k ∈ s.l2Hits pa)
  exact hv

theorem invalidatesL2Lines : Claim.InvalidatesL2Lines := by
  refine ⟨cacheRuns_of_movesLines (fun s _ pa => s.cacheIndexWriteBackInvalidateS pa) (fun _ _ _ => rfl) (by decide) ?index,
    cacheRuns_of_movesLines (fun s _ pa => s.cacheHitWriteBackInvalidateS pa) (fun _ _ _ => rfl) (by decide) ?hitBack,
    cacheRuns_of_changesCaches (fun s _ pa => s.cacheHitInvalidateS pa) (fun _ _ _ => rfl) (by decide) ?hit⟩
  case index =>
    intro s _ pa
    refine ⟨fun hinvalid => ?_, fun hvalid => dropL2_results s (sIndexKey pa) (isValid_of_ne hvalid) _⟩
    have hsame : s.dropL2 (sIndexKey pa) true = s :=
      if_neg (Bool.eq_false_iff.mp ((isValid_eq_false_iff (s.l2line (sIndexKey pa)).state).mpr hinvalid))
    rw [State.cacheIndexWriteBackInvalidateS, hsame]
    rfl
  case hitBack =>
    intro s _ pa
    refine ⟨fun hnone => ?_, fun k hk => ?_⟩
    · rw [State.cacheHitWriteBackInvalidateS, hnone]
      rfl
    · rw [State.cacheHitWriteBackInvalidateS, hk]
      exact dropL2_results s k (isValid_of_l2Hits hk) _
  case hit =>
    intro s _ pa
    refine ⟨fun hnone => ?_, fun k hk => ?_⟩
    · rw [State.cacheHitInvalidateS, hnone]
      rfl
    · rw [State.cacheHitInvalidateS, hk]
      exact dropL2_discards_results s k (isValid_of_l2Hits hk) _

/-! ### Index Load and Store Tag and Data (S) -/

theorem L2State.code_ofCode (c : BitVec 2) : (L2State.ofCode c).code = c := by revert c; decide

theorem loadTagS_results (s : State) (pa : PAddr) :
    let t := (s.cacheIndexLoadTagS pa).stepped
    let l := s.l2line (sIndexKey pa)
    t.cp0.tagLo.extractLsb' 10 2 = l.state.code ∧ t.cp0.tagLo.extractLsb' 13 19 = l.tag.extractLsb' 0 19 ∧
    t.cp0.tagHi.extractLsb' 0 4 = l.tag.extractLsb' 19 4 ∧ t.cp0.tagLo.extractLsb' 0 10 = 0 ∧ t.cp0.tagLo.getLsbD 12 = false ∧
    t.cp0.tagHi.extractLsb' 4 28 = 0 ∧ t.cp0 = { s.cp0 with tagHi := t.cp0.tagHi, tagLo := t.cp0.tagLo } ∧ OnlyCp0 s t := by
  intro t l
  have hhi : t.cp0.tagHi = 0#28 ++ l.tag.extractLsb' 19 4 := rfl
  have hlo : t.cp0.tagLo = l.tag.extractLsb' 0 19 ++ 0#1 ++ l.state.code ++ 0#10 := rfl
  have hzero : (l.tag.extractLsb' 0 19 ++ 0#1 ++ l.state.code ++ 0#10).getLsbD 12 = false := by
    simp only [BitVec.getLsbD_append]
    rfl
  rw [hhi, hlo, hzero]
  simp (disch := decide) only [Laws.extractLsb'_append_high, Laws.extractLsb'_append_low, Nat.reduceSub,
    BitVec.extractLsb'_eq_self, true_and]
  exact ⟨rfl, rfl, rfl, setTags_onlyCp0 _ _ _⟩

/-- The line that an operation puts in place of line `k` is there, the others stay, whatever becomes of the record of races. -/
theorem setL2line_results (s : State) (k : Nat) (l : L2Line) (raced : List RacedByte) :
    let t := ({ s.setL2line k l with raced := raced } : State).stepped
    t.l2line k = l ∧ (∀ j, j ≠ k → t.l2line j = s.l2line j) ∧ (∀ i, t.dline i = s.dline i) ∧ Claim.OnlyDataCaches s t :=
  ⟨(l2line_setL2line s k k l).trans (if_pos rfl), fun j hj => (l2line_setL2line s k j l).trans (if_neg hj), fun _ => rfl, rfl⟩

theorem movesL2TagsAndData : Claim.MovesL2TagsAndData := by
  refine ⟨cacheRuns_of_changesCaches (fun s _ pa => s.cacheIndexLoadTagS pa) (fun _ _ _ => rfl) (by decide) ?loadTag,
    cacheRuns_of_changesCaches (fun s _ pa => s.cacheIndexStoreTagS pa) (fun _ _ _ => rfl) (by decide) ?storeTag,
    cacheRuns_of_changesCaches (fun s _ pa => s.cacheIndexLoadDataS pa) (fun _ _ _ => rfl) (by decide) ?loadData,
    cacheRuns_of_changesCaches (fun s _ pa => s.cacheIndexStoreDataS pa) (fun _ _ _ => rfl) (by decide) ?storeData⟩
  case loadTag => exact fun s _ pa => loadTagS_results s pa
  case storeTag =>
    intro s _ pa
    obtain ⟨hline, hothers⟩ := setL2line_results s (sIndexKey pa) { s.l2line (sIndexKey pa) with
      state := .ofCode (s.cp0.tagLo.extractLsb' 10 2),
      tag := s.cp0.tagHi.extractLsb' 0 4 ++ s.cp0.tagLo.extractLsb' 13 19 } (s.cacheIndexStoreTagS pa).raced
    exact ⟨(congrArg (·.state.code) hline).trans (L2State.code_ofCode _), congrArg L2Line.tag hline,
      (congrArg L2Line.data hline :), hothers⟩
  case loadData => exact fun s _ pa => ⟨(tags_append _).trans (lineGet_doubleword _ pa.toNat), rfl, setTags_onlyCp0 _ _ _⟩
  case storeData =>
    intro s _ pa
    obtain ⟨hline, hothers⟩ := setL2line_results s (sIndexKey pa) { s.l2line (sIndexKey pa) with
      data := lineSet (s.l2line (sIndexKey pa)).data (doubleOffset pa.toNat) 8 s.tagData } s.raced
    have hdata := congrArg L2Line.data hline
    exact ⟨hline.trans (congrArg (fun d => { s.l2line (sIndexKey pa) with data := d }) hdata.symm),
      fun j _ => (congrArg (·.extractLsb' (64 * j) 64) hdata).trans (lineSet_doubleword _ pa.toNat _ j), hothers⟩

/-- Settles O31: what is left of an L2 line and its copies, and what memory takes, by the rules of the lines that a removal moves. -/
theorem cacheOnL2 : Obligations.CacheOnL2 := ⟨invalidatesL2Lines, movesL2TagsAndData⟩

end Machine
end Sys2Proof
end

section
/-! SUPPORT. The floating-point registers seen as 32-bit and as 64-bit ones (47_fpu_move_branch.md R501, R502), and how an instruction
ends that writes one of them. -/

namespace Sys2Proof
namespace Machine

/-! ### The even and the odd view of a pair -/

/-- With FR = 0 a register pair has the number of its even register. -/
theorem pairNumber_even (n : RegNum) (h : n.getLsbD 0 = false) : n &&& 30 = n ∧ (n + 1) &&& 30 = n ∧ (n + 1).getLsbD 0 = true := by
  revert n
  decide

/-- Two registers of one pair are the even and the odd one. -/
theorem parity_ne_of_pair (n m : RegNum) (hpair : n &&& 30 = m &&& 30) (hne : n ≠ m) : n.getLsbD 0 = !m.getLsbD 0 := by
  revert n m
  decide

theorem append_halves (w : Word) : w.extractLsb' 32 32 ++ low32 w = w := by
  rw [low32, BitVec.extractLsb'_append_extractLsb'_eq_extractLsb' (by decide)]
  exact BitVec.extractLsb'_eq_self

theorem low32_append (high low : Word32) : low32 (high ++ low) = low := BitVec.extractLsb'_append_eq_right

theorem high32_append (high low : Word32) : (high ++ low).extractLsb' 32 32 = high := BitVec.extractLsb'_append_eq_left

theorem fprHome_pair {s : State} {n : RegNum} (hfr : s.cp0.status.fr = false) : s.fprHome n = n &&& 30 := by
  rw [State.fprHome, hfr]
  rfl

theorem fprIsHigh_pair {s : State} {n : RegNum} (hfr : s.cp0.status.fr = false) : s.fprIsHigh n = n.getLsbD 0 := by
  rw [State.fprIsHigh, hfr]
  rfl

section
variable {s : State} {n : RegNum} (hfr : s.cp0.status.fr = false) (heven : n.getLsbD 0 = false)
include hfr heven

theorem fprW_even : s.fprW n = low32 (s.fprD n) := by
  obtain ⟨hn, -, -⟩ := pairNumber_even n heven
  rw [State.fprW, fprHome_pair hfr, fprIsHigh_pair hfr, heven, hn]
  rfl

theorem fprW_odd : s.fprW (n + 1) = (s.fprD n).extractLsb' 32 32 := by
  obtain ⟨-, hn, hodd⟩ := pairNumber_even n heven
  rw [State.fprW, fprHome_pair hfr, fprIsHigh_pair hfr, hodd, hn]
  rfl

theorem fprD_pair : s.fprD n = s.fprW (n + 1) ++ s.fprW n := by
  rw [fprW_odd hfr heven, fprW_even hfr heven, append_halves]

theorem setFprW_even (v : Word32) : s.setFprW n v = s.setFprD n (s.fprW (n + 1) ++ v) := by
  obtain ⟨hn, -, -⟩ := pairNumber_even n heven
  rw [fprW_odd hfr heven, State.setFprW, State.fprWithW, fprHome_pair hfr, fprIsHigh_pair hfr, hfr, heven, hn]
  rfl

theorem setFprW_odd (v : Word32) : s.setFprW (n + 1) v = s.setFprD n (v ++ s.fprW n) := by
  obtain ⟨-, hn, hodd⟩ := pairNumber_even n heven
  rw [fprW_even hfr heven, State.setFprW, State.fprWithW, fprHome_pair hfr, fprIsHigh_pair hfr, hfr, hodd, hn]
  rfl

end

theorem setFprD_fprD_self (s : State) (n : RegNum) (v : Word) : (s.setFprD n v).fprD n = v := setFprRaw_fprRaw_self s n v

/-! ### Reads of 32-bit views after a write of one -/

/-- A 32-bit view reads its half of the register that holds it. -/
theorem setFprRaw_fprW (s : State) (m n : RegNum) (w : Word) :
    (s.setFprRaw m w).fprW n =
      if s.fprHome n = m then (if s.fprIsHigh n then w.extractLsb' 32 32 else low32 w) else s.fprW n := by
  have hread : (s.setFprRaw m w).fprW n = if s.fprIsHigh n then ((s.setFprRaw m w).fprRaw (s.fprHome n)).extractLsb' 32 32
      else low32 ((s.setFprRaw m w).fprRaw (s.fprHome n)) := rfl
  rw [hread, setFprRaw_fprRaw]
  by_cases hm : s.fprHome n = m
  · rw [if_pos hm, if_pos hm]
  · rw [if_neg hm, if_neg hm]
    rfl

theorem setFprW_fprW_self (s : State) (n : RegNum) (v : Word32) : (s.setFprW n v).fprW n = v := by
  rw [State.setFprW, setFprRaw_fprW, if_pos rfl, State.fprWithW]
  cases hfr : s.cp0.status.fr with
  | true =>
    have hlow : s.fprIsHigh n = false := by rw [State.fprIsHigh, hfr]; rfl
    rw [hlow]
    exact low32_append _ _
  | false =>
    cases s.fprIsHigh n with
    | true => exact high32_append _ _
    | false => exact low32_append _ _

/-- A write of a 32-bit view leaves the others: they are in other registers, or with FR = 0 one is the other half. -/
theorem setFprW_fprW_ne (s : State) (n r : RegNum) (v : Word32) (hne : r ≠ n) : (s.setFprW n v).fprW r = s.fprW r := by
  rw [State.setFprW, setFprRaw_fprW]
  split
  · next hhome =>
    cases hfr : s.cp0.status.fr with
    | true => exact absurd (by simpa [State.fprHome, hfr] using hhome) hne
    | false =>
      have hpair : r &&& 30 = n &&& 30 := by rwa [fprHome_pair hfr, fprHome_pair hfr] at hhome
      have hother : s.fprIsHigh r = !s.fprIsHigh n := by
        rw [fprIsHigh_pair hfr, fprIsHigh_pair hfr, parity_ne_of_pair r n hpair hne]
      rw [State.fprW, State.fprWithW, hother, hhome, hfr]
      cases s.fprIsHigh n with
      | true => exact low32_append _ _
      | false => exact high32_append _ _
  · rfl

theorem setFprW_fprRaw_ne (s : State) (n r : RegNum) (v : Word32) (h : r ≠ s.fprHome n) : (s.setFprW n v).fprRaw r = s.fprRaw r :=
  setFprRaw_fprRaw_ne s _ r _ h

/-! ### The end of an instruction that writes a floating-point register -/

theorem setFprW_completes (s : State) (fd : RegNum) (v : Word32) (hl : s.leavesSegment = false) :
    ∃ t, (s.setFprW fd v).advance = .next t ∧ Advanced s t ∧ t.fprW fd = v ∧ t.fcsr = s.fcsr ∧ OnlyFprW s t fd := by
  obtain ⟨hnext, hadvanced⟩ := advance_of_same s (s.setFprW fd v) rfl rfl hl
  exact ⟨_, hnext, hadvanced, setFprW_fprW_self s fd v, rfl, fun _ => rfl, fun r hr => setFprW_fprW_ne s fd r v hr,
    fun r hr => setFprW_fprRaw_ne s fd r v hr, fun _ => rfl, rfl⟩

theorem setFprD_completes (s : State) (fd : RegNum) (v : Word) (hl : s.leavesSegment = false) :
    ∃ t, (s.setFprD fd v).advance = .next t ∧ Advanced s t ∧ t.fprD fd = v ∧ t.fcsr = s.fcsr ∧ OnlyFprD s t fd := by
  obtain ⟨hnext, hadvanced⟩ := advance_of_same s (s.setFprD fd v) rfl rfl hl
  exact ⟨_, hnext, hadvanced, setFprD_fprD_self s fd v, rfl, fun _ => rfl, fun r hr => setFprRaw_fprRaw_ne s fd r v hr,
    fun _ => rfl, rfl⟩

end Machine
end Sys2Proof
end

section
/-! PROOF. Register pairs (O46), and the FPU moves, loads and stores (O48). -/

namespace Sys2Proof
namespace Machine

/-! ### 64-bit operands (47_fpu_move_branch.md R501) -/

/-- An instruction with 64-bit operands does what it does behind the test of all of them. -/
theorem exec_whenPairs (i : Instr) (s : State) (h : fpPairOperands i ≠ []) :
    ∃ act, exec i s = s.whenPairs (fpPairOperands i) act := by
  cases i with
  | dmfc1 | dmtc1 | ldc1 | sdc1 | movD | movPs => exact ⟨_, rfl⟩
  | addD | subD | mulD | divD | sqrtD | absD | negD | maddD | msubD | nmaddD | nmsubD => exact ⟨_, rfl⟩
  | addPs | subPs | mulPs | absPs | negPs | maddPs | msubPs | nmaddPs | nmsubPs => exact ⟨_, rfl⟩
  | roundLS | roundLD | truncLS | truncLD | ceilLS | ceilLD | floorLS | floorLD | cvtLS | cvtLD => exact ⟨_, rfl⟩
  | roundWD | truncWD | ceilWD | floorWD | cvtWD | cvtSD | cvtSL | cvtDS | cvtDW | cvtDL => exact ⟨_, rfl⟩
  | cFD | cUnD | cEqD | cUeqD | cOltD | cUltD | cOleD | cUleD | cSfD | cNgleD | cSeqD | cNglD | cLtD | cNgeD | cLeD | cNgtD =>
    exact ⟨_, rfl⟩
  | cFPs | cUnPs | cEqPs | cUeqPs | cOltPs | cUltPs | cOlePs | cUlePs | cSfPs | cNglePs | cSeqPs | cNglPs | cLtPs | cNgePs
  | cLePs | cNgtPs => exact ⟨_, rfl⟩
  | _ => exact absurd rfl h

/-- With FR = 0 an odd 64-bit operand is refused (10_state.md R92). -/
theorem whenPairs_odd {s : State} {names : List RegNum} {n : RegNum} (act : Out) (hfr : s.cp0.status.fr = false)
    (hu : s.cp1Usable = true) (hn : n ∈ names) (hodd : n.getLsbD 0 = true) : s.whenPairs names act = .refused .oddFpRegister := by
  have hnot : s.evenFprs names = false := by
    rw [State.evenFprs, hfr, Bool.false_or, List.all_eq_false]
    exact ⟨n, hn, by simp [hodd]⟩
  rw [State.whenPairs, whenCp1_usable s _ hu, hnot]
  rfl

/-- Settles O46: the two views of a pair are its halves, and every instruction with 64-bit operands is behind the test of them. -/
theorem fpRegisterPairs : Obligations.FpRegisterPairs := by
  unfold Obligations.FpRegisterPairs
  intro s n v hfr hu
  refine ⟨fun heven => ⟨fprD_pair hfr heven, ?odd, ?even⟩, fun i hi hodd => ?refused⟩
  case odd => rw [setFprW_odd hfr heven, setFprD_fprD_self]
  case even => rw [setFprW_even hfr heven, setFprD_fprD_self]
  case refused =>
    obtain ⟨act, hexec⟩ := exec_whenPairs i s (List.ne_nil_of_mem hi)
    rw [hexec]
    exact whenPairs_odd act hfr hu hi hodd

/-! ### Moves -/

theorem fpMoveResults : Claim.FpMoveResults := by
  unfold Claim.FpMoveResults
  intro s rt fs fd hl hu
  have hmtc1 : exec (.mtc1 rt fs) s = (s.setFprW fs (BitVec.ofNat 32 (s.gpr rt).toNat)).advance := by
    rw [← low32_eq_ofNat]
    exact whenCp1_usable s _ hu
  have hmfc1 : exec (.mfc1 rt fs) s = s.writeGpr rt ((s.fprW fs).signExtend 64) := whenCp1_usable s _ hu
  have hmovS : exec (.movS fd fs) s = (s.setFprW fd (s.fprW fs)).advance := whenCp1_usable s _ hu
  rw [hmtc1, hmfc1, hmovS]
  refine ⟨writeGpr_result s rt _ hl, setFprW_completes s fs _ hl, setFprW_completes s fd _ hl, fun he => ?doubles, fun he => ?copies⟩
  case doubles =>
    have hdmfc1 : exec (.dmfc1 rt fs) s = s.writeGpr rt (s.fprD fs) := whenPairs_usable s _ _ hu he
    have hdmtc1 : exec (.dmtc1 rt fs) s = (s.setFprD fs (s.gpr rt)).advance := whenPairs_usable s _ _ hu he
    rw [hdmfc1, hdmtc1]
    exact ⟨writeGpr_result s rt _ hl, setFprD_completes s fs _ hl⟩
  case copies =>
    have hmov : ∀ i ∈ [Instr.movD fd fs, .movPs fd fs], exec i s = (s.setFprD fd (s.fprD fs)).advance := by
      simp only [List.forall_mem_cons]
      exact ⟨whenPairs_usable s _ _ hu he, whenPairs_usable s _ _ hu he, List.forall_mem_nil _⟩
    intro i hi
    rw [hmov i hi]
    exact setFprD_completes s fd _ hl

/-! ### Loads and stores -/

section
variable {s : State} (ft base : RegNum) (offset : BitVec 16) (hu : s.cp1Usable = true)
include hu

/-- LWC1 by the datum that its access answers. -/
theorem lwc1_completes {d : Word} {w : Word32} (hl : s.leavesSegment = false) (hw : d.setWidth 32 = w)
    (h : s.loadVirt (s.address base offset) 4 = .ok d s) :
    ∃ t, exec (.lwc1 ft offset base) s = .next t ∧ Advanced s t ∧ t.fprW ft = w ∧ t.fcsr = s.fcsr ∧ OnlyFprW s t ft := by
  have hlow : low32 d = w := by rw [low32_eq_ofNat, BitVec.ofNat_toNat, hw]
  have hexec : exec (.lwc1 ft offset base) s = (s.setFprW ft (low32 d)).advance :=
    (whenCp1_usable s _ hu).trans (by rw [h]; rfl)
  rw [hexec, hlow]
  exact setFprW_completes s ft w hl

/-- LDC1 by the datum that its access answers. -/
theorem ldc1_completes {d : Word} (hl : s.leavesSegment = false) (he : s.evenFprs [ft] = true)
    (h : s.loadVirt (s.address base offset) 8 = .ok d s) :
    ∃ t, exec (.ldc1 ft offset base) s = .next t ∧ Advanced s t ∧ t.fprD ft = d ∧ t.fcsr = s.fcsr ∧ OnlyFprD s t ft := by
  have hexec : exec (.ldc1 ft offset base) s = (s.setFprD ft d).advance :=
    (whenPairs_usable s _ _ hu he).trans (by rw [h]; rfl)
  rw [hexec]
  exact setFprD_completes s ft d hl

theorem exec_swc1_usable :
    exec (.swc1 ft offset base) s = s.storeFrom (s.address base offset) 4 4 ((s.fprW ft).setWidth 64) :=
  whenCp1_usable s _ hu

theorem exec_sdc1_usable (he : s.evenFprs [ft] = true) :
    exec (.sdc1 ft offset base) s = s.storeFrom (s.address base offset) 8 8 (s.fprD ft) :=
  whenPairs_usable s _ _ hu he

end

theorem fpLoadStoreResults : Claim.FpLoadStoreResults := by
  unfold Claim.FpLoadStoreResults
  intro s ft base offset pa hl hu va
  refine ⟨fun h => ?lwc1, fun he h => ldc1_completes ft base offset hu hl he (loadVirt_uncached s va 8 pa h),
    fun h => exec_swc1_usable ft base offset hu ▸ storeFrom_storeResult _ (by decide) hl h,
    fun he h => exec_sdc1_usable ft base offset hu he ▸ storeFrom_storeResult _ (by decide) hl h⟩
  case lwc1 =>
    refine lwc1_completes ft base offset hu hl ?_ (loadVirt_uncached s va 4 pa h)
    rw [ramDatum_word, BitVec.setWidth_setWidth_of_le _ (by decide), BitVec.setWidth_eq]

theorem fpCachedLoadStoreResults : Claim.FpCachedLoadStoreResults := by
  unfold Claim.FpCachedLoadStoreResults
  intro s ft base offset pa k hl hu va
  exact ⟨fun h => lwc1_completes ft base offset hu hl rfl (loadVirt_cached s va 4 pa k h),
    fun he h => ldc1_completes ft base offset hu hl he (loadVirt_cached s va 8 pa k h),
    fun h => exec_swc1_usable ft base offset hu ▸ storeFrom_lineStoreResult _ hl h,
    fun he h => exec_sdc1_usable ft base offset hu he ▸ storeFrom_lineStoreResult _ hl h⟩

/-- Settles O48: a move, or a load by the datum of its access, writes one view of one register; a store is the shared form. -/
theorem fpMovesLoadsAndStores : Obligations.FpMovesLoadsAndStores := ⟨fpMoveResults, fpLoadStoreResults, fpCachedLoadStoreResults⟩

end Machine
end Sys2Proof
end

section
/-! PROOF. The 48 compares (O49). Each is one of three forms with the number of its condition; all three end as an FPU operation does,
with a Cause that is V or nothing and with a change of FCR31 alone. -/

namespace Sys2Proof
namespace Machine

/-! ### The end of an FPU operation (48_fpu_arith.md R553 steps 5 and 6) -/

theorem fpFinish_traps {s : State} {cause : BitVec 6} (done : State → State) (h : s.fcsr.traps cause = true) :
    FpTraps s (s.fpFinish cause done) cause := if_pos h

/-- An operation that does not trap and whose result goes to FCR31. -/
theorem fpFinish_fcsr {s : State} {cause : BitVec 6} (result : Fcsr → Fcsr) (hl : s.leavesSegment = false)
    (h : s.fcsr.traps cause = false) :
    ∃ t, s.fpFinish cause (fun t => { t with fcsr := result t.fcsr }) = .next t ∧ Advanced s t ∧ OnlyFcsr s t ∧
      t.fcsr = result { s.fcsr with cause := cause, flags := s.fcsr.flags ||| cause.extractLsb' 0 5 } := by
  have hfinish : s.fpFinish cause (fun t => { t with fcsr := result t.fcsr }) =
      ({ s.recordFp cause with fcsr := result (s.recordFp cause).fcsr } : State).advance :=
    if_neg (Bool.eq_false_iff.mp h)
  obtain ⟨hnext, hadvanced⟩ :=
    advance_of_same s { s.recordFp cause with fcsr := result (s.recordFp cause).fcsr } rfl rfl hl
  exact ⟨_, hfinish.trans hnext, hadvanced, ⟨fun _ => rfl, fun _ => rfl, fun _ => rfl, rfl⟩, rfl⟩

/-! ### The Cause of a compare -/

/-- A compare traps where it is invalid and Enable V is 1. -/
theorem traps_compareCause (f : Fcsr) (invalid : Bool) : f.traps (compareCause invalid) = (invalid && f.enables.getLsbD 4) := by
  have hv : ∀ e : BitVec 5, (causeV.extractLsb' 0 5 &&& e != 0) = e.getLsbD 4 := by decide
  have hnone : ∀ e : BitVec 5, ((0 : BitVec 6).extractLsb' 0 5 &&& e != 0) = false := by decide
  cases invalid with
  | true => exact hv f.enables
  | false => exact hnone f.enables

/-- What a compare leaves in FCR31 where it does not trap, but for the condition bits. -/
def Fcsr.afterCompare (f : Fcsr) (invalid : Bool) : Fcsr :=
  { f with cause := compareCause invalid, flags := f.flags ||| (compareCause invalid).extractLsb' 0 5 }

theorem afterCompare_valid (f : Fcsr) : f.afterCompare false = { f with cause := 0 } := by
  have hflags : f.flags ||| (compareCause false).extractLsb' 0 5 = f.flags := BitVec.or_zero
  rw [Fcsr.afterCompare, hflags]
  rfl

theorem afterCompare_invalid (f : Fcsr) : f.afterCompare true = { f with cause := 0b010000, flags := f.flags ||| 0b10000 } := rfl

/-- The end of a compare: FCR31 alone is changed, or the trap. -/
theorem fpFinish_compare (s : State) (invalid : Bool) (result : Fcsr → Fcsr) (hl : s.leavesSegment = false) :
    (invalid = false ∨ s.fcsr.enables.getLsbD 4 = false →
      ∃ t, s.fpFinish (compareCause invalid) (fun t => { t with fcsr := result t.fcsr }) = .next t ∧ Advanced s t ∧ OnlyFcsr s t ∧
        t.fcsr = result (s.fcsr.afterCompare invalid)) ∧
    (invalid = true → s.fcsr.enables.getLsbD 4 = true →
      FpTraps s (s.fpFinish (compareCause invalid) (fun t => { t with fcsr := result t.fcsr })) 0b010000) := by
  constructor
  · intro h
    refine fpFinish_fcsr result hl ?_
    rw [traps_compareCause, Bool.and_eq_false_iff]
    exact h
  · rintro rfl henabled
    exact fpFinish_traps _ ((traps_compareCause s.fcsr true).trans henabled)

/-! ### Compares of singles and doubles -/

/-- What a compare of single or double values does, by what it finds. -/
theorem compareInto_results (s : State) (c : FpCompare) (hl : s.leavesSegment = false) :
    (c.invalid = false → ∃ t, s.compareInto c = .next t ∧ Advanced s t ∧ OnlyFcsr s t ∧
      t.fcsr = { s.fcsr with cause := 0, cc0 := c.result }) ∧
    (c.invalid = true → s.fcsr.enables.getLsbD 4 = false → ∃ t, s.compareInto c = .next t ∧ Advanced s t ∧ OnlyFcsr s t ∧
      t.fcsr = { s.fcsr with cause := 0b010000, flags := s.fcsr.flags ||| 0b10000, cc0 := c.result }) ∧
    (c.invalid = true → s.fcsr.enables.getLsbD 4 = true → FpTraps s (s.compareInto c) 0b010000) := by
  obtain ⟨hcompletes, htraps⟩ := fpFinish_compare s c.invalid (fun f => { f with cc0 := c.result }) hl
  refine ⟨fun hvalid => ?valid, fun hinvalid henable => ?invalid, htraps⟩
  case valid =>
    have hends := hcompletes (.inl hvalid)
    rw [hvalid, afterCompare_valid] at hends
    rw [State.compareInto, hvalid]
    exact hends
  case invalid =>
    have hends := hcompletes (.inr henable)
    rw [hinvalid, afterCompare_invalid] at hends
    rw [State.compareInto, hinvalid]
    exact hends

theorem compareSingleResults : Claim.CompareSingleResults := by
  unfold Claim.CompareSingleResults
  intro s fs ft hl hu p hp
  have hform : exec p.2 s = s.compareS p.1 fs ft := by
    fin_cases hp <;> rfl
  rw [hform, State.compareS, whenCp1_usable s _ hu]
  exact compareInto_results s _ hl

theorem compareDoubleResults : Claim.CompareDoubleResults := by
  unfold Claim.CompareDoubleResults
  intro s fs ft hl hu he p hp
  have hform : exec p.2 s = s.compareD p.1 fs ft := by
    fin_cases hp <;> rfl
  rw [hform, State.compareD, whenPairs_usable s _ _ hu he]
  exact compareInto_results s _ hl

/-! ### Compares of paired singles (47_fpu_move_branch.md R546) -/

theorem lowerSingle_eq (v : Word) : lowerSingle v = (lowerHalf v).toNat := by rw [lowerSingle, low32_eq_ofNat, lowerHalf]

theorem upperSingle_eq (v : Word) : upperSingle v = (upperHalf v).toNat := by
  rw [upperSingle, upperHalf, BitVec.extractLsb'_toNat, BitVec.toNat_ofNat, Nat.shiftRight_eq_div_pow]

/-- The condition bits that a compare of pairs sets in FCR31. -/
def Fcsr.withPairConditions (f : Fcsr) (low high : FpCompare) : Fcsr :=
  { f with cc0 := low.result, cc := f.cc.extractLsb' 1 6 ++ bit high.result }

/-- CC1 is set, and the other bits above CC0 are as before. -/
theorem withPairConditions_cc (f : Fcsr) (low high : FpCompare) :
    (f.withPairConditions low high).cc.getLsbD 0 = high.result ∧
      ∀ i, 0 < i → (f.withPairConditions low high).cc.getLsbD i = f.cc.getLsbD i := by
  have hcc : (f.withPairConditions low high).cc = f.cc.extractLsb' 1 6 ++ bit high.result := rfl
  rw [hcc]
  refine ⟨by rw [BitVec.getLsbD_append, if_pos Nat.one_pos, bit, BitVec.getLsbD_ofBool]; simp, fun i hi => ?_⟩
  rw [BitVec.getLsbD_append, if_neg (by omega), BitVec.getLsbD_extractLsb', show 1 + (i - 1) = i by omega]
  by_cases hin : i < 7
  · simp [show i - 1 < 6 by omega]
  · simp [BitVec.getLsbD_of_ge f.cc i (by omega)]

/-- A compare of pairs after its operand checks. -/
def State.comparePairInto (s : State) (low high : FpCompare) : Out :=
  s.fpFinish (compareCause (low.invalid || high.invalid)) fun t => { t with fcsr := t.fcsr.withPairConditions low high }

theorem comparePs_usable {s : State} (cond : BitVec 4) {fs ft : RegNum} (hu : s.cp1Usable = true) (he : s.evenFprs [fs, ft] = true) :
    s.comparePs cond fs ft =
      s.comparePairInto (FpFormat.single.compare cond (lowerHalf (s.fprD fs)).toNat (lowerHalf (s.fprD ft)).toNat)
        (FpFormat.single.compare cond (upperHalf (s.fprD fs)).toNat (upperHalf (s.fprD ft)).toNat) := by
  simp only [← lowerSingle_eq, ← upperSingle_eq]
  exact whenPairs_usable s _ _ hu he

/-- What a compare of pairs does, by what it finds in the halves. -/
theorem comparePairInto_results (s : State) (low high : FpCompare) (hl : s.leavesSegment = false) :
    let records := fun t : State => t.fcsr.cc0 = low.result ∧ t.fcsr.cc.getLsbD 0 = high.result ∧
      (∀ i, 0 < i → t.fcsr.cc.getLsbD i = s.fcsr.cc.getLsbD i)
    (low.invalid = false → high.invalid = false → ∃ t, s.comparePairInto low high = .next t ∧ Advanced s t ∧ OnlyFcsr s t ∧ records t ∧
      t.fcsr = { s.fcsr with cause := 0, cc0 := t.fcsr.cc0, cc := t.fcsr.cc }) ∧
    (low.invalid = true ∨ high.invalid = true → s.fcsr.enables.getLsbD 4 = false →
      ∃ t, s.comparePairInto low high = .next t ∧ Advanced s t ∧ OnlyFcsr s t ∧ records t ∧
        t.fcsr = { s.fcsr with cause := 0b010000, flags := s.fcsr.flags ||| 0b10000, cc0 := t.fcsr.cc0, cc := t.fcsr.cc }) ∧
    (low.invalid = true ∨ high.invalid = true → s.fcsr.enables.getLsbD 4 = true → FpTraps s (s.comparePairInto low high) 0b010000) := by
  intro records
  obtain ⟨hcompletes, htraps⟩ :=
    fpFinish_compare s (low.invalid || high.invalid) (fun f => f.withPairConditions low high) hl
  have hrecords : ∀ {t : State} {invalid : Bool}, t.fcsr = (s.fcsr.afterCompare invalid).withPairConditions low high → records t := by
    intro t invalid ht
    obtain ⟨hcc1, hothers⟩ := withPairConditions_cc (s.fcsr.afterCompare invalid) low high
    rw [← ht] at hcc1 hothers
    exact ⟨congrArg Fcsr.cc0 ht, hcc1, hothers⟩
  refine ⟨fun hlow hhigh => ?valid, fun hinvalid henable => ?invalid, fun hinvalid => htraps (by simpa using hinvalid)⟩
  case valid =>
    have hnone : (low.invalid || high.invalid) = false := by rw [hlow, hhigh]; rfl
    obtain ⟨t, hnext, hadvanced, honly, hfcsr⟩ := hcompletes (.inl hnone)
    refine ⟨t, hnext, hadvanced, honly, hrecords hfcsr, ?_⟩
    rw [hfcsr, hnone, afterCompare_valid]
    rfl
  case invalid =>
    have hsome : (low.invalid || high.invalid) = true := by simpa using hinvalid
    obtain ⟨t, hnext, hadvanced, honly, hfcsr⟩ := hcompletes (.inr henable)
    refine ⟨t, hnext, hadvanced, honly, hrecords hfcsr, ?_⟩
    rw [hfcsr, hsome, afterCompare_invalid]
    rfl

theorem comparePairedResults : Claim.ComparePairedResults := by
  unfold Claim.ComparePairedResults
  intro s fs ft hl hu he p hp
  have hform : exec p.2 s = s.comparePs p.1 fs ft := by
    fin_cases hp <;> rfl
  rw [hform, comparePs_usable p.1 hu he]
  exact comparePairInto_results s _ _ hl

/-- Settles O49: each compare is one of the three forms, and its end is that of an FPU operation which changes FCR31 alone. -/
theorem compareResults : Obligations.CompareResults := ⟨⟨compareSingleResults, compareDoubleResults⟩, comparePairedResults⟩

end Machine
end Sys2Proof
end

section
/-! PROOF. A compare orders the numbers that the bit patterns stand for (O50). The fields below the sign are one number, which grows with
the magnitude; with the sign it is the key that a compare orders by, and the key of an infinity lies past those of all numbers. -/

namespace Sys2Proof
namespace Machine

/-! ### The fields below the sign -/

/-- The exponent and fraction fields of a bit pattern as one number. -/
def FpFormat.magnitude (f : FpFormat) (n : Nat) : Nat := n % 2 ^ (f.width - 1)

theorem orderKey_eq (f : FpFormat) (n : Nat) :
    f.orderKey n = if f.negative n then -(f.magnitude n : Int) else f.magnitude n := rfl

theorem width_sub_one (f : FpFormat) : f.width - 1 = f.fractionBits + f.exponentBits := by cases f <;> rfl

theorem exponent_eq_magnitude_div (f : FpFormat) (n : Nat) : f.exponent n = f.magnitude n / 2 ^ f.fractionBits := by
  rw [FpFormat.exponent, FpFormat.magnitude, width_sub_one, pow_add, Nat.mod_mul_right_div_self]

theorem fraction_eq_magnitude_mod (f : FpFormat) (n : Nat) : f.fraction n = f.magnitude n % 2 ^ f.fractionBits := by
  rw [FpFormat.fraction, FpFormat.magnitude, width_sub_one, Nat.mod_mod_of_dvd _ (pow_dvd_pow 2 (Nat.le_add_right _ _))]

theorem exponent_le_max (f : FpFormat) (n : Nat) : f.exponent n ≤ f.exponentMax :=
  Nat.le_sub_one_of_lt (Nat.mod_lt _ (Nat.two_pow_pos _))

/-! ### What a bit pattern stands for -/

theorem value_finite_iff (f : FpFormat) (n : Nat) : (f.value n).isFinite = true ↔ f.exponent n ≠ f.exponentMax := by
  unfold FpFormat.value
  dsimp only
  split
  · next hmax => split <;> simp [FpValue.isFinite, hmax]
  · next hmax => split <;> simp [FpValue.isFinite, hmax]

theorem value_infinity {f : FpFormat} {n : Nat} {neg : Bool} (h : f.value n = .infinity neg) :
    f.negative n = neg ∧ f.exponent n = f.exponentMax ∧ f.fraction n = 0 := by
  unfold FpFormat.value at h
  dsimp only at h
  split at h
  · next hmax =>
    split at h
    · next hzero => exact ⟨FpValue.infinity.inj h, hmax, hzero⟩
    · cases h
  · split at h <;> cases h

theorem isNan_iff (f : FpFormat) (n : Nat) : f.isNan n = true ↔ ∃ signaling, f.value n = .nan signaling := by
  unfold FpFormat.isNan
  split
  · next q h => simp [h]
  · next h => simpa using h

theorem isSignaling_iff (f : FpFormat) (n : Nat) : f.isSignaling n = true ↔ f.value n = .nan true := by
  simp [FpFormat.isSignaling]

theorem isNan_of_isSignaling {f : FpFormat} {n : Nat} (h : f.isSignaling n = true) : f.isNan n = true :=
  (isNan_iff f n).mpr ⟨true, (isSignaling_iff f n).mp h⟩

theorem isNan_of_finite {f : FpFormat} {n : Nat} (h : (f.value n).isFinite = true) : f.isNan n = false := by
  rw [Bool.eq_false_iff, ne_eq, isNan_iff]
  rintro ⟨q, hq⟩
  rw [hq] at h
  cases h

theorem isNan_of_infinity {f : FpFormat} {n : Nat} {neg : Bool} (h : f.value n = .infinity neg) : f.isNan n = false := by
  rw [Bool.eq_false_iff, ne_eq, isNan_iff, h]
  rintro ⟨q, hq⟩
  cases hq

/-! ### Numbers in units of the smallest denormalised number -/

/-- The number with `k` for the fields below the sign, in units of the smallest denormalised number. -/
def FpFormat.scaled (f : FpFormat) (k : Nat) : Nat :=
  if k / 2 ^ f.fractionBits = 0 then k % 2 ^ f.fractionBits
  else (2 ^ f.fractionBits + k % 2 ^ f.fractionBits) * 2 ^ (k / 2 ^ f.fractionBits - 1)

/-- The next bit pattern is the next fraction, or the smallest number of the next exponent. -/
theorem scaled_lt_succ (f : FpFormat) (k : Nat) : f.scaled k < f.scaled (k + 1) := by
  unfold FpFormat.scaled
  have hpos : 0 < 2 ^ f.fractionBits := Nat.two_pow_pos _
  generalize 2 ^ f.fractionBits = b at hpos ⊢
  obtain ⟨q, r, hq, hr, hk, hlt⟩ : ∃ q r, k / b = q ∧ k % b = r ∧ r + b * q = k ∧ r < b :=
    ⟨_, _, rfl, rfl, Nat.mod_add_div k b, Nat.mod_lt k hpos⟩
  rw [hq, hr]
  rcases Nat.lt_or_ge (r + 1) b with hfraction | hcarry
  · obtain ⟨hq', hr'⟩ := (Nat.div_mod_unique hpos (a := k + 1) (c := r + 1) (d := q)).mpr ⟨by omega, hfraction⟩
    rw [hq', hr']
    split
    · exact Nat.lt_succ_self r
    · exact Nat.mul_lt_mul_of_pos_right (by omega) (Nat.two_pow_pos _)
  · obtain ⟨hq', hr'⟩ := (Nat.div_mod_unique hpos (a := k + 1) (c := 0) (d := q + 1)).mpr ⟨by rw [Nat.mul_succ]; omega, hpos⟩
    rw [hq', hr', if_neg (Nat.succ_ne_zero q)]
    cases q with
    | zero => simpa using hlt
    | succ p => calc
        (b + r) * 2 ^ p < (b + b) * 2 ^ p := Nat.mul_lt_mul_of_pos_right (by omega) (Nat.two_pow_pos p)
        _ = (b + 0) * 2 ^ (p + 1 + 1 - 1) := by rw [Nat.add_sub_cancel, pow_succ]; ring

theorem scaled_strictMono (f : FpFormat) : StrictMono f.scaled := strictMono_nat_of_lt_succ (scaled_lt_succ f)

/-- The number with a key, in the same units. -/
def FpFormat.signedScaled (f : FpFormat) (k : Int) : Int := k.sign * f.scaled k.natAbs

theorem signedScaled_neg (f : FpFormat) (k : Int) : f.signedScaled (-k) = -f.signedScaled k := by
  simp [FpFormat.signedScaled]

theorem signedScaled_natCast (f : FpFormat) (k : Nat) : f.signedScaled k = f.scaled k := by
  cases k with
  | zero => simp [FpFormat.signedScaled, FpFormat.scaled]
  | succ k => rw [FpFormat.signedScaled, Int.sign_natCast_of_ne_zero (Nat.succ_ne_zero k), one_mul, Int.natAbs_natCast]

theorem signedScaled_strictMono (f : FpFormat) : StrictMono f.signedScaled := by
  refine strictMono_of_odd_strictMonoOn_nonneg (signedScaled_neg f) fun x hx y hy hlt => ?_
  lift x to Nat using hx
  lift y to Nat using hy
  rw [signedScaled_natCast, signedScaled_natCast]
  exact_mod_cast scaled_strictMono f (by exact_mod_cast hlt)

theorem signedScaled_orderKey (f : FpFormat) (n : Nat) :
    f.signedScaled (f.orderKey n) = (if f.negative n then -1 else 1) * f.scaled (f.magnitude n) := by
  rw [orderKey_eq]
  split
  · rw [signedScaled_neg, signedScaled_natCast, neg_one_mul]
  · rw [signedScaled_natCast, one_mul]

/-- The smallest denormalised number. -/
def FpFormat.smallest (f : FpFormat) : ℚ := 2 ^ (f.emin - f.fractionBits)

theorem smallest_pos (f : FpFormat) : 0 < f.smallest := zpow_pos two_pos _

/-- A finite number, in units of the smallest denormalised number, by its key. -/
theorem rational_eq_signedScaled {f : FpFormat} {n : Nat} (h : (f.value n).isFinite = true) :
    (f.value n).rational = f.signedScaled (f.orderKey n) * f.smallest := by
  have hmax := (value_finite_iff f n).mp h
  rw [signedScaled_orderKey]
  by_cases hzero : f.exponent n = 0
  · have hvalue : f.value n = .finite (f.negative n) (f.fraction n) (f.emin - f.fractionBits) := by
      simp only [FpFormat.value, if_neg hmax, if_pos hzero]
    have hscaled : f.scaled (f.magnitude n) = f.fraction n := by
      rw [FpFormat.scaled, ← exponent_eq_magnitude_div, ← fraction_eq_magnitude_mod, if_pos hzero]
    rw [hvalue, hscaled, FpValue.rational, FpFormat.smallest]
    push_cast
    rfl
  · have hvalue : f.value n = .finite (f.negative n) (2 ^ f.fractionBits + f.fraction n)
        (f.exponent n - f.emax - f.fractionBits) := by
      simp only [FpFormat.value, if_neg hmax, if_neg hzero]
    have hscaled : f.scaled (f.magnitude n) = (2 ^ f.fractionBits + f.fraction n) * 2 ^ (f.exponent n - 1) := by
      rw [FpFormat.scaled, ← exponent_eq_magnitude_div, ← fraction_eq_magnitude_mod, if_neg hzero]
    have hplace : (f.exponent n : Int) - f.emax - f.fractionBits = (f.exponent n - 1 : Nat) + (f.emin - f.fractionBits) := by
      rw [FpFormat.emin, Nat.cast_sub (Nat.one_le_iff_ne_zero.mpr hzero)]
      push_cast
      ring
    rw [hvalue, hscaled, FpValue.rational, FpFormat.smallest, hplace, zpow_add₀ two_ne_zero, zpow_natCast]
    push_cast
    ring

section
variable {f : FpFormat} {a b : Nat} (ha : (f.value a).isFinite = true) (hb : (f.value b).isFinite = true)
include ha hb

theorem orderKey_lt_iff : f.orderKey a < f.orderKey b ↔ (f.value a).rational < (f.value b).rational := by
  rw [rational_eq_signedScaled ha, rational_eq_signedScaled hb, mul_lt_mul_iff_left₀ (smallest_pos f), Int.cast_lt,
    (signedScaled_strictMono f).lt_iff_lt]

theorem orderKey_eq_iff : f.orderKey a = f.orderKey b ↔ (f.value a).rational = (f.value b).rational := by
  rw [rational_eq_signedScaled ha, rational_eq_signedScaled hb, mul_left_inj' (smallest_pos f).ne', Int.cast_inj,
    (signedScaled_strictMono f).injective.eq_iff]

end

/-! ### Infinities -/

/-- The key of +infinity. -/
def FpFormat.infinityKey (f : FpFormat) : Int := (f.exponentMax * 2 ^ f.fractionBits : Nat)

theorem infinityKey_pos (f : FpFormat) : 0 < f.infinityKey := by cases f <;> decide

theorem orderKey_infinity {f : FpFormat} {n : Nat} {neg : Bool} (h : f.value n = .infinity neg) :
    f.orderKey n = if neg then -f.infinityKey else f.infinityKey := by
  obtain ⟨hneg, hexponent, hfraction⟩ := value_infinity h
  have hmagnitude : f.magnitude n = f.exponentMax * 2 ^ f.fractionBits := by
    rw [← Nat.div_add_mod (f.magnitude n) (2 ^ f.fractionBits), ← exponent_eq_magnitude_div, ← fraction_eq_magnitude_mod, hexponent,
      hfraction, Nat.add_zero, Nat.mul_comm]
  rw [orderKey_eq, hneg, hmagnitude, FpFormat.infinityKey]

theorem orderKey_finite {f : FpFormat} {n : Nat} (h : (f.value n).isFinite = true) :
    -f.infinityKey < f.orderKey n ∧ f.orderKey n < f.infinityKey := by
  have hlt : f.exponent n < f.exponentMax := (exponent_le_max f n).lt_of_ne ((value_finite_iff f n).mp h)
  rw [exponent_eq_magnitude_div, Nat.div_lt_iff_lt_mul (Nat.two_pow_pos _)] at hlt
  rw [orderKey_eq, FpFormat.infinityKey]
  split <;> omega

/-! ### What a compare answers -/

section
variable {f : FpFormat} {a b : Nat} (cond : BitVec 4)

/-- Where no operand is a NaN, a compare orders the keys. -/
theorem compare_ordered (ha : f.isNan a = false) (hb : f.isNan b = false) :
    f.compare cond a b =
      { result := (cond.getLsbD 2 && decide (f.orderKey a < f.orderKey b)) || (cond.getLsbD 1 && f.orderKey a == f.orderKey b)
        invalid := false } := by
  have hsa : f.isSignaling a = false := Bool.eq_false_iff.mpr fun h => by simp [isNan_of_isSignaling h] at ha
  have hsb : f.isSignaling b = false := Bool.eq_false_iff.mpr fun h => by simp [isNan_of_isSignaling h] at hb
  simp [FpFormat.compare, ha, hb, hsa, hsb]

theorem compare_unordered (h : f.isNan a = true ∨ f.isNan b = true) :
    f.compare cond a b =
      { result := cond.getLsbD 0, invalid := f.isSignaling a || f.isSignaling b || cond.getLsbD 3 } := by
  have hunordered : (f.isNan a || f.isNan b) = true := by simpa using h
  simp [FpFormat.compare, hunordered]

variable (ha : f.isNan a = false) (hb : f.isNan b = false)
include ha hb

theorem compare_of_lt (h : f.orderKey a < f.orderKey b) :
    f.compare cond a b = { result := cond.getLsbD 2, invalid := false } := by
  simp [compare_ordered cond ha hb, h, h.ne]

theorem compare_of_eq (h : f.orderKey a = f.orderKey b) :
    f.compare cond a b = { result := cond.getLsbD 1, invalid := false } := by
  simp [compare_ordered cond ha hb, h]

theorem compare_of_gt (h : f.orderKey b < f.orderKey a) : f.compare cond a b = { result := false, invalid := false } := by
  simp [compare_ordered cond ha hb, h.not_gt, h.ne']

end

/-- Settles O50: the keys of finite numbers are ordered as the numbers are, and the keys of the infinities lie outside them. -/
theorem compareIsNumeric : Obligations.CompareIsNumeric := by
  unfold Obligations.CompareIsNumeric
  intro f cond a b _ _ r less equal greater
  have hpos := infinityKey_pos f
  refine ⟨fun ha hb => ?finite, fun h => ?unordered, fun neg ha hb => ?left, fun neg ha hb => ?right, fun neg ha hb => ?same,
    fun neg ha hb => ?opposite⟩
  case finite =>
    have hr : r = _ := compare_ordered cond (isNan_of_finite ha) (isNan_of_finite hb)
    rw [hr, ← orderKey_lt_iff ha hb, ← orderKey_eq_iff ha hb]
    simp
  case unordered =>
    have hr : r = _ := compare_unordered cond h
    rw [hr, ← isSignaling_iff, ← isSignaling_iff]
    simp [or_assoc]
  case left =>
    have hinf := orderKey_infinity ha
    obtain ⟨hlow, hhigh⟩ := orderKey_finite hb
    cases neg with
    | true => exact compare_of_lt cond (isNan_of_infinity ha) (isNan_of_finite hb) (by rw [hinf]; exact hlow)
    | false => exact compare_of_gt cond (isNan_of_infinity ha) (isNan_of_finite hb) (by rw [hinf]; exact hhigh)
  case right =>
    have hinf := orderKey_infinity hb
    obtain ⟨hlow, hhigh⟩ := orderKey_finite ha
    cases neg with
    | true => exact compare_of_gt cond (isNan_of_finite ha) (isNan_of_infinity hb) (by rw [hinf]; exact hlow)
    | false => exact compare_of_lt cond (isNan_of_finite ha) (isNan_of_infinity hb) (by rw [hinf]; exact hhigh)
  case same =>
    exact compare_of_eq cond (isNan_of_infinity ha) (isNan_of_infinity hb) ((orderKey_infinity ha).trans (orderKey_infinity hb).symm)
  case opposite =>
    have hka := orderKey_infinity ha
    have hkb := orderKey_infinity hb
    cases neg with
    | true =>
      exact compare_of_lt cond (isNan_of_infinity ha) (isNan_of_infinity hb) (by rw [hka, hkb]; exact neg_lt_self hpos)
    | false =>
      exact compare_of_gt cond (isNan_of_infinity ha) (isNan_of_infinity hb) (by rw [hka, hkb]; exact neg_lt_self hpos)

end Machine
end Sys2Proof
end

section
/-! PROOF. The registers of a TLB exception (O20), and the interrupts (O23). Both rest on the entry of an exception; an interrupt is due
exactly where a request is ready and nothing holds it. -/

namespace Sys2Proof
namespace Machine

/-! ### The registers of a TLB exception (60_exceptions.md R623) -/

/-- EntryHi keeps its ASID, so no translation becomes stale. -/
theorem recordTlb_itlbStale (s : State) (va : Word) : (s.recordTlb va).itlbStale = s.itlbStale := if_pos rfl

theorem recordException_of_tlbException (s : State) (va : Word) (store : Bool) (e : Exc)
    (h : e ∈ [Exc.tlbModified va, .tlbRefill store va, .tlbInvalid store va]) : s.recordException e = s.recordTlb va := by
  simp only [List.mem_cons, List.not_mem_nil, or_false] at h
  rcases h with rfl | rfl | rfl <;> rfl

theorem takeException_itlbStale (s : State) (e : Exc) : (s.takeException e).itlbStale = (s.recordException e).itlbStale := rfl

/-- Settles O20: the entry of an exception keeps what the record of the failing address has loaded. -/
theorem tlbExceptionRegisters : Obligations.TlbExceptionRegisters := by
  unfold Obligations.TlbExceptionRegisters
  intro s va store e h
  refine ⟨takeException_loads s va store e h, ?_⟩
  rw [takeException_itlbStale, recordException_of_tlbException s va store e h, recordTlb_itlbStale]

/-! ### Requests that are ready (60_exceptions.md R641, R642) -/

theorem ne_zero_iff_getLsbD {w : Nat} (v : BitVec w) : v ≠ 0 ↔ ∃ i, i < w ∧ v.getLsbD i = true := by
  constructor
  · intro hne
    by_contra hall
    push Not at hall
    exact hne (BitVec.eq_of_getLsbD_eq fun i hi => by simpa using hall i hi)
  · rintro ⟨i, -, hi⟩ rfl
    simp at hi

/-- Only the two software requests wait, each for its own delay. -/
theorem readyIp_getLsbD (s : State) (n : Nat) (hn : n < 8) :
    s.readyIp.getLsbD n = true ↔ (n = 0 → s.softDelay0 = 0) ∧ (n = 1 → s.softDelay1 = 0) := by
  have hready : s.readyIp = 0x3F#6 ++ bit (s.softDelay1 == 0) ++ bit (s.softDelay0 == 0) := rfl
  have hothers : ∀ i : Nat, i < 6 → (0x3F#6).getLsbD i = true := by decide
  rw [hready, BitVec.getLsbD_append, BitVec.getLsbD_append]
  match n, hn with
  | 0, _ => simp [-BitVec.getLsbD_eq_getElem]
  | 1, _ => simp [-BitVec.getLsbD_eq_getElem]
  | n + 2, hn => simp [-BitVec.getLsbD_eq_getElem, hothers n (by omega)]

theorem interruptDue_iff (s : State) :
    s.interruptDue = true ↔ s.interruptsEnabled = true ∧ ∃ n, n < 8 ∧ ReadyRequest s n := by
  have hrequest : (s.enabledIp &&& s.readyIp != 0) = true ↔ ∃ n, n < 8 ∧ ReadyRequest s n := by
    rw [bne_iff_ne, ne_zero_iff_getLsbD]
    refine exists_congr fun n => and_congr_right fun hn => ?_
    rw [BitVec.getLsbD_and, State.enabledIp, BitVec.getLsbD_and, Bool.and_eq_true, Bool.and_eq_true, readyIp_getLsbD s n hn, and_assoc]
  rw [State.interruptDue, Bool.and_eq_true, hrequest]

/-! ### Interrupts taken and held -/

/-- What taking an interrupt at level 0 leaves: the registers of an exception entry, at the general vector (60_exceptions.md R610). -/
theorem takeInterrupt_results (s : State) (hexl : s.cp0.status.exl = false) :
    let t := s.takeException .interrupt
    t.cp0.cause.excCode = 0 ∧ t.cp0.status = { s.cp0.status with exl := true } ∧ t.cp0.epc = s.restartPc ∧
      t.cp0.cause.bd = s.inDelaySlot ∧ t.pc = s.vectorBase + 0x180 := by
  refine ⟨rfl, takeException_status s .interrupt, ?_, ?_, ?_⟩
  · rw [takeException_epc, hexl]
    rfl
  · rw [takeException_cause, hexl]
    rfl
  · rw [takeException_pc, vectorOffset_of_not_refill s .interrupt (.inl rfl)]

section
variable {s : State} (hcold : s.pins.coldReset = false) (hsoft : s.pins.softReset = false) (hnmi : s.pins.nmi = false)
  (hmode : s.mode ≠ .undefined) (hwatch : s.watchDue = false)
include hcold hsoft hnmi hmode hwatch

theorem interrupt_step (hdue : s.interruptDue = true) : step s = .next (s.tickEvent (s.takeException .interrupt)) := by
  simp [step, State.cycle, hcold, hsoft, hnmi, hmode, hwatch, hdue]

theorem instruction_step (hdue : s.interruptDue = false) : step s = s.instructionStep :=
  step_quiet s ⟨hcold, hsoft, hnmi, hmode, hwatch, hdue⟩

end

/-- Settles O23: an interrupt is due exactly where a request is ready and none of IE, EXL and ERL holds it. -/
theorem interruptsTakenOrHeld : Obligations.InterruptsTakenOrHeld := by
  unfold Obligations.InterruptsTakenOrHeld
  intro s hcold hsoft hnmi hmode hwatch
  refine ⟨fun hie hexl herl hready => ?taken, fun hheld => instruction_step hcold hsoft hnmi hmode hwatch ?held⟩
  case taken =>
    have hdue : s.interruptDue = true := (interruptDue_iff s).mpr ⟨by simp [State.interruptsEnabled, hie, hexl, herl], hready⟩
    obtain ⟨hcode, hstatus, hepc, hbd, hpc⟩ := takeInterrupt_results s hexl
    exact ⟨_, interrupt_step hcold hsoft hnmi hmode hwatch hdue, hcode, hstatus, hepc, hbd, hpc,
      fun r => gpr_eq_of_gprs s _ rfl r, fun a => byteAt_congr _ s rfl a⟩
  case held =>
    rw [Bool.eq_false_iff, ne_eq, interruptDue_iff]
    rintro ⟨henabled, n, hn, hready⟩
    obtain ⟨⟨hie, hexl⟩, herl⟩ : (s.cp0.status.ie = true ∧ s.cp0.status.exl = false) ∧ s.cp0.status.erl = false := by
      simpa [State.interruptsEnabled] using henabled
    rcases hheld with h | h | h | h
    · exact absurd hie (by simp [h])
    · exact absurd hexl (by simp [h])
    · exact absurd herl (by simp [h])
    · exact h n hn hready

end Machine
end Sys2Proof
end

section
/-! PROOF. The arithmetic of singles, doubles and pairs and the conversions end with their result or with the trap (O51, O52, O53). Each
is one of the shared forms, and a form ends as every FPU operation does: it traps, or records its Cause bits and writes one register. -/

namespace Sys2Proof
namespace Machine

/-! ### The end of an operation that writes a floating-point register (48_fpu_arith.md R553 steps 5 and 6) -/

theorem fpFinish_completes {s : State} {cause : BitVec 6} (done : State → State) (h : s.fcsr.traps cause = false) :
    s.fpFinish cause done = (done (s.recordFp cause)).advance := if_neg (Bool.eq_false_iff.mp h)

/-- FCR31 is the only thing recorded, so what changes only one view afterwards changes only that view and FCR31. -/
theorem OnlyFprW.of_recordFp {s t : State} {cause : BitVec 6} {fd : RegNum} (h : OnlyFprW (s.recordFp cause) t fd) : OnlyFprW s t fd :=
  ⟨h.gprs, h.views, h.fprs, h.bytes, h.rest⟩

theorem OnlyFprD.of_recordFp {s t : State} {cause : BitVec 6} {fd : RegNum} (h : OnlyFprD (s.recordFp cause) t fd) : OnlyFprD s t fd :=
  ⟨h.gprs, h.fprs, h.bytes, h.rest⟩

section
variable {s : State} (hl : s.leavesSegment = false)
include hl

theorem finishW_ends (fd : RegNum) (r : FpResult) : FpEndsW s (s.finishW fd r) fd r := by
  refine ⟨fun hquiet => ?_, fun htrap => fpFinish_traps _ htrap⟩
  obtain ⟨t, hnext, hadvanced, hvalue, hfcsr, honly⟩ := setFprW_completes (s.recordFp r.cause) fd (BitVec.ofNat 32 r.bits) hl
  exact ⟨t, (fpFinish_completes _ hquiet).trans hnext, hadvanced, hvalue, hfcsr, honly.of_recordFp⟩

theorem finishD_ends (fd : RegNum) (r : FpResult) : FpEndsD s (s.finishD fd r) fd r := by
  refine ⟨fun hquiet => ?_, fun htrap => fpFinish_traps _ htrap⟩
  obtain ⟨t, hnext, hadvanced, hvalue, hfcsr, honly⟩ := setFprD_completes (s.recordFp r.cause) fd (BitVec.ofNat 64 r.bits) hl
  exact ⟨t, (fpFinish_completes _ hquiet).trans hnext, hadvanced, hvalue, hfcsr, honly.of_recordFp⟩

/-- The two results are one 64-bit result with the Cause bits of both. -/
theorem finishPs_ends (fd : RegNum) (high low : FpResult) : FpEndsPs s (s.finishPs fd high low) fd high low := by
  have hpair : s.finishPs fd high low =
      s.finishD fd { cause := high.cause ||| low.cause, bits := (BitVec.ofNat 32 high.bits ++ BitVec.ofNat 32 low.bits).toNat } := by
    rw [State.finishD, BitVec.ofNat_toNat, BitVec.setWidth_eq, State.finishPs]
  rw [hpair]
  exact finishD_ends hl fd _

/-! ### The forms -/

variable (hu : s.cp1Usable = true)
include hu

theorem unaryS_ends (op : FpMode → Nat → FpResult) (fd fs : RegNum) :
    FpEndsW s (s.unaryS op fd fs) fd (op s.fpMode (s.fprW fs).toNat) := by
  rw [State.unaryS, whenCp1_usable s _ hu]
  exact finishW_ends hl fd _

theorem binaryS_ends (op : FpMode → Nat → Nat → FpResult) (fd fs ft : RegNum) :
    FpEndsW s (s.binaryS op fd fs ft) fd (op s.fpMode (s.fprW fs).toNat (s.fprW ft).toNat) := by
  rw [State.binaryS, whenCp1_usable s _ hu]
  exact finishW_ends hl fd _

theorem unaryD_ends (op : FpMode → Nat → FpResult) (fd fs : RegNum) (he : s.evenFprs [fd, fs] = true) :
    FpEndsD s (s.unaryD op fd fs) fd (op s.fpMode (s.fprD fs).toNat) := by
  rw [State.unaryD, whenPairs_usable s _ _ hu he]
  exact finishD_ends hl fd _

theorem binaryD_ends (op : FpMode → Nat → Nat → FpResult) (fd fs ft : RegNum) (he : s.evenFprs [fd, fs, ft] = true) :
    FpEndsD s (s.binaryD op fd fs ft) fd (op s.fpMode (s.fprD fs).toNat (s.fprD ft).toNat) := by
  rw [State.binaryD, whenPairs_usable s _ _ hu he]
  exact finishD_ends hl fd _

theorem unaryPs_ends (op : FpMode → Nat → FpResult) (fd fs : RegNum) (he : s.evenFprs [fd, fs] = true) :
    FpEndsPs s (s.unaryPs op fd fs) fd (op s.fpMode (upperHalf (s.fprD fs)).toNat) (op s.fpMode (lowerHalf (s.fprD fs)).toNat) := by
  rw [State.unaryPs, whenPairs_usable s _ _ hu he, upperSingle_eq, lowerSingle_eq]
  exact finishPs_ends hl fd _ _

theorem binaryPs_ends (op : FpMode → Nat → Nat → FpResult) (fd fs ft : RegNum) (he : s.evenFprs [fd, fs, ft] = true) :
    FpEndsPs s (s.binaryPs op fd fs ft) fd (op s.fpMode (upperHalf (s.fprD fs)).toNat (upperHalf (s.fprD ft)).toNat)
      (op s.fpMode (lowerHalf (s.fprD fs)).toNat (lowerHalf (s.fprD ft)).toNat) := by
  rw [State.binaryPs, whenPairs_usable s _ _ hu he]
  simp only [upperSingle_eq, lowerSingle_eq]
  exact finishPs_ends hl fd _ _

theorem maddS_ends (subtract negate : Bool) (fd fs ft : RegNum) :
    FpEndsW s (s.maddS subtract negate fd fs ft) fd
      (FpFormat.single.madd subtract negate s.fpMode (s.fprW fd).toNat (s.fprW fs).toNat (s.fprW ft).toNat) :=
  binaryS_ends hl hu _ fd fs ft

theorem maddD_ends (subtract negate : Bool) (fd fs ft : RegNum) (he : s.evenFprs [fd, fs, ft] = true) :
    FpEndsD s (s.maddD subtract negate fd fs ft) fd
      (FpFormat.double.madd subtract negate s.fpMode (s.fprD fd).toNat (s.fprD fs).toNat (s.fprD ft).toNat) :=
  binaryD_ends hl hu _ fd fs ft he

theorem maddPs_ends (subtract negate : Bool) (fd fs ft : RegNum) (he : s.evenFprs [fd, fs, ft] = true) :
    FpEndsPs s (s.maddPs subtract negate fd fs ft) fd
      (FpFormat.single.madd subtract negate s.fpMode (upperHalf (s.fprD fd)).toNat (upperHalf (s.fprD fs)).toNat
        (upperHalf (s.fprD ft)).toNat)
      (FpFormat.single.madd subtract negate s.fpMode (lowerHalf (s.fprD fd)).toNat (lowerHalf (s.fprD fs)).toNat
        (lowerHalf (s.fprD ft)).toNat) := by
  rw [State.maddPs, whenPairs_usable s _ _ hu he]
  simp only [upperSingle_eq, lowerSingle_eq]
  exact finishPs_ends hl fd _ _

theorem toW_ends (f : FpFormat) (rm : BitVec 2) (fd fs : RegNum) (he : s.evenFprs (f.pairs fs) = true) :
    FpEndsW s (s.toW f rm fd fs) fd (f.toInteger 32 Config.cvtInvalidW rm (s.fprOf f fs)) := by
  rw [State.toW, whenPairs_usable s _ _ hu he]
  exact finishW_ends hl fd _

theorem toL_ends (f : FpFormat) (rm : BitVec 2) (fd fs : RegNum) (he : s.evenFprs (fd :: f.pairs fs) = true) :
    FpEndsD s (s.toL f rm fd fs) fd (f.toInteger 64 Config.cvtInvalidL rm (s.fprOf f fs)) := by
  rw [State.toL, whenPairs_usable s _ _ hu he]
  exact finishD_ends hl fd _

/-- A conversion to a single behind the test of its 64-bit operands. -/
theorem pairedW_ends (names : List RegNum) (fd : RegNum) (r : FpResult) (he : s.evenFprs names = true) :
    FpEndsW s (s.whenPairs names (s.finishW fd r)) fd r := by
  rw [whenPairs_usable s _ _ hu he]
  exact finishW_ends hl fd r

/-- A conversion to a double behind the test of its 64-bit operands. -/
theorem pairedD_ends (names : List RegNum) (fd : RegNum) (r : FpResult) (he : s.evenFprs names = true) :
    FpEndsD s (s.whenPairs names (s.finishD fd r)) fd r := by
  rw [whenPairs_usable s _ _ hu he]
  exact finishD_ends hl fd r

end

/-- A single operand needs no register pair. -/
theorem evenFprs_nil (s : State) : s.evenFprs [] = true := Bool.or_true _

/-! ### FCR31 (10_state.md R96, R99) -/

/-- The fields of FCR31, at their places in the word that CFC1 reads. -/
theorem fcsr_word_fields (f : Fcsr) :
    f.word.extractLsb' 12 6 = f.cause ∧ f.word.extractLsb' 7 5 = f.enables ∧ f.word.extractLsb' 2 5 = f.flags ∧
      f.word.extractLsb' 0 2 = f.rm ∧ f.word.getLsbD 24 = f.fs ∧ f.word.getLsbD 23 = f.cc0 ∧ f.word.extractLsb' 25 7 = f.cc := by
  unfold Fcsr.word
  simp (disch := decide) only [Laws.extractLsb'_append_high, Laws.extractLsb'_append_low,
    getLsbD_append_high, getLsbD_append_low, Nat.reduceSub, BitVec.extractLsb'_eq_self, getLsbD_bit_zero, and_self]

/-- The Enable bits are bits 11 to 7 of FCR31. -/
theorem fcsr_word_enables (f : Fcsr) (i : Nat) (h : i < 5) : f.word.getLsbD (7 + i) = f.enables.getLsbD i := by
  obtain ⟨-, henables, -⟩ := fcsr_word_fields f
  rw [← henables, BitVec.getLsbD_extractLsb']
  simp [h]

theorem fpControl : Claim.FpControl := by
  unfold Claim.FpControl
  intro s cause w
  obtain ⟨hcause, henables, hflags, hrm, hfs, hcc0, hcc⟩ := fcsr_word_fields s.fcsr
  refine ⟨hrm.symm, ?flush, ?traps, hcause, henables, hflags, hrm, hfs, hcc0, hcc⟩
  case flush =>
    have hu : w.getLsbD 8 = s.fcsr.enables.getLsbD 1 := fcsr_word_enables s.fcsr 1 (by decide)
    have hi : w.getLsbD 7 = s.fcsr.enables.getLsbD 0 := fcsr_word_enables s.fcsr 0 (by decide)
    have hw : w.getLsbD 24 = s.fcsr.fs := hfs
    rw [hu, hi, hw]
    simp [State.fpMode, and_assoc]
  case traps =>
    rw [fcsr_traps_iff, ne_zero_iff_getLsbD]
    refine or_congr_right (exists_congr fun i => and_congr_right fun hi => ?_)
    rw [BitVec.getLsbD_and, BitVec.getLsbD_extractLsb', Bool.and_eq_true, fcsr_word_enables s.fcsr i hi]
    simp [hi]

/-! ### Arithmetic -/

theorem fpSingleOperations : Claim.FpSingleOperations := by
  unfold Claim.FpSingleOperations Claim.FpSingleArithmetic Claim.FpSingleMultiplyAdd
  refine ⟨fun s fd fs ft hl hu => ?arithmetic, fun s fd fs ft hl hu => ?multiplyAdd⟩
  case arithmetic =>
    exact ⟨binaryS_ends hl hu _ fd fs ft, binaryS_ends hl hu _ fd fs ft, binaryS_ends hl hu _ fd fs ft, binaryS_ends hl hu _ fd fs ft,
      unaryS_ends hl hu _ fd fs, unaryS_ends hl hu _ fd fs, unaryS_ends hl hu _ fd fs⟩
  case multiplyAdd =>
    exact ⟨maddS_ends hl hu _ _ fd fs ft, maddS_ends hl hu _ _ fd fs ft, maddS_ends hl hu _ _ fd fs ft, maddS_ends hl hu _ _ fd fs ft⟩

theorem fpDoubleOperations : Claim.FpDoubleOperations := by
  unfold Claim.FpDoubleOperations Claim.FpDoubleArithmetic Claim.FpDoubleMultiplyAdd
  refine ⟨fun s fd fs ft hl hu => ?arithmetic, fun s fd fs ft hl hu he => ?multiplyAdd⟩
  case arithmetic =>
    exact ⟨binaryD_ends hl hu _ fd fs ft, binaryD_ends hl hu _ fd fs ft, binaryD_ends hl hu _ fd fs ft, binaryD_ends hl hu _ fd fs ft,
      unaryD_ends hl hu _ fd fs, unaryD_ends hl hu _ fd fs, unaryD_ends hl hu _ fd fs⟩
  case multiplyAdd =>
    exact ⟨maddD_ends hl hu _ _ fd fs ft he, maddD_ends hl hu _ _ fd fs ft he, maddD_ends hl hu _ _ fd fs ft he,
      maddD_ends hl hu _ _ fd fs ft he⟩

/-- Settles O51: each operation is a form of its format, which ends as every FPU operation does. -/
theorem fpOperations : Obligations.FpOperations := ⟨fpControl, fpSingleOperations, fpDoubleOperations⟩

/-- Settles O52: each operation is a form of pairs, whose two results are one. -/
theorem fpPairedArithmetic : Obligations.FpPairedArithmetic := by
  unfold Obligations.FpPairedArithmetic
  intro s fd fs ft hl hu
  exact ⟨binaryPs_ends hl hu _ fd fs ft, binaryPs_ends hl hu _ fd fs ft, binaryPs_ends hl hu _ fd fs ft, unaryPs_ends hl hu _ fd fs,
    unaryPs_ends hl hu _ fd fs, maddPs_ends hl hu _ _ fd fs ft, maddPs_ends hl hu _ _ fd fs ft, maddPs_ends hl hu _ _ fd fs ft,
    maddPs_ends hl hu _ _ fd fs ft⟩

/-! ### Conversions -/

theorem fpToFixedResults : Claim.FpToFixedResults := by
  unfold Claim.FpToFixedResults
  intro s fd fs hl hu
  have hnone := evenFprs_nil s
  exact ⟨toW_ends hl hu .single 0 fd fs hnone, toW_ends hl hu .double 0 fd fs, toW_ends hl hu .single 1 fd fs hnone,
    toW_ends hl hu .double 1 fd fs, toW_ends hl hu .single 2 fd fs hnone, toW_ends hl hu .double 2 fd fs,
    toW_ends hl hu .single 3 fd fs hnone, toW_ends hl hu .double 3 fd fs, toW_ends hl hu .single _ fd fs hnone,
    toW_ends hl hu .double _ fd fs, toL_ends hl hu .single 0 fd fs, toL_ends hl hu .double 0 fd fs, toL_ends hl hu .single 1 fd fs,
    toL_ends hl hu .double 1 fd fs, toL_ends hl hu .single 2 fd fs, toL_ends hl hu .double 2 fd fs, toL_ends hl hu .single 3 fd fs,
    toL_ends hl hu .double 3 fd fs, toL_ends hl hu .single _ fd fs, toL_ends hl hu .double _ fd fs⟩

theorem fpConvertResults : Claim.FpConvertResults := by
  unfold Claim.FpConvertResults
  intro s fd fs hl hu
  have hcvtSW : exec (.cvtSW fd fs) s = s.finishW fd (FpFormat.single.ofInteger s.fpMode (s.fprW fs).toInt) := whenCp1_usable s _ hu
  refine ⟨pairedW_ends hl hu [fs] fd _, ?_, pairedW_ends hl hu [fs] fd _, pairedD_ends hl hu [fd] fd _, pairedD_ends hl hu [fd] fd _,
    pairedD_ends hl hu [fd, fs] fd _⟩
  rw [hcvtSW]
  exact finishW_ends hl fd _

/-- Settles O53: each conversion is a form by its format and rounding, or the finish of its result behind its operand tests. -/
theorem fpConversions : Obligations.FpConversions := ⟨fpToFixedResults, fpConvertResults⟩

end Machine
end Sys2Proof
end

section
/-! SUPPORT. The operands that arithmetic computes with, by their fields, and what an operation computes on them once its operand check
has passed (48_fpu_arith.md R553 step 3). -/

namespace Sys2Proof
namespace Machine

/-! ### Numbers and their fields -/

/-- A significand and an exponent of a normal number: the full precision, in the range of the format. -/
structure FpFormat.Normal (f : FpFormat) (m : Nat) (e : Int) : Prop where
  low : 2 ^ f.fractionBits ≤ m
  high : m < 2 ^ f.precision
  above : f.emin ≤ e + f.fractionBits
  below : e + f.fractionBits ≤ f.emax

theorem exponentMax_pos (f : FpFormat) : 0 < f.exponentMax := by cases f <;> decide

theorem exponent_lt (f : FpFormat) (n : Nat) : f.exponent n < 2 ^ f.exponentBits := Nat.mod_lt _ (Nat.two_pow_pos _)

theorem fraction_lt (f : FpFormat) (n : Nat) : f.fraction n < 2 ^ f.fractionBits := Nat.mod_lt _ (Nat.two_pow_pos _)

theorem isDenormal_iff (f : FpFormat) (n : Nat) : f.isDenormal n = true ↔ f.exponent n = 0 ∧ f.fraction n ≠ 0 := by
  simp [FpFormat.isDenormal]

theorem value_of_exponent_zero {f : FpFormat} {n : Nat} (h : f.exponent n = 0) :
    f.value n = .finite (f.negative n) (f.fraction n) (f.emin - f.fractionBits) := by
  have hmax : f.exponent n ≠ f.exponentMax := h ▸ (exponentMax_pos f).ne
  simp only [FpFormat.value, if_neg hmax, if_pos h]

theorem value_of_normal {f : FpFormat} {n : Nat} (hmax : f.exponent n ≠ f.exponentMax) (hzero : f.exponent n ≠ 0) :
    f.value n = .finite (f.negative n) (2 ^ f.fractionBits + f.fraction n) (f.exponent n - f.emax - f.fractionBits) := by
  simp only [FpFormat.value, if_neg hmax, if_neg hzero]

theorem value_of_infinityFields {f : FpFormat} {n : Nat} (hmax : f.exponent n = f.exponentMax) (hzero : f.fraction n = 0) :
    f.value n = .infinity (f.negative n) := by
  simp only [FpFormat.value, if_pos hmax, if_pos hzero]

/-- A number that is not denormalised is a zero or a normal number. -/
theorem plain_value {f : FpFormat} {n : Nat} (h : f.plainNumber n = true) :
    ∃ m e, f.value n = .finite (f.negative n) m e ∧ (m = 0 ∨ f.Normal m e) := by
  obtain ⟨hfinite, hplain⟩ : (f.value n).isFinite = true ∧ ¬f.isDenormal n = true := by
    simpa [FpFormat.plainNumber] using h
  have hmax := (value_finite_iff f n).mp hfinite
  rw [isDenormal_iff] at hplain
  by_cases hzero : f.exponent n = 0
  · exact ⟨_, _, value_of_exponent_zero hzero, .inl (not_not.mp fun hfraction => hplain ⟨hzero, hfraction⟩)⟩
  · refine ⟨_, _, value_of_normal hmax hzero, .inr ⟨Nat.le_add_right _ _, ?_, ?_, ?_⟩⟩
    · have := fraction_lt f n
      rw [← fractionBits_succ f, pow_succ]
      omega
    · rw [FpFormat.emin]
      omega
    · have hrange : (f.exponentMax : Int) = 2 * f.emax + 1 := by cases f <;> rfl
      have := exponent_le_max f n
      omega

theorem plainNumber_of_value {f : FpFormat} {n m : Nat} {neg : Bool} {e : Int} (h : f.value n = .finite neg m e)
    (hm : m = 0 ∨ 2 ^ f.fractionBits ≤ m) : f.plainNumber n = true := by
  have hplain : ¬f.isDenormal n = true := by
    rw [isDenormal_iff]
    rintro ⟨hzero, hfraction⟩
    rw [value_of_exponent_zero hzero] at h
    obtain ⟨-, rfl, -⟩ := FpValue.finite.inj h
    have := fraction_lt f n
    omega
  simp [FpFormat.plainNumber, h, FpValue.isFinite, hplain]

theorem negative_of_finite {f : FpFormat} {n m : Nat} {neg : Bool} {e : Int} (h : f.value n = .finite neg m e) :
    f.negative n = neg := by
  have hmax := (value_finite_iff f n).mp (by rw [h]; rfl)
  by_cases hzero : f.exponent n = 0
  · rw [value_of_exponent_zero hzero] at h
    exact (FpValue.finite.inj h).1
  · rw [value_of_normal hmax hzero] at h
    exact (FpValue.finite.inj h).1

theorem isDenormal_of_infinity {f : FpFormat} {n : Nat} {neg : Bool} (h : f.value n = .infinity neg) : f.isDenormal n = false := by
  obtain ⟨-, hexponent, -⟩ := value_infinity h
  rw [Bool.eq_false_iff, ne_eq, isDenormal_iff, hexponent]
  exact fun hzero => (exponentMax_pos f).ne' hzero.1

theorem isDenormal_of_nan {f : FpFormat} {n : Nat} {q : Bool} (h : f.value n = .nan q) : f.isDenormal n = false := by
  rw [Bool.eq_false_iff, ne_eq, isDenormal_iff]
  rintro ⟨hzero, -⟩
  rw [value_of_exponent_zero hzero] at h
  cases h

theorem isDenormal_of_plain {f : FpFormat} {n : Nat} (h : f.plainNumber n = true) : f.isDenormal n = false := by
  simpa using (Bool.and_eq_true_iff.mp h).2

/-- An operand that is computed with is a number or an infinity. -/
theorem computed_value {f : FpFormat} {a : Nat} (h : Claim.Computed f a) :
    (∃ m e, f.value a = .finite (f.negative a) m e) ∨ ∃ neg, f.value a = .infinity neg := by
  rcases h with hplain | hinfinity
  · obtain ⟨m, e, hvalue, -⟩ := plain_value hplain
    exact .inl ⟨m, e, hvalue⟩
  · exact .inr hinfinity

/-! ### Bit patterns that arithmetic makes -/

theorem value_infinity_pack (f : FpFormat) (neg : Bool) : f.value (f.infinity neg) = .infinity neg := by
  obtain ⟨hneg, hexponent, hfraction⟩ :=
    pack_fields f neg f.exponentMax 0 (Nat.sub_lt (Nat.two_pow_pos _) Nat.one_pos) (Nat.two_pow_pos _)
  rw [FpFormat.infinity, value_of_infinityFields hexponent hfraction, hneg]

theorem value_zero_pack (f : FpFormat) (neg : Bool) : f.value (f.zero neg) = .finite neg 0 (f.emin - f.fractionBits) := by
  obtain ⟨hneg, hexponent, hfraction⟩ := pack_fields f neg 0 0 (Nat.two_pow_pos _) (Nat.two_pow_pos _)
  rw [FpFormat.zero, value_of_exponent_zero hexponent, hneg, hfraction]

theorem computed_infinity (f : FpFormat) (neg : Bool) : Claim.Computed f (f.infinity neg) := .inr ⟨neg, value_infinity_pack f neg⟩

theorem computed_zero (f : FpFormat) (neg : Bool) : Claim.Computed f (f.zero neg) :=
  .inl (plainNumber_of_value (value_zero_pack f neg) (.inl rfl))

theorem computed_normal (f : FpFormat) (neg : Bool) (ex fr : Nat) (h0 : ex ≠ 0) (hmax : ex < f.exponentMax)
    (hfr : fr < 2 ^ f.fractionBits) : Claim.Computed f (f.pack neg ex fr) :=
  .inl (plainNumber_of_value (value_pack f neg ex fr h0 hmax hfr) (.inr (Nat.le_add_right _ _)))

theorem computed_largest (f : FpFormat) (neg : Bool) : Claim.Computed f (f.largest neg) :=
  computed_normal f neg _ _ (by cases f <;> decide) (by cases f <;> decide) (by cases f <;> decide)

theorem computed_smallestNormal (f : FpFormat) (neg : Bool) : Claim.Computed f (f.smallestNormal neg) :=
  computed_normal f neg _ _ (by decide) (by cases f <;> decide) (Nat.two_pow_pos _)

/-! ### The sign of a bit pattern -/

theorem withSign_fields (f : FpFormat) (neg : Bool) (n : Nat) :
    f.negative (f.withSign neg n) = neg ∧ f.exponent (f.withSign neg n) = f.exponent n ∧
      f.fraction (f.withSign neg n) = f.fraction n :=
  pack_fields f neg _ _ (exponent_lt f n) (fraction_lt f n)

/-- The value with a sign. -/
def FpValue.withSign (v : FpValue) (neg : Bool) : FpValue :=
  match v with
  | .nan q => .nan q
  | .infinity _ => .infinity neg
  | .finite _ m e => .finite neg m e

/-- A bit pattern that differs in its sign differs in the sign of its value. -/
theorem value_of_sameFields {f : FpFormat} {n k : Nat} (hexponent : f.exponent n = f.exponent k) (hfraction : f.fraction n = f.fraction k) :
    f.value n = (f.value k).withSign (f.negative n) := by
  simp only [FpFormat.value, hexponent, hfraction]
  split_ifs <;> rfl

theorem value_withSign (f : FpFormat) (neg : Bool) (n : Nat) : f.value (f.withSign neg n) = (f.value n).withSign neg := by
  obtain ⟨hneg, hexponent, hfraction⟩ := withSign_fields f neg n
  rw [value_of_sameFields hexponent hfraction, hneg]

/-- An infinity with another sign. -/
theorem withSign_of_infinity {f : FpFormat} {a : Nat} {n : Bool} (h : f.value a = .infinity n) (neg : Bool) :
    f.withSign neg a = f.infinity neg := by
  obtain ⟨-, hexponent, hfraction⟩ := value_infinity h
  rw [FpFormat.withSign, hexponent, hfraction, FpFormat.infinity]

/-! ### The operand check -/

theorem operandCause_computed {f : FpFormat} {n : Nat} (h : Claim.Computed f n) : f.operandCause n = 0 := by
  rcases h with hplain | ⟨neg, hinfinity⟩
  · obtain ⟨m, e, hvalue, -⟩ := plain_value hplain
    simp [FpFormat.operandCause, hvalue, isDenormal_of_plain hplain]
  · simp [FpFormat.operandCause, hinfinity, isDenormal_of_infinity hinfinity]

theorem operandCause_signaling {f : FpFormat} {n : Nat} (h : f.value n = .nan true) : f.operandCause n = causeV := by
  rw [FpFormat.operandCause, h]

theorem operandCause_quiet {f : FpFormat} {n : Nat} (h : f.value n = .nan false) :
    f.operandCause n = if Config.qnanUnimplemented then causeE else causeV := by
  rw [FpFormat.operandCause, h]

theorem operandCause_denormal {f : FpFormat} {n : Nat} (h : f.isDenormal n = true) : f.operandCause n = causeE := by
  rw [FpFormat.operandCause, value_of_exponent_zero ((isDenormal_iff f n).mp h).1]
  exact if_pos h

theorem checked_computes {causes : List (BitVec 6)} (bits : Nat) (act : FpResult) (h : ∀ c ∈ causes, c = 0) :
    checked causes bits act = act := by
  have hall : causes.all (· == 0) = true := by simpa using h
  rw [checked, hall]
  rfl

theorem checked_stops {causes : List (BitVec 6)} {c : BitVec 6} (bits : Nat) (act : FpResult) (hc : c ∈ causes) (hne : c ≠ 0) :
    checked causes bits act = { cause := causes.foldl (· ||| ·) 0, bits := bits } := by
  have hall : causes.all (· == 0) = false := by
    rw [List.all_eq_false]
    exact ⟨c, hc, by simpa using hne⟩
  rw [checked, hall]
  rfl

/-- The addend of the multiply-adds: that of MSUB and NMSUB is the opposite. -/
def FpValue.addend (v : FpValue) (subtract : Bool) : FpValue := if subtract then v.opposite else v

theorem addend_finite (neg subtract : Bool) (m : Nat) (e : Int) :
    (FpValue.finite neg m e).addend subtract = .finite (neg != subtract) m e := by
  cases subtract <;> simp [FpValue.addend, FpValue.opposite]

theorem addend_infinity (neg subtract : Bool) : (FpValue.infinity neg).addend subtract = .infinity (neg != subtract) := by
  cases subtract <;> simp [FpValue.addend, FpValue.opposite]

section
variable {f : FpFormat} (md : FpMode) {a b d : Nat} (ha : Claim.Computed f a) (hb : Claim.Computed f b) (hd : Claim.Computed f d)

include ha in
theorem sqrt_computed : f.sqrt md a = f.sqrtValue md (f.value a) :=
  checked_computes _ _ (by simp [operandCause_computed ha])

include ha in
theorem abs_computed : f.abs md a = .exact (f.withSign false a) :=
  checked_computes _ _ (by simp [operandCause_computed ha])

include ha in
theorem neg_computed : f.neg md a = .exact (f.withSign (!f.negative a) a) :=
  checked_computes _ _ (by simp [operandCause_computed ha])

include ha in
theorem convert_computed (g : FpFormat) : f.convert g md a = g.roundValue md (f.value a) :=
  checked_computes _ _ (by simp [operandCause_computed ha])

include ha hb

theorem add_computed : f.add md a b = f.addValues md (f.value a) (f.value b) :=
  checked_computes _ _ (by simp [operandCause_computed ha, operandCause_computed hb])

theorem sub_computed : f.sub md a b = f.addValues md (f.value a) (f.value b).opposite :=
  checked_computes _ _ (by simp [operandCause_computed ha, operandCause_computed hb])

theorem mul_computed : f.mul md a b = f.multiplyValues md (f.value a) (f.value b) :=
  checked_computes _ _ (by simp [operandCause_computed ha, operandCause_computed hb])

theorem div_computed : f.div md a b = f.divideValues md (f.value a) (f.value b) :=
  checked_computes _ _ (by simp [operandCause_computed ha, operandCause_computed hb])

include hd in
theorem madd_computed (subtract : Bool) :
    f.madd subtract false md d a b =
      f.multiplyAdd md (f.value a) (f.value b) ((f.value d).addend subtract) :=
  checked_computes _ _ (by simp [operandCause_computed ha, operandCause_computed hb, operandCause_computed hd])

include hd in
/-- NMADD and NMSUB are MADD and MSUB, negated. -/
theorem madd_negated (subtract : Bool) : f.madd subtract true md d a b = f.negated (f.madd subtract false md d a b) := by
  rw [madd_computed md ha hb hd]
  exact checked_computes _ _ (by simp [operandCause_computed ha, operandCause_computed hb, operandCause_computed hd])

end

/-! ### One rounding or two -/

theorem multiplyAdd_fused (f : FpFormat) (md : FpMode) (a b addend : FpValue) (h : Config.maddFused = true) :
    f.multiplyAdd md a b addend = f.fusedValues md a b addend := by
  simp [FpFormat.multiplyAdd, h]

theorem multiplyAdd_unfused (f : FpFormat) (md : FpMode) (a b addend : FpValue) (h : Config.maddFused = false) :
    f.multiplyAdd md a b addend = f.unfusedValues md a b addend := by
  simp +contextual [FpFormat.multiplyAdd, h]

/-- Where both ways agree the parameter does not matter. -/
theorem multiplyAdd_same (f : FpFormat) (md : FpMode) (a b addend : FpValue) (r : FpResult) (honce : f.fusedValues md a b addend = r)
    (htwice : f.unfusedValues md a b addend = r) : f.multiplyAdd md a b addend = r := by
  simp [FpFormat.multiplyAdd, honce, htwice]

end Machine
end Sys2Proof
end

section
/-! PROOF. Arithmetic on numbers (O55). Each operation computes its exact result as an integer times a power of two, or as the integer
below it, and rounds that once; a rounding without a Cause bit is the exact number, so exactness follows from the rounding. -/

namespace Sys2Proof
namespace Machine

/-! ### Exact numbers -/

theorem rational_cast (neg : Bool) (m : Nat) (e : Int) :
    ((FpValue.finite neg m e).rational : ℝ) = if neg then -((m : ℝ) * 2 ^ e) else m * 2 ^ e := by
  rw [FpValue.rational]
  cases neg <;> push_cast <;> simp

theorem rational_opposite (v : FpValue) : v.opposite.rational = -v.rational := by
  cases v with
  | nan => exact neg_zero.symm
  | infinity => exact neg_zero.symm
  | finite neg m e => cases neg <;> simp [FpValue.opposite, FpValue.rational]

theorem magnitude_pos {m : Nat} (e : Int) (h : m ≠ 0) : (0 : ℝ) < m * 2 ^ e :=
  mul_pos (by exact_mod_cast Nat.pos_of_ne_zero h) (zpow_pos two_pos e)

/-- The sign and the magnitude of a product. -/
theorem rational_mul (n1 n2 : Bool) (m1 m2 : Nat) (e1 e2 : Int) :
    (FpValue.finite n1 m1 e1).rational * (FpValue.finite n2 m2 e2).rational =
      (FpValue.finite (n1 != n2) (m1 * m2) (e1 + e2)).rational := by
  simp only [FpValue.rational]
  rw [zpow_add₀ two_ne_zero]
  push_cast
  cases n1 <;> cases n2 <;> simp <;> ring

/-- The sign and the magnitude of a quotient. -/
theorem rational_div_cast (n1 n2 : Bool) (m1 m2 : Nat) (e1 e2 : Int) :
    ((FpValue.finite n1 m1 e1).rational / (FpValue.finite n2 m2 e2).rational : ℝ) =
      if (n1 != n2) then -((m1 : ℝ) / m2 * 2 ^ (e1 - e2)) else m1 / m2 * 2 ^ (e1 - e2) := by
  rw [rational_cast, rational_cast, zpow_sub₀ two_ne_zero]
  cases n1 <;> cases n2 <;> simp [neg_div, div_neg, mul_div_mul_comm]

/-! ### Roundings -/

section
variable {f : FpFormat} {md : FpMode} {r : FpResult}

theorem roundsNumber_zero (f : FpFormat) (md : FpMode) (zero : Bool) : Claim.RoundsNumber f md 0 zero (.exact (f.zero zero)) :=
  ⟨fun _ => rfl, fun h => absurd h (lt_irrefl 0), fun h => absurd h (lt_irrefl 0)⟩

/-- A rounding of a magnitude is one of the number with its sign. -/
theorem roundsNumber_of_isRounding {x : ℝ} (neg zero : Bool) (hx : 0 < x) (h : Claim.IsRounding f md neg x r) :
    Claim.RoundsNumber f md (if neg then -x else x) zero r := by
  cases neg with
  | false => exact ⟨fun h0 => absurd h0 hx.ne', fun _ => h, fun hneg => absurd hneg hx.not_gt⟩
  | true =>
    refine ⟨fun h0 => absurd (neg_eq_zero.mp h0) hx.ne', fun hpos => absurd (neg_pos.mp hpos) hx.not_gt, fun _ => ?_⟩
    rw [if_pos rfl, neg_neg]
    exact h

theorem isRounding_of_roundsNumber {v : ℝ} {zero neg : Bool} (h : Claim.RoundsNumber f md v zero r) (hne : v ≠ 0)
    (hneg : neg = true ↔ v < 0) : Claim.IsRounding f md neg |v| r := by
  obtain ⟨-, hpositive, hnegative⟩ := h
  rcases hne.lt_or_gt with hlt | hgt
  · rw [hneg.mpr hlt, abs_of_neg hlt]
    exact hnegative hlt
  · rw [Bool.eq_false_iff.mpr (mt hneg.mp hgt.not_gt), abs_of_pos hgt]
    exact hpositive hgt

/-- The significand after a carry stands for the same number. -/
theorem normalized_mul (f : FpFormat) (q : Nat) (u : Int) :
    (f.normalized q : ℝ) * 2 ^ f.normalizedPlace q u = q * 2 ^ u := by
  unfold FpFormat.normalized FpFormat.normalizedPlace
  split
  · next hq =>
    have hcarry : (2 : ℝ) ^ f.precision = 2 ^ (f.precision - 1) * 2 := by rw [← pow_succ]; exact congrArg _ (fractionBits_succ f).symm
    rw [hq, zpow_add_one₀ two_ne_zero]
    push_cast
    rw [hcarry]
    ring
  · rfl

/-- A rounding without a Cause bit is the exact number. -/
theorem isRounding_exact {neg : Bool} {x : ℝ} (h : Claim.IsRounding f md neg x r) (hcause : r.cause = 0) :
    ((f.value r.bits).rational : ℝ) = if neg then -x else x := by
  obtain ⟨q, u, -, -, -, hover, hflushed, hunimplemented, hnumber⟩ := h
  have hmax : f.normalizedTop q u ≤ f.emax := by
    by_contra hlt
    exact absurd ((hover (not_le.mp hlt)).1.symm.trans hcause) (by decide)
  have hmin : f.emin ≤ f.normalizedTop q u := by
    by_contra hlt
    cases hflush : md.flush with
    | true => exact absurd ((hflushed (not_le.mp hlt) hflush).1.symm.trans hcause) (by decide)
    | false => exact absurd ((hunimplemented (not_le.mp hlt) hflush).symm.trans hcause) (by decide)
  obtain ⟨hvalue, hexact, -⟩ := hnumber hmin hmax
  have hvalue' : f.value r.bits = .finite neg (f.normalized q) (f.normalizedPlace q u) := hvalue
  rw [hvalue', rational_cast, normalized_mul, hexact.mp hcause]

theorem roundsNumber_exact {v : ℝ} {zero : Bool} (h : Claim.RoundsNumber f md v zero r) (hcause : r.cause = 0) :
    ((f.value r.bits).rational : ℝ) = v := by
  obtain ⟨hzero, hpositive, hnegative⟩ := h
  rcases lt_trichotomy v 0 with hlt | rfl | hgt
  · simpa using isRounding_exact (hnegative hlt) hcause
  · rw [hzero rfl, value_zero_pack]
    simp [FpValue.rational]
  · simpa using isRounding_exact (hpositive hgt) hcause

end

/-! ### What rounding answers -/

section
variable (f : FpFormat) (md : FpMode) (neg : Bool)

/-- Rounding sets neither Cause V nor Cause Z. -/
theorem round_valid (m : Nat) (e : Int) (sticky : Bool) : (f.round md neg m e sticky).cause &&& causeV = 0 := by
  have hcause : (f.round md neg m e sticky).cause ∈ [causeO ||| causeI, causeU ||| causeI, causeE, causeI, 0] := by
    rw [round_eq_placed, FpFormat.placed]
    split_ifs <;> simp
  have hvalid : ∀ c ∈ [causeO ||| causeI, causeU ||| causeI, causeE, causeI, 0], c &&& causeV = 0 := by decide
  exact hvalid _ hcause

/-- Arithmetic computes with what rounding answers. -/
theorem round_computed (m : Nat) (e : Int) (sticky : Bool) (hm : m ≠ 0) : Claim.Computed f (f.round md neg m e sticky).bits := by
  have hq := rounded_bounds f md.rm neg m sticky (Nat.pos_of_ne_zero hm)
  rw [round_eq_placed]
  generalize f.rounded md.rm neg m sticky = q at hq ⊢
  generalize f.lastPlace m e = u
  rcases lt_or_ge f.emax (f.normalizedTop q u) with hover | hmax
  · rw [placed_overflow f md neg q u _ hover]
    obtain ⟨hinfinity, hlargest⟩ := overflowed_eq f md.rm neg
    by_cases hout : md.rm = 0 ∨ Outward md.rm neg
    · rw [hinfinity hout]
      exact computed_infinity f neg
    · obtain ⟨hrm, hin⟩ := not_or.mp hout
      rw [hlargest hrm hin]
      exact computed_largest f neg
  rcases lt_or_ge (f.normalizedTop q u) f.emin with hunder | hmin
  · rw [placed_underflow f md neg q u _ hunder]
    obtain ⟨hsmallest, hzero⟩ := flushed_eq f md.rm neg
    split
    · by_cases hout : Outward md.rm neg
      · rw [hsmallest hout]
        exact computed_smallestNormal f neg
      · rw [hzero hout]
        exact computed_zero f neg
    · have hbits : f.zero false = 0 := by cases f <;> rfl
      exact hbits ▸ computed_zero f false
  · obtain ⟨hvalue, -⟩ := placed_value f md neg q u ((f.dropped m != 0) || sticky) hq hmin hmax
    exact .inl (plainNumber_of_value hvalue (.inr (normalized_bounds f q hq).1))

end

/-! ### Numbers given as integers -/

section
variable (f : FpFormat) (md : FpMode)

theorem round_isRounding (neg : Bool) {m : Nat} (e : Int) (hm : m ≠ 0) :
    Claim.IsRounding f md neg (m * 2 ^ e) (f.round md neg m e false) :=
  roundingIsCorrect f md neg m e false _ (Nat.pos_of_ne_zero hm) (fun _ => rfl) (fun h => absurd h (by decide))

/-- An integer times a power of two, rounded; `zero` is the sign that the operation gives an exact zero. -/
theorem roundsNumber_int (k e : Int) (zero : Bool) :
    Claim.RoundsNumber f md (k * 2 ^ e) zero
      (if k = 0 then .exact (f.zero zero) else f.round md (decide (k < 0)) k.natAbs e false) := by
  split
  · next h =>
    rw [h, Int.cast_zero, zero_mul]
    exact roundsNumber_zero f md zero
  · next h =>
    have hround := round_isRounding f md (decide (k < 0)) e (Int.natAbs_ne_zero.mpr h)
    have hsigned := roundsNumber_of_isRounding _ zero (magnitude_pos e (Int.natAbs_ne_zero.mpr h)) hround
    have hk : (k : ℝ) * 2 ^ e = if decide (k < 0) = true then -((k.natAbs : ℝ) * 2 ^ e) else k.natAbs * 2 ^ e := by
      rw [Nat.cast_natAbs, Int.cast_abs]
      split
      · next hneg =>
        have hlt : (k : ℝ) < 0 := by exact_mod_cast of_decide_eq_true hneg
        rw [abs_of_neg hlt, neg_mul, neg_neg]
      · next hpos =>
        have hge : (0 : ℝ) ≤ k := by exact_mod_cast not_lt.mp fun hlt => hpos (decide_eq_true hlt)
        rw [abs_of_nonneg hge]
    rw [hk]
    exact hsigned

theorem roundValue_rounds (neg : Bool) (m : Nat) (e : Int) :
    Claim.RoundsNumber f md (FpValue.finite neg m e).rational neg (f.roundValue md (.finite neg m e)) := by
  rw [rational_cast, FpFormat.roundValue]
  by_cases h : m = 0
  · simpa [h] using roundsNumber_zero f md neg
  · rw [if_neg h]
    exact roundsNumber_of_isRounding neg neg (magnitude_pos e h) (round_isRounding f md neg e h)

/-! ### Sums -/

/-- A number in units of `2 ^ e`, which is not above its exponent. -/
def signedUnits (neg : Bool) (m : Nat) (x e : Int) : Int :=
  if neg then -((m * 2 ^ (x - e).toNat : Nat) : Int) else (m * 2 ^ (x - e).toNat : Nat)

theorem signedUnits_mul (neg : Bool) (m : Nat) (x e : Int) (h : e ≤ x) :
    (signedUnits neg m x e : ℝ) * 2 ^ e = (FpValue.finite neg m x).rational := by
  have hpow : (2 : ℝ) ^ (x - e).toNat * 2 ^ e = 2 ^ x := by
    rw [← zpow_natCast, ← zpow_add₀ two_ne_zero, Int.toNat_of_nonneg (sub_nonneg.mpr h), sub_add_cancel]
  rw [rational_cast, signedUnits, ← hpow]
  cases neg <;> push_cast <;> simp [mul_assoc]

/-- The exact sum of two numbers in units of the smaller of their exponents. -/
def exactSum (n1 : Bool) (m1 : Nat) (e1 : Int) (n2 : Bool) (m2 : Nat) (e2 : Int) : Int :=
  signedUnits n1 m1 e1 (min e1 e2) + signedUnits n2 m2 e2 (min e1 e2)

section
variable (n1 : Bool) (m1 : Nat) (e1 : Int) (n2 : Bool) (m2 : Nat) (e2 : Int)

theorem exactSum_mul :
    (exactSum n1 m1 e1 n2 m2 e2 : ℝ) * 2 ^ min e1 e2 = (FpValue.finite n1 m1 e1).rational + (FpValue.finite n2 m2 e2).rational := by
  rw [exactSum, Int.cast_add, add_mul, signedUnits_mul n1 m1 e1 _ (min_le_left e1 e2), signedUnits_mul n2 m2 e2 _ (min_le_right e1 e2)]

theorem addFinite_eq :
    f.addFinite md n1 m1 e1 n2 m2 e2 =
      if exactSum n1 m1 e1 n2 m2 e2 = 0 then .exact (f.zero (if n1 = n2 then n1 else md.rm == 3))
      else f.round md (decide (exactSum n1 m1 e1 n2 m2 e2 < 0)) (exactSum n1 m1 e1 n2 m2 e2).natAbs (min e1 e2) false := by
  have hzero : (if n1 = n2 then n1 else md.rm == 3) = if n1 == n2 then n1 else md.rm == 3 := by cases n1 <;> cases n2 <;> rfl
  rw [hzero]
  rfl

theorem addFinite_rounds :
    Claim.RoundsNumber f md ((FpValue.finite n1 m1 e1).rational + (FpValue.finite n2 m2 e2).rational)
      (if n1 = n2 then n1 else md.rm == 3) (f.addFinite md n1 m1 e1 n2 m2 e2) := by
  rw [addFinite_eq, ← exactSum_mul]
  exact roundsNumber_int f md _ _ _

end

/-! ### Quotients and roots -/

/-- A magnitude cut to the integer below it, of more bits than the precision, with a sticky bit for the part below. -/
theorem round_cut_isRounding (neg : Bool) {m : Nat} {z : ℝ} (e : Int) (sticky : Bool) (hlong : 2 ^ f.precision ≤ m) (hlow : (m : ℝ) ≤ z)
    (hhigh : z < m + 1) (hsticky : sticky = false ↔ (m : ℝ) = z) :
    Claim.IsRounding f md neg (z * 2 ^ e) (f.round md neg m e sticky) := by
  have hpow : (0 : ℝ) < 2 ^ e := zpow_pos two_pos e
  refine roundingIsCorrect f md neg m e sticky _ ((Nat.two_pow_pos _).trans_le hlong) (fun hs => ?_) (fun hs => ⟨hlong, ?_, ?_⟩)
  · rw [hsticky.mp hs]
  · have hne : (m : ℝ) ≠ z := fun heq => by simp [hsticky.mpr heq] at hs
    exact mul_lt_mul_of_pos_right (lt_of_le_of_ne hlow hne) hpow
  · exact mul_lt_mul_of_pos_right hhigh hpow

/-- The quotient of two naturals is the integer part of the exact one, and the remainder tells whether it is all of it. -/
theorem div_cut (a b : Nat) (hb : b ≠ 0) :
    ((a / b : Nat) : ℝ) ≤ a / b ∧ (a : ℝ) / b < (a / b : Nat) + 1 ∧ ((a % b != 0) = false ↔ ((a / b : Nat) : ℝ) = a / b) := by
  have hpos : (0 : ℝ) < b := by exact_mod_cast Nat.pos_of_ne_zero hb
  have hsplit : (a : ℝ) = (a / b : Nat) * b + (a % b : Nat) := by exact_mod_cast (Nat.div_add_mod' a b).symm
  have hrem : ((a % b : Nat) : ℝ) < b := by exact_mod_cast Nat.mod_lt a (Nat.pos_of_ne_zero hb)
  refine ⟨Nat.cast_div_le, ?_, ?_⟩
  · rw [div_lt_iff₀ hpos]
    linarith
  · rw [eq_div_iff hpos.ne', bne_eq_false_iff_eq, ← Nat.cast_inj (R := ℝ), Nat.cast_zero]
    constructor <;> intro h <;> linarith

/-- The quotient has more bits than the precision. -/
theorem quotient_long {m1 m2 : Nat} {e1 e2 : Int} (h1 : f.Normal m1 e1) (h2 : f.Normal m2 e2) :
    2 ^ f.precision ≤ m1 * 2 ^ (f.precision + 3) / m2 := by
  rw [Nat.le_div_iff_mul_le ((Nat.two_pow_pos _).trans_le h2.low)]
  calc 2 ^ f.precision * m2 ≤ 2 ^ f.precision * 2 ^ f.precision := Nat.mul_le_mul_left _ h2.high.le
    _ ≤ 2 ^ f.fractionBits * 2 ^ (f.precision + 3) := by
      rw [← pow_add, ← pow_add]
      exact Nat.pow_le_pow_right two_pos (by have := fractionBits_succ f; omega)
    _ ≤ m1 * 2 ^ (f.precision + 3) := Nat.mul_le_mul_right _ h1.low

theorem divideValues_rounds (n1 n2 : Bool) {m1 m2 : Nat} (e1 e2 : Int) (h1 : m1 = 0 ∨ f.Normal m1 e1) (h2 : f.Normal m2 e2) :
    Claim.RoundsNumber f md ((FpValue.finite n1 m1 e1).rational / (FpValue.finite n2 m2 e2).rational) (n1 != n2)
      (f.divideValues md (.finite n1 m1 e1) (.finite n2 m2 e2)) := by
  have hm2 : m2 ≠ 0 := ((Nat.two_pow_pos _).trans_le h2.low).ne'
  rw [rational_div_cast]
  simp only [FpFormat.divideValues, if_neg hm2]
  rcases h1 with rfl | h1
  · simpa using roundsNumber_zero f md (n1 != n2)
  · have hm1 : m1 ≠ 0 := ((Nat.two_pow_pos _).trans_le h1.low).ne'
    have hquotient : (0 : ℝ) < m1 / m2 * 2 ^ (e1 - e2) := by
      have hp1 : (0 : ℝ) < m1 := by exact_mod_cast Nat.pos_of_ne_zero hm1
      have hp2 : (0 : ℝ) < m2 := by exact_mod_cast Nat.pos_of_ne_zero hm2
      positivity
    obtain ⟨hlow, hhigh, hsticky⟩ := div_cut (m1 * 2 ^ (f.precision + 3)) m2 hm2
    have hround := round_cut_isRounding f md (n1 != n2) (e1 - e2 - (f.precision + 3 : Nat)) _ (quotient_long f h1 h2) hlow hhigh hsticky
    have hscale : ((m1 * 2 ^ (f.precision + 3) : Nat) : ℝ) / m2 * 2 ^ (e1 - e2 - (f.precision + 3 : Nat)) =
        m1 / m2 * 2 ^ (e1 - e2) := by
      rw [zpow_sub₀ two_ne_zero (e1 - e2), zpow_natCast]
      push_cast
      field_simp
    rw [hscale] at hround
    rw [if_neg hm1]
    exact roundsNumber_of_isRounding _ _ hquotient hround

end

/-- What the search from bit `b` downwards keeps: the root lies in the `2 ^ b` numbers from `r` on. -/
theorem isqrtFrom_bounds (n b r : Nat) (hlow : r * r ≤ n) (hhigh : n < (r + 2 ^ b) * (r + 2 ^ b)) :
    isqrtFrom n b r * isqrtFrom n b r ≤ n ∧ n < (isqrtFrom n b r + 1) * (isqrtFrom n b r + 1) := by
  induction b generalizing r with
  | zero => exact ⟨hlow, hhigh⟩
  | succ b ih =>
    rw [isqrtFrom]
    split
    · next hle => exact ih _ hle (by rwa [add_assoc, ← two_mul, ← pow_succ'])
    · next hlt => exact ih _ hlow (not_le.mp hlt)

theorem isqrt_eq_sqrt {n : Nat} (h : n < 2 ^ 256) : isqrt n = Nat.sqrt n := by
  have hroom : n < (0 + 2 ^ 128) * (0 + 2 ^ 128) := by norm_num at h ⊢; exact h
  obtain ⟨hlow, hhigh⟩ := isqrtFrom_bounds n 128 0 (Nat.zero_le _) hroom
  exact Nat.eq_sqrt.mpr ⟨hlow, hhigh⟩

/-- The integer root is the integer part of the exact one, and its square tells whether it is all of it. -/
theorem sqrt_cut (n : Nat) :
    (Nat.sqrt n : ℝ) ≤ Real.sqrt n ∧ Real.sqrt n < Nat.sqrt n + 1 ∧
      ((Nat.sqrt n * Nat.sqrt n != n) = false ↔ (Nat.sqrt n : ℝ) = Real.sqrt n) := by
  refine ⟨Real.nat_sqrt_le_real_sqrt, Real.real_sqrt_lt_nat_sqrt_succ, ?_⟩
  rw [bne_eq_false_iff_eq, eq_comm (a := (Nat.sqrt n : ℝ)), eq_comm (b := n),
    Real.sqrt_eq_iff_mul_self_eq (Nat.cast_nonneg n) (Nat.cast_nonneg _)]
  exact_mod_cast Iff.rfl

section
variable (f : FpFormat) (md : FpMode)

/-- The root of a scaled magnitude with an even exponent, rounded. -/
theorem round_sqrt_isRounding {n : Nat} (j : Int) (hlow : 2 ^ (2 * f.precision) ≤ n) (hhigh : n < 2 ^ 256) :
    Claim.IsRounding f md false (Real.sqrt (n * 2 ^ (2 * j))) (f.round md false (isqrt n) j (isqrt n * isqrt n != n)) := by
  have hlong : 2 ^ f.precision ≤ Nat.sqrt n := by
    rw [Nat.le_sqrt, ← pow_add, ← two_mul]
    exact hlow
  obtain ⟨hle, hlt, hsticky⟩ := sqrt_cut n
  have hroot : Real.sqrt (n * 2 ^ (2 * j)) = Real.sqrt n * 2 ^ j := by
    rw [Real.sqrt_mul (Nat.cast_nonneg n), mul_comm 2 j, zpow_mul, zpow_ofNat, Real.sqrt_sq (zpow_pos two_pos j).le]
  rw [isqrt_eq_sqrt hhigh, hroot]
  exact round_cut_isRounding f md false j _ hlong hle hlt hsticky

/-- The magnitude with an even exponent that the root is taken of. -/
def evenSignificand (m : Nat) (e : Int) : Nat := if e % 2 != 0 then 2 * m else m

/-- Half of that exponent. -/
def halfExponent (e : Int) : Int := (if e % 2 != 0 then e - 1 else e) / 2

theorem evenSignificand_mul (m : Nat) (e : Int) : (evenSignificand m e : ℝ) * 2 ^ (2 * halfExponent e) = m * 2 ^ e := by
  unfold evenSignificand halfExponent
  by_cases hodd : e % 2 = 0
  · have he : 2 * (e / 2) = e := by omega
    simp [hodd, he]
  · have he : 2 * ((e - 1) / 2) = e - 1 := by omega
    have hstep : (2 : ℝ) ^ e = 2 * 2 ^ (e - 1) := by rw [← zpow_one_add₀ two_ne_zero, add_sub_cancel]
    simp only [bne_iff_ne, ne_eq, hodd, not_false_eq_true, if_true, he, hstep]
    push_cast
    ring

theorem evenSignificand_bounds (m : Nat) (e : Int) : m ≤ evenSignificand m e ∧ evenSignificand m e ≤ 2 * m := by
  unfold evenSignificand
  split <;> omega

/-- The radicand: that magnitude, moved up for a root of more bits than the precision. -/
def FpFormat.radicand (f : FpFormat) (m : Nat) (e : Int) : Nat := evenSignificand m e * 2 ^ (2 * (f.precision + 2))

/-- The exponent of the root of the radicand. -/
def FpFormat.rootPlace (f : FpFormat) (e : Int) : Int := halfExponent e - (f.precision + 2 : Nat)

theorem sqrtValue_positive {m : Nat} (e : Int) (hm : m ≠ 0) :
    f.sqrtValue md (.finite false m e) =
      f.round md false (isqrt (f.radicand m e)) (f.rootPlace e) (isqrt (f.radicand m e) * isqrt (f.radicand m e) != f.radicand m e) :=
  if_neg hm

theorem radicand_mul (m : Nat) (e : Int) : (f.radicand m e : ℝ) * 2 ^ (2 * f.rootPlace e) = m * 2 ^ e := by
  rw [FpFormat.radicand, FpFormat.rootPlace, ← evenSignificand_mul m e, mul_sub, zpow_sub₀ two_ne_zero]
  push_cast
  rw [← zpow_natCast]
  push_cast
  field_simp

theorem radicand_bounds {m : Nat} {e : Int} (h : f.Normal m e) : 2 ^ (2 * f.precision) ≤ f.radicand m e ∧ f.radicand m e < 2 ^ 256 := by
  obtain ⟨hlow, hhigh⟩ := evenSignificand_bounds m e
  have hm : 0 < m := (Nat.two_pow_pos _).trans_le h.low
  have hshort : evenSignificand m e < 2 ^ (f.precision + 1) := by
    have := h.high
    rw [pow_succ]
    omega
  constructor
  · calc 2 ^ (2 * f.precision) ≤ 2 ^ (2 * (f.precision + 2)) := Nat.pow_le_pow_right two_pos (by omega)
      _ ≤ f.radicand m e := Nat.le_mul_of_pos_left _ (by omega)
  · calc f.radicand m e < 2 ^ (f.precision + 1) * 2 ^ (2 * (f.precision + 2)) := Nat.mul_lt_mul_of_pos_right hshort (Nat.two_pow_pos _)
      _ ≤ 2 ^ 256 := by cases f <;> decide

theorem sqrtValue_rounds (neg : Bool) {m : Nat} (e : Int) (h : m = 0 ∨ f.Normal m e)
    (hx : (0 : ℝ) ≤ (FpValue.finite neg m e).rational) :
    Claim.RoundsNumber f md (Real.sqrt (FpValue.finite neg m e).rational) neg (f.sqrtValue md (.finite neg m e)) := by
  rcases h with rfl | h
  · simpa [rational_cast, FpFormat.sqrtValue] using roundsNumber_zero f md neg
  · have hm : m ≠ 0 := ((Nat.two_pow_pos _).trans_le h.low).ne'
    have hpos := magnitude_pos e hm
    rw [rational_cast] at hx ⊢
    cases neg with
    | true => exact absurd hx (not_le.mpr (neg_neg_of_pos hpos))
    | false =>
      obtain ⟨hlong, hshort⟩ := radicand_bounds f h
      have hround := round_sqrt_isRounding f md (f.rootPlace e) hlong hshort
      rw [radicand_mul] at hround
      rw [sqrtValue_positive f md e hm]
      exact roundsNumber_of_isRounding false false (Real.sqrt_pos.mpr hpos) hround

end

end Machine
end Sys2Proof
end

section
/-! PROOF. Arithmetic on numbers, instruction by instruction (O55): the operations on bit patterns are the roundings of the section
before, and without a Cause bit those are exact. -/

namespace Sys2Proof
namespace Machine

/-! ### Values of the results and of the operands -/

theorem rational_eq_zero_iff (neg : Bool) (m : Nat) (e : Int) : (FpValue.finite neg m e).rational = 0 ↔ m = 0 := by
  have hpow : (2 : ℚ) ^ e ≠ 0 := zpow_ne_zero e two_ne_zero
  cases neg <;> simp [FpValue.rational, hpow]

/-- A negative number has the sign and is not a zero. -/
theorem rational_neg_iff (neg : Bool) (m : Nat) (e : Int) : (FpValue.finite neg m e).rational < 0 ↔ neg = true ∧ m ≠ 0 := by
  have hpow : (0 : ℚ) < 2 ^ e := zpow_pos two_pos e
  rcases Nat.eq_zero_or_pos m with rfl | hm
  · simp [FpValue.rational]
  · have hmagnitude : (0 : ℚ) < m * 2 ^ e := mul_pos (by exact_mod_cast hm) hpow
    cases neg
    · simp [FpValue.rational, hmagnitude.le]
    · simpa [FpValue.rational, hm.ne'] using hmagnitude

/-- The number that a multiply-add stands for: the product plus the addend, or minus it. -/
def exactMadd (subtract : Bool) (x y z : ℚ) : ℚ := if subtract then x * y - z else x * y + z

theorem exactMadd_eq_add (subtract : Bool) (x y : ℚ) (v : FpValue) :
    exactMadd subtract x y v.rational = x * y + (v.addend subtract).rational := by
  cases subtract with
  | false => rfl
  | true =>
    have hopposite : (v.addend true).rational = -v.rational := rational_opposite v
    rw [hopposite]
    exact sub_eq_add_neg _ _

theorem exactMadd_cast (subtract : Bool) (x y z : ℚ) :
    (exactMadd subtract x y z : ℝ) = if subtract then (x * y - z : ℝ) else x * y + z := by
  cases subtract <;> simp [exactMadd]

section
variable (f : FpFormat) (md : FpMode)

theorem exact_valid (bits : Nat) : (FpResult.exact bits).cause &&& causeV = 0 := BitVec.zero_and

theorem roundValue_valid (neg : Bool) (m : Nat) (e : Int) : (f.roundValue md (.finite neg m e)).cause &&& causeV = 0 := by
  rw [FpFormat.roundValue]
  split
  · exact exact_valid _
  · exact round_valid f md neg m e false

theorem roundValue_computed (neg : Bool) (m : Nat) (e : Int) : Claim.Computed f (f.roundValue md (.finite neg m e)).bits := by
  rw [FpFormat.roundValue]
  split
  · exact computed_zero f neg
  · next h => exact round_computed f md neg m e false h

/-- Without a Cause bit a rounded number is a number. -/
theorem roundValue_plain (neg : Bool) (m : Nat) (e : Int) (hcause : (f.roundValue md (.finite neg m e)).cause = 0) :
    f.plainNumber (f.roundValue md (.finite neg m e)).bits = true := by
  refine (roundValue_computed f md neg m e).resolve_right fun ⟨n, hinfinity⟩ => ?_
  have hexact := roundsNumber_exact (roundValue_rounds f md neg m e) hcause
  rw [hinfinity, Rat.cast_inj] at hexact
  have hm : m = 0 := (rational_eq_zero_iff neg m e).mp hexact.symm
  have hzero : (f.roundValue md (.finite neg m e)).bits = f.zero neg := by rw [FpFormat.roundValue, if_pos hm]; rfl
  rw [hzero, value_zero_pack] at hinfinity
  cases hinfinity

theorem addFinite_valid (n1 : Bool) (m1 : Nat) (e1 : Int) (n2 : Bool) (m2 : Nat) (e2 : Int) :
    (f.addFinite md n1 m1 e1 n2 m2 e2).cause &&& causeV = 0 := by
  rw [addFinite_eq]
  split
  · exact exact_valid _
  · exact round_valid f md _ _ _ _

/-- A sum with a number is never invalid. -/
theorem addValues_valid {p : Nat} (hp : Claim.Computed f p) (neg : Bool) (m : Nat) (e : Int) :
    (f.addValues md (f.value p) (.finite neg m e)).cause &&& causeV = 0 := by
  rcases computed_value hp with ⟨k, x, hp⟩ | ⟨n, hp⟩
  · have hsum : f.addValues md (.finite (f.negative p) k x) (.finite neg m e) = f.addFinite md (f.negative p) k x neg m e := rfl
    rw [hp, hsum]
    exact addFinite_valid f md _ _ _ _ _ _
  · rw [hp]
    exact exact_valid _

end

/-! ### The instructions on numbers -/

section
variable {f : FpFormat} (md : FpMode) {a b d : Nat} (ha : f.plainNumber a = true) (hb : f.plainNumber b = true)
  (hd : f.plainNumber d = true)

include ha in
theorem sqrt_rounds (hx : (0 : ℝ) ≤ (f.value a).rational) :
    Claim.RoundsNumber f md (Real.sqrt (f.value a).rational) (f.negative a) (f.sqrt md a) := by
  obtain ⟨m, e, hvalue, hm⟩ := plain_value ha
  rw [sqrt_computed md (.inl ha)]
  rw [hvalue] at hx ⊢
  exact sqrtValue_rounds f md _ e hm hx

include ha in
theorem sqrt_negative (hx : (f.value a).rational < 0) : f.sqrt md a = f.invalid := by
  obtain ⟨m, e, hvalue, -⟩ := plain_value ha
  rw [hvalue] at hx
  obtain ⟨hneg, hm⟩ := (rational_neg_iff _ m e).mp hx
  rw [sqrt_computed md (.inl ha), hvalue, hneg, FpFormat.sqrtValue, if_neg hm, if_pos rfl]

include ha hb

theorem add_rounds :
    Claim.RoundsNumber f md ((f.value a).rational + (f.value b).rational)
      (if f.negative a = f.negative b then f.negative a else md.rm == 3) (f.add md a b) := by
  obtain ⟨m1, e1, h1, -⟩ := plain_value ha
  obtain ⟨m2, e2, h2, -⟩ := plain_value hb
  rw [add_computed md (.inl ha) (.inl hb), h1, h2]
  exact addFinite_rounds f md _ m1 e1 _ m2 e2

theorem sub_rounds :
    Claim.RoundsNumber f md ((f.value a).rational - (f.value b).rational)
      (if f.negative a = !f.negative b then f.negative a else md.rm == 3) (f.sub md a b) := by
  obtain ⟨m1, e1, h1, -⟩ := plain_value ha
  obtain ⟨m2, e2, h2, -⟩ := plain_value hb
  rw [sub_computed md (.inl ha) (.inl hb), sub_eq_add_neg, ← Rat.cast_neg, ← rational_opposite, h1, h2]
  exact addFinite_rounds f md _ m1 e1 _ m2 e2

/-- The product of two numbers is one number, rounded. -/
theorem mul_eq_roundValue :
    ∃ m e, (f.value a).product (f.value b) = some (.finite (f.negative a != f.negative b) m e) ∧
      f.mul md a b = f.roundValue md (.finite (f.negative a != f.negative b) m e) ∧
      (f.value a).rational * (f.value b).rational = (FpValue.finite (f.negative a != f.negative b) m e).rational := by
  obtain ⟨m1, e1, h1, -⟩ := plain_value ha
  obtain ⟨m2, e2, h2, -⟩ := plain_value hb
  rw [mul_computed md (.inl ha) (.inl hb), h1, h2, rational_mul]
  exact ⟨m1 * m2, e1 + e2, rfl, rfl, rfl⟩

theorem mul_rounds :
    Claim.RoundsNumber f md ((f.value a).rational * (f.value b).rational) (f.negative a != f.negative b) (f.mul md a b) := by
  obtain ⟨m, e, -, hmul, hrational⟩ := mul_eq_roundValue md ha hb
  rw [hmul, ← Rat.cast_mul, hrational]
  exact roundValue_rounds f md _ m e

/-- A product of numbers is never invalid. -/
theorem mul_valid : (f.mul md a b).cause &&& causeV = 0 := by
  obtain ⟨m, e, -, hmul, -⟩ := mul_eq_roundValue md ha hb
  rw [hmul]
  exact roundValue_valid f md _ m e

theorem mul_bits_computed : Claim.Computed f (f.mul md a b).bits := by
  obtain ⟨m, e, -, hmul, -⟩ := mul_eq_roundValue md ha hb
  rw [hmul]
  exact roundValue_computed f md _ m e

theorem div_rounds (hy : (f.value b).rational ≠ 0) :
    Claim.RoundsNumber f md ((f.value a).rational / (f.value b).rational) (f.negative a != f.negative b) (f.div md a b) := by
  obtain ⟨m1, e1, h1, hm1⟩ := plain_value ha
  obtain ⟨m2, e2, h2, hm2⟩ := plain_value hb
  rw [h2, ne_eq, rational_eq_zero_iff] at hy
  rw [div_computed md (.inl ha) (.inl hb), h1, h2]
  exact divideValues_rounds f md _ _ e1 e2 hm1 (hm2.resolve_left hy)

/-- A division by zero is invalid or sets Cause Z. -/
theorem div_zero_cause (hy : (f.value b).rational = 0) : (f.div md a b).cause ≠ 0 := by
  obtain ⟨m1, e1, h1, -⟩ := plain_value ha
  obtain ⟨m2, e2, h2, -⟩ := plain_value hb
  rw [h2, rational_eq_zero_iff] at hy
  rw [div_computed md (.inl ha) (.inl hb), h1, h2]
  simp only [FpFormat.divideValues, if_pos hy]
  split
  · exact (by decide : causeV ≠ 0)
  · exact (by decide : causeZ ≠ 0)

/-! ### Multiply-adds -/

include hd

omit ha hb in
/-- The sum that the multiply-adds of two roundings end with. -/
theorem addend_sum (p : Nat) (hp : Claim.Computed f p) (subtract : Bool) :
    f.addValues md (f.value p) ((f.value d).addend subtract) = if subtract then f.sub md p d else f.add md p d := by
  cases subtract with
  | true => exact (sub_computed md hp (.inl hd)).symm
  | false => exact (add_computed md hp (.inl hd)).symm

/-- One rounding: the exact product and the addend, added. -/
theorem fused_eq_addFinite (subtract : Bool) :
    ∃ m e m' e',
      f.fusedValues md (f.value a) (f.value b) ((f.value d).addend subtract) =
        f.addFinite md (f.negative a != f.negative b) m e (f.negative d != subtract) m' e' ∧
      exactMadd subtract (f.value a).rational (f.value b).rational (f.value d).rational =
        (FpValue.finite (f.negative a != f.negative b) m e).rational + (FpValue.finite (f.negative d != subtract) m' e').rational := by
  obtain ⟨m, e, hproduct, -, hrational⟩ := mul_eq_roundValue md ha hb
  obtain ⟨m', e', hd', -⟩ := plain_value hd
  refine ⟨m, e, m', e', ?_, ?_⟩
  · rw [FpFormat.fusedValues, hproduct, hd', addend_finite]
    rfl
  · rw [exactMadd_eq_add, hrational, hd', addend_finite]

theorem fused_rounds (subtract : Bool) :
    Claim.RoundsNumber f md
      (exactMadd subtract (f.value a).rational (f.value b).rational (f.value d).rational)
      (if (f.negative a != f.negative b) = (f.negative d != subtract) then f.negative a != f.negative b else md.rm == 3)
      (f.fusedValues md (f.value a) (f.value b) ((f.value d).addend subtract)) := by
  obtain ⟨m, e, m', e', hresult, hsum⟩ := fused_eq_addFinite md ha hb hd subtract
  rw [hresult, hsum, Rat.cast_add]
  exact addFinite_rounds f md _ m e _ m' e'

omit hd in
/-- Two roundings: an unimplemented product is the result, any other goes into the sum, with the Cause bits of both. -/
theorem unfused_of_numbers (addend : FpValue) :
    f.unfusedValues md (f.value a) (f.value b) addend =
      if (f.mul md a b).cause &&& causeE ≠ 0 then f.mul md a b
      else
        { cause := (f.addValues md (f.value (f.mul md a b).bits) addend).cause ||| (f.mul md a b).cause
          bits := (f.addValues md (f.value (f.mul md a b).bits) addend).bits } := by
  have hvalid := mul_valid md ha hb
  have hstops : ∀ c : BitVec 6, c &&& causeV = 0 → (c &&& (causeE ||| causeV) != 0) = decide (c &&& causeE ≠ 0) := by decide
  rw [FpFormat.unfusedValues, ← mul_computed md (.inl ha) (.inl hb)]
  simp only [hstops _ hvalid, decide_eq_true_eq]

/-- With a number as the addend that sum is the one of ADD or SUB. -/
theorem unfused_result (subtract : Bool) :
    let p := f.mul md a b
    let sum := if subtract then f.sub md p.bits d else f.add md p.bits d
    f.unfusedValues md (f.value a) (f.value b) ((f.value d).addend subtract) =
      if p.cause &&& causeE ≠ 0 then p else { cause := sum.cause ||| p.cause, bits := sum.bits } := by
  rw [unfused_of_numbers md ha hb, addend_sum md hd _ (mul_bits_computed md ha hb)]

/-- A multiply-add of numbers is never invalid. -/
theorem madd_valid (subtract : Bool) : (f.madd subtract false md d a b).cause &&& causeV = 0 := by
  obtain ⟨m', e', hd', -⟩ := plain_value hd
  have hcomputed := mul_bits_computed md ha hb
  have hp := mul_valid md ha hb
  rw [madd_computed md (.inl ha) (.inl hb) (.inl hd)]
  cases hfused : Config.maddFused with
  | true =>
    obtain ⟨k, x, k', x', hresult, -⟩ := fused_eq_addFinite md ha hb hd subtract
    rw [multiplyAdd_fused _ _ _ _ _ hfused, hresult]
    exact addFinite_valid f md _ k x _ k' x'
  | false =>
    rw [multiplyAdd_unfused _ _ _ _ _ hfused, unfused_result md ha hb hd subtract]
    split
    · exact hp
    · have hsum : (if subtract then f.sub md (f.mul md a b).bits d else f.add md (f.mul md a b).bits d).cause &&& causeV = 0 := by
        rw [← addend_sum md hd _ hcomputed, hd', addend_finite]
        exact addValues_valid f md hcomputed _ m' e'
      rw [BitVec.and_or_distrib_right, hsum, hp]
      rfl

end

/-! ### Negation -/

theorem negated_valid (f : FpFormat) {r : FpResult} (h : r.cause &&& causeV = 0) :
    f.negated r = { r with bits := f.withSign (!f.negative r.bits) r.bits } := by
  rw [FpFormat.negated, h]
  rfl

/-- The value with the sign inverted is the opposite number. -/
theorem rational_withSign_not {f : FpFormat} (n : Nat) :
    (f.value (f.withSign (!f.negative n) n)).rational = -(f.value n).rational := by
  rw [value_withSign]
  cases hvalue : f.value n with
  | nan => exact neg_zero.symm
  | infinity => exact neg_zero.symm
  | finite neg m e =>
    rw [negative_of_finite hvalue, ← rational_opposite]
    rfl

/-- The value without a sign is the absolute value. -/
theorem rational_withSign_false {f : FpFormat} (n : Nat) : (f.value (f.withSign false n)).rational = |(f.value n).rational| := by
  rw [value_withSign]
  cases f.value n with
  | nan => exact abs_zero.symm
  | infinity => exact abs_zero.symm
  | finite neg m e =>
    have hpow : (0 : ℚ) ≤ 2 ^ e := (zpow_pos two_pos e).le
    cases neg <;> simp [FpValue.withSign, FpValue.rational, abs_mul, abs_of_nonneg hpow]

/-! ### The statement -/

theorem arithmeticRounds : Claim.ArithmeticRounds := by
  unfold Claim.ArithmeticRounds
  intro f md a b _ _ ha hb x y na nb rounds
  exact ⟨add_rounds md ha hb, sub_rounds md ha hb, mul_rounds md ha hb, fun hy => div_rounds md ha hb (Rat.cast_ne_zero.mp hy),
    sqrt_rounds md ha⟩

theorem multiplyAddRounds : Claim.MultiplyAddRounds := by
  unfold Claim.MultiplyAddRounds
  intro f md subtract a b d _ _ _ ha hb hd xy z np nd r n p sum
  have hr : r = f.multiplyAdd md (f.value a) (f.value b) ((f.value d).addend subtract) :=
    madd_computed md (.inl ha) (.inl hb) (.inl hd) subtract
  have hn : n = { r with bits := f.withSign (!f.negative r.bits) r.bits } :=
    (madd_negated md (.inl ha) (.inl hb) (.inl hd) subtract).trans (negated_valid f (madd_valid md ha hb hd subtract))
  obtain ⟨hnegative, hexponent, hfraction⟩ := withSign_fields f (!f.negative r.bits) r.bits
  rw [hn]
  refine ⟨fun hfused => ?fused, fun hfused hE => ?unimplemented, fun hfused hE => ?summed, rfl, hnegative, hexponent, hfraction⟩
  case fused =>
    rw [hr, multiplyAdd_fused _ _ _ _ _ hfused]
    have hrounds := fused_rounds md ha hb hd subtract
    rw [exactMadd_cast] at hrounds
    exact hrounds
  case unimplemented =>
    rw [hr, multiplyAdd_unfused _ _ _ _ _ hfused, unfused_result md ha hb hd subtract]
    exact if_pos hE
  case summed =>
    rw [hr, multiplyAdd_unfused _ _ _ _ _ hfused, unfused_result md ha hb hd subtract]
    exact if_neg (not_not.mpr hE)

section
variable {f : FpFormat} (md : FpMode) {a b d : Nat} (ha : f.plainNumber a = true) (hb : f.plainNumber b = true)
  (hd : f.plainNumber d = true)
include ha hb hd

/-- The unfused sum without a Cause bit: both roundings were exact. -/
theorem unfused_exact (subtract : Bool)
    (hcause : (f.unfusedValues md (f.value a) (f.value b) ((f.value d).addend subtract)).cause = 0) :
    (f.value (f.unfusedValues md (f.value a) (f.value b) ((f.value d).addend subtract)).bits).rational =
      exactMadd subtract (f.value a).rational (f.value b).rational (f.value d).rational := by
  rw [unfused_result md ha hb hd subtract] at hcause ⊢
  have hstops : ¬(f.mul md a b).cause &&& causeE ≠ 0 := by
    intro hE
    rw [if_pos hE] at hcause
    rw [hcause] at hE
    exact hE rfl
  rw [if_neg hstops] at hcause ⊢
  obtain ⟨hsum, hproduct⟩ := BitVec.or_eq_zero_iff.mp hcause
  obtain ⟨m, e, -, hmul, -⟩ := mul_eq_roundValue md ha hb
  have hplain : f.plainNumber (f.mul md a b).bits = true := by
    rw [hmul] at hproduct ⊢
    exact roundValue_plain f md _ m e hproduct
  have hexact := roundsNumber_exact (mul_rounds md ha hb) hproduct
  rw [← Rat.cast_inj (α := ℝ), exactMadd_cast, ← hexact]
  cases subtract with
  | true =>
    have hrounded := roundsNumber_exact (sub_rounds md hplain hd) hsum
    exact hrounded
  | false =>
    have hrounded := roundsNumber_exact (add_rounds md hplain hd) hsum
    exact hrounded

/-- A multiply-add without a Cause bit is exact, rounded once or twice. -/
theorem madd_exact (subtract : Bool) (hcause : (f.madd subtract false md d a b).cause = 0) :
    (f.value (f.madd subtract false md d a b).bits).rational =
      exactMadd subtract (f.value a).rational (f.value b).rational (f.value d).rational := by
  rw [madd_computed md (.inl ha) (.inl hb) (.inl hd) subtract] at hcause ⊢
  cases hfused : Config.maddFused with
  | true =>
    rw [multiplyAdd_fused _ _ _ _ _ hfused] at hcause ⊢
    exact Rat.cast_inj.mp (roundsNumber_exact (fused_rounds md ha hb hd subtract) hcause)
  | false =>
    rw [multiplyAdd_unfused _ _ _ _ _ hfused] at hcause ⊢
    exact unfused_exact md ha hb hd subtract hcause

/-- NMADD and NMSUB without a Cause bit: the opposite number. -/
theorem madd_negated_exact (subtract : Bool) (hcause : (f.madd subtract true md d a b).cause = 0) :
    (f.value (f.madd subtract true md d a b).bits).rational =
      -exactMadd subtract (f.value a).rational (f.value b).rational (f.value d).rational := by
  rw [madd_negated md (.inl ha) (.inl hb) (.inl hd) subtract, negated_valid f (madd_valid md ha hb hd subtract)] at hcause ⊢
  rw [rational_withSign_not, madd_exact md ha hb hd subtract hcause]

end

theorem exactWithoutCause : Claim.ExactWithoutCause := by
  unfold Claim.ExactWithoutCause
  intro f md a b d _ _ _ ha hb hd x y z isExact
  refine ⟨fun h => ?sum, fun h => ?difference, fun h => ?product, fun h => ?quotient, fun h => ?root,
    madd_exact md ha hb hd false, madd_exact md ha hb hd true, madd_negated_exact md ha hb hd false,
    madd_negated_exact md ha hb hd true, ?absolute, ?opposite⟩
  case sum => exact_mod_cast roundsNumber_exact (add_rounds md ha hb) h
  case difference => exact_mod_cast roundsNumber_exact (sub_rounds md ha hb) h
  case product => exact_mod_cast roundsNumber_exact (mul_rounds md ha hb) h
  case quotient =>
    have hy : (f.value b).rational ≠ 0 := fun hzero => div_zero_cause md ha hb hzero h
    exact ⟨hy, by exact_mod_cast roundsNumber_exact (div_rounds md ha hb hy) h⟩
  case root =>
    rcases lt_or_ge x 0 with hneg | hpos
    · rw [sqrt_negative md ha hneg] at h
      exact absurd h (by decide : causeV ≠ 0)
    · have hreal : (0 : ℝ) ≤ (f.value a).rational := by exact_mod_cast hpos
      have hroot := roundsNumber_exact (sqrt_rounds md ha hreal) h
      have hsquare := Real.sq_sqrt hreal
      rw [← hroot] at hsquare
      exact_mod_cast hsquare
  case absolute =>
    rw [abs_computed md (.inl ha)]
    exact ⟨rfl, rational_withSign_false a, (withSign_fields f false a).1⟩
  case opposite =>
    rw [neg_computed md (.inl ha)]
    exact ⟨rfl, rational_withSign_not a, (withSign_fields f (!f.negative a) a).1⟩

/-- Settles O55: every operation rounds its exact result, and a rounding that sets no Cause bit is that result. -/
theorem exactUnlessCause : Obligations.ExactUnlessCause := ⟨exactWithoutCause, arithmeticRounds, multiplyAddRounds⟩

end Machine
end Sys2Proof
end

section
/-! PROOF. The conversions (O57). To a floating-point format a conversion is a rounding, which is exact where the significand is short and
the exponent in range; to an integer it rounds the magnitude in units of 1, and the sign makes floor or ceiling of that. -/

namespace Sys2Proof
namespace Machine

/-! ### To a floating-point format (48_fpu_arith.md R577, R578) -/

section
variable {f : FpFormat} (md : FpMode)

/-- A significand of no more bits than the precision, in range, is kept whole. -/
theorem round_short {neg : Bool} {m : Nat} {e : Int} (hm : m ≠ 0) (hshort : Nat.log2 m + 1 ≤ f.precision) (hmin : f.emin ≤ e + Nat.log2 m)
    (hmax : e + Nat.log2 m ≤ f.emax) : (f.round md neg m e false).cause = 0 := by
  have hpos := Nat.pos_of_ne_zero hm
  have hshift : f.cutShift m = 0 := Nat.sub_eq_zero_of_le hshort
  have hdropped : f.dropped m = 0 := by rw [FpFormat.dropped, hshift, pow_zero, Nat.mod_one]
  have hrounded : f.rounded md.rm neg m false = f.cut m := by
    rw [FpFormat.rounded, hdropped, roundedUnits, roundsUp_nothing]
    rfl
  have htop : f.normalizedTop (f.cut m) (f.lastPlace m e) = e + Nat.log2 m := by
    rw [FpFormat.normalizedTop, FpFormat.normalizedPlace, if_neg (cut_bounds f m hpos).2.ne, FpFormat.lastPlace]
    have := fractionBits_succ f
    rw [FpFormat.fractionBits] at this
    omega
  rw [round_eq_placed, hrounded, hdropped]
  refine (placed_value f md neg (f.cut m) (f.lastPlace m e) _ ?_ (by rw [htop]; exact hmin) (by rw [htop]; exact hmax)).2
  exact ⟨(cut_bounds f m hpos).1, (cut_bounds f m hpos).2.le⟩

theorem ofInteger_rounds (n : Int) : Claim.RoundsNumber f md n false (f.ofInteger md n) := by
  have hrounds := roundsNumber_int f md n 0 false
  rw [zpow_zero, mul_one] at hrounds
  exact hrounds

/-- A 32-bit integer has no more bits than the significand of a double. -/
theorem ofInteger_word (v : BitVec 32) : (FpFormat.double.ofInteger md v.toInt).cause = 0 := by
  rw [FpFormat.ofInteger]
  split
  · rfl
  · next hn =>
    have hm : v.toInt.natAbs ≠ 0 := Int.natAbs_ne_zero.mpr hn
    have hlog : Nat.log2 v.toInt.natAbs < 32 := by
      rw [Nat.log2_lt hm]
      have := v.toInt_lt
      have := v.le_toInt
      omega
    have hprecision : FpFormat.double.precision = 53 := rfl
    have hemax : FpFormat.double.emax = 1023 := rfl
    exact round_short md hm (by omega) (by rw [FpFormat.emin]; omega) (by omega)

theorem convert_rounds {src dst : FpFormat} {a : Nat} (ha : src.plainNumber a = true) :
    Claim.RoundsNumber dst md (src.value a).rational (src.negative a) (src.convert dst md a) := by
  obtain ⟨m, e, hvalue, -⟩ := plain_value ha
  rw [convert_computed md (.inl ha), hvalue]
  exact roundValue_rounds dst md _ m e

theorem log2_of_normal {m : Nat} {e : Int} (h : f.Normal m e) : Nat.log2 m = f.fractionBits := by
  have hm : m ≠ 0 := ((Nat.two_pow_pos _).trans_le h.low).ne'
  have hhigh := h.high
  rw [← fractionBits_succ f] at hhigh
  exact (Nat.log2_eq_iff hm).mpr ⟨h.low, hhigh⟩

/-- Every single is a double. -/
theorem convert_wider {a : Nat} (ha : FpFormat.single.plainNumber a = true) : (FpFormat.single.convert .double md a).cause = 0 := by
  obtain ⟨m, e, hvalue, hm⟩ := plain_value ha
  rw [convert_computed md (.inl ha), hvalue, FpFormat.roundValue]
  split
  · rfl
  · next hne =>
    have hlog := log2_of_normal (hm.resolve_left hne)
    obtain ⟨-, -, habove, hbelow⟩ := hm.resolve_left hne
    have hbits : FpFormat.single.fractionBits = 23 := rfl
    have hprecision : FpFormat.double.precision = 53 := rfl
    have hemaxD : FpFormat.double.emax = 1023 := rfl
    have hemaxS : FpFormat.single.emax = 127 := rfl
    rw [FpFormat.emin] at habove
    exact round_short md hne (by omega) (by rw [FpFormat.emin]; omega) (by omega)

end

theorem conversionsKeepNumbers : Claim.ConversionsKeepNumbers := by
  unfold Claim.ConversionsKeepNumbers
  refine ⟨fun md v => ⟨ofInteger_word md v, ?word⟩, fun f md n => ⟨fun h => ?integer, fun hn => ?rounded⟩,
    fun md a ha => ⟨convert_wider md ha, ?wider⟩, fun md a ha => ⟨fun h => ?narrower, fun hx => ?narrowed⟩⟩
  case word => exact_mod_cast roundsNumber_exact (ofInteger_rounds md v.toInt) (ofInteger_word md v)
  case integer => exact_mod_cast roundsNumber_exact (ofInteger_rounds md n) h
  case rounded =>
    exact isRounding_of_roundsNumber (ofInteger_rounds md n) (by exact_mod_cast hn) (by rw [decide_eq_true_eq, Int.cast_lt_zero])
  case wider => exact Rat.cast_inj.mp (roundsNumber_exact (convert_rounds md ha) (convert_wider md ha))
  case narrower => exact Rat.cast_inj.mp (roundsNumber_exact (convert_rounds md ha) h)
  case narrowed =>
    exact isRounding_of_roundsNumber (convert_rounds md ha) (by exact_mod_cast hx) (by rw [decide_eq_true_eq, Rat.cast_lt_zero])

/-! ### To an integer (48_fpu_arith.md R569 to R576, R579 to R581) -/

/-- A natural cut `shift` bits above its lowest, with the bits below as the tail. -/
theorem tail_of_mod (k shift : Nat) :
    Tail (k % 2 ^ shift) shift false ((k % 2 ^ shift : Nat) / 2 ^ shift) ∧
      ((k / 2 ^ shift : Nat) : ℝ) + (k % 2 ^ shift : Nat) / 2 ^ shift = k / 2 ^ shift := by
  have hpow : (2 : ℝ) ^ shift ≠ 0 := by positivity
  have hsplit : (k : ℝ) = (k / 2 ^ shift : Nat) * 2 ^ shift + (k % 2 ^ shift : Nat) := by exact_mod_cast (Nat.div_add_mod' k _).symm
  refine ⟨⟨Nat.mod_lt _ (Nat.two_pow_pos _), fun _ => div_mul_cancel₀ _ hpow, fun h => absurd h (by decide)⟩, ?_⟩
  rw [eq_div_iff hpow, add_mul, div_mul_cancel₀ _ hpow]
  exact hsplit.symm

/-- The magnitude moved up, so that its exponent is not positive. -/
def raised (m : Nat) (e : Int) : Nat := m * 2 ^ e.toNat

theorem raised_div (m : Nat) (e : Int) : (raised m e : ℝ) / 2 ^ (-e).toNat = m * 2 ^ e := by
  have hsplit : e = e.toNat - (-e).toNat := by omega
  rw [raised, hsplit, zpow_sub₀ two_ne_zero, zpow_natCast, zpow_natCast, ← hsplit]
  push_cast
  exact mul_div_assoc _ _ _

theorem roundToInteger_eq (rm : BitVec 2) (neg : Bool) (m : Nat) (e : Int) :
    roundToInteger rm neg m e =
      (roundedUnits rm neg (raised m e / 2 ^ (-e).toNat) (raised m e % 2 ^ (-e).toNat) (-e).toNat false,
        raised m e % 2 ^ (-e).toNat != 0) := by
  unfold roundToInteger raised
  split
  · next h =>
    have hshift : (-e).toNat = 0 := by omega
    rw [hshift, pow_zero, Nat.mod_one, Nat.div_one, roundedUnits, roundsUp_nothing]
    rfl
  · next h =>
    have hshift : e.toNat = 0 := by omega
    rw [hshift, pow_zero, mul_one]
    rfl

/-- A magnitude rounded to a multiple of 1, and whether that is inexact. -/
theorem roundToInteger_rounded (rm : BitVec 2) (neg : Bool) (m : Nat) (e : Int) :
    Claim.Rounded rm neg (m * 2 ^ e) (roundToInteger rm neg m e).1 1 ((roundToInteger rm neg m e).1 % 2 = 0) ∧
      ((roundToInteger rm neg m e).2 = false ↔ ((roundToInteger rm neg m e).1 : ℝ) = m * 2 ^ e) := by
  obtain ⟨htail, hsum⟩ := tail_of_mod (raised m e) (-e).toNat
  rw [roundToInteger_eq, ← raised_div, ← hsum]
  refine ⟨htail.rounded_units rm neg _, ?_⟩
  rw [htail.roundedUnits_eq_iff rm neg, Bool.or_false]

/-- The integer with a sign and a magnitude. -/
def signedInteger (neg : Bool) (q : Nat) : Int := if neg then -(q : Int) else q

/-- The result of a conversion of a number to an integer, by its rounded magnitude. -/
theorem toInteger_finite {f : FpFormat} {a m w : Nat} {neg : Bool} {e : Int} (bad : BitVec w) (rm : BitVec 2)
    (ha : f.plainNumber a = true) (hvalue : f.value a = .finite neg m e) :
    f.toInteger w bad rm a =
      if -(2 ^ (w - 1) : Int) ≤ signedInteger neg (roundToInteger rm neg m e).1 ∧
          signedInteger neg (roundToInteger rm neg m e).1 < 2 ^ (w - 1) then
        { cause := if (roundToInteger rm neg m e).2 then causeI else 0
          bits := (BitVec.ofInt w (signedInteger neg (roundToInteger rm neg m e).1)).toNat }
      else { cause := causeV, bits := bad.toNat } := by
  rw [FpFormat.toInteger, checked_computes _ _ (by simp [isDenormal_of_plain ha]), hvalue]
  rfl

section
variable {neg : Bool} {x : ℝ} {q : Nat}

theorem abs_signed_sub (neg : Bool) (x : ℝ) (q : Nat) :
    |(if neg then -x else x) - (signedInteger neg q : ℝ)| = |(q : ℝ) - x| := by
  cases neg with
  | false => simpa [signedInteger] using abs_sub_comm x q
  | true =>
    have hsub : -x - -(q : ℝ) = q - x := by ring
    simp [signedInteger, hsub]

theorem signedInteger_eq_iff (neg : Bool) (x : ℝ) (q : Nat) : (if neg then -x else x) = (signedInteger neg q : ℝ) ↔ (q : ℝ) = x := by
  cases neg <;> simp [signedInteger, eq_comm]

/-- The integer below a magnitude is the floor of the number, or the ceiling of a negative one. -/
theorem signedInteger_inward (h : (q : ℝ) ≤ x ∧ x < q + 1) :
    signedInteger neg q = if neg then ⌈-x⌉ else ⌊x⌋ := by
  obtain ⟨hlow, hhigh⟩ := h
  have hfloor : ⌊x⌋ = q := Int.floor_eq_iff.mpr ⟨by exact_mod_cast hlow, by exact_mod_cast hhigh⟩
  cases neg <;> simp [signedInteger, hfloor, Int.ceil_neg]

/-- The integer above a magnitude is the ceiling of the number, or the floor of a negative one. -/
theorem signedInteger_outward (h : x ≤ q ∧ (q : ℝ) < x + 1) :
    signedInteger neg q = if neg then ⌊-x⌋ else ⌈x⌉ := by
  obtain ⟨hlow, hhigh⟩ := h
  have hceil : ⌈x⌉ = q := Int.ceil_eq_iff.mpr ⟨by push_cast; linarith, by exact_mod_cast hlow⟩
  cases neg <;> simp [signedInteger, hceil, Int.floor_neg]

end

/-- The four modes, in terms of the number. -/
theorem rounded_signedInteger {rm : BitVec 2} {neg : Bool} {x : ℝ} {q : Nat} (hx : 0 ≤ x)
    (h : Claim.Rounded rm neg x q 1 (q % 2 = 0)) :
    let y := if neg then -x else x
    let n := signedInteger neg q
    (rm = 0 → 2 * |y - n| ≤ 1 ∧ (2 * |y - n| = 1 → n % 2 = 0)) ∧ (rm = 1 → n = if y < 0 then ⌈y⌉ else ⌊y⌋) ∧
      (rm = 2 → n = ⌈y⌉) ∧ (rm = 3 → n = ⌊y⌋) := by
  intro y n
  obtain ⟨hnearest, hzero, hup, hdown⟩ := h
  refine ⟨fun hrm => ?nearest, fun hrm => ?zero, fun hrm => ?up, fun hrm => ?down⟩
  case nearest =>
    obtain ⟨hhalf, htie⟩ := hnearest hrm
    rw [abs_signed_sub]
    refine ⟨hhalf, fun h => ?_⟩
    have heven := htie h
    cases neg <;> simp only [n, signedInteger, Bool.false_eq_true, if_false, if_true] <;> omega
  case zero =>
    have hinward := signedInteger_inward (neg := neg) (hzero hrm)
    cases neg with
    | false => exact hinward.trans (if_neg (not_lt.mpr hx)).symm
    | true =>
      rcases hx.eq_or_lt with rfl | hpos
      · simpa [y] using hinward
      · exact hinward.trans (if_pos (neg_neg_of_pos hpos)).symm
  case up =>
    have h := hup hrm
    cases neg with
    | false => exact signedInteger_outward h
    | true => exact signedInteger_inward h
  case down =>
    have h := hdown hrm
    cases neg with
    | false => exact signedInteger_inward h
    | true => exact signedInteger_outward h

/-- Cause I is the only Cause bit of a conversion that is not invalid. -/
theorem cause_of_inexact (inexact : Bool) :
    ((if inexact then causeI else 0) = 0 ↔ inexact = false) ∧ ((if inexact then causeI else 0) = causeI ↔ ¬inexact = false) := by
  revert inexact
  decide

theorem conversionsToIntegers : Claim.ConversionsToIntegers := by
  unfold Claim.ConversionsToIntegers
  intro f rm a w bad _ ha x r
  obtain ⟨m, e, hvalue, -⟩ := plain_value ha
  obtain ⟨hrounded, hexact⟩ := roundToInteger_rounded rm (f.negative a) m e
  have hr : r = _ := toInteger_finite bad rm ha hvalue
  have hx : (x : ℝ) = if f.negative a then -((m : ℝ) * 2 ^ e) else m * 2 ^ e := by
    rw [← rational_cast, ← hvalue]
  have hmagnitude : (0 : ℝ) ≤ m * 2 ^ e := mul_nonneg (Nat.cast_nonneg m) (zpow_pos two_pos e).le
  generalize roundToInteger rm (f.negative a) m e = p at hrounded hexact hr
  obtain ⟨hnearest, hzero, hup, hdown⟩ := rounded_signedInteger hmagnitude hrounded
  rw [← hx] at hnearest hzero hup hdown
  rw [Rat.floor_cast] at hzero hdown
  rw [Rat.ceil_cast] at hzero hup
  have hsame : x = signedInteger (f.negative a) p.1 ↔ p.2 = false := by
    rw [hexact, ← signedInteger_eq_iff (f.negative a), ← hx]
    exact_mod_cast Iff.rfl
  refine ⟨signedInteger (f.negative a) p.1, fun hrm => ?nearest, fun hrm => ?zero, hup, hdown, fun hfits => ?fits, fun hfits => ?invalid⟩
  case nearest => exact_mod_cast hnearest hrm
  case zero =>
    have h := hzero hrm
    simpa only [Rat.cast_lt_zero] using h
  case fits =>
    rw [hr, if_pos hfits, ne_eq, hsame]
    exact ⟨rfl, cause_of_inexact p.2⟩
  case invalid => exact hr.trans (if_neg hfits)

/-- Settles O57: a conversion to a format is a rounding, one to an integer a rounding of the magnitude in units of 1. -/
theorem fpConversionsAreNumeric : Obligations.FpConversionsAreNumeric := ⟨conversionsKeepNumbers, conversionsToIntegers⟩

end Machine
end Sys2Proof
end

section
/-! PROOF. Operands that are not computed with, invalid operations, division by zero and infinities (O56). The operand check sets the Cause
bits of the first; the others are read off from the operations on values, and with an infinite product or an invalid one the multiply-adds
answer the same rounded once or twice. -/

namespace Sys2Proof
namespace Machine

/-! ### Operands that are not computed with (48_fpu_arith.md R553 step 3, R554, R559, R560) -/

theorem or_and_self_of {x y c : BitVec 6} (h : x &&& c = c ∨ y = c) : (x ||| y) &&& c = c := by
  have hbits : ∀ x y c : Bool, ((x && c) = c ∨ y = c) → ((x || y) && c) = c := by decide
  refine BitVec.eq_of_getLsbD_eq fun i _ => ?_
  rw [BitVec.getLsbD_and, BitVec.getLsbD_or]
  refine hbits _ _ _ (h.imp (fun hx => ?_) fun hy => by rw [hy])
  rw [← BitVec.getLsbD_and, hx]

/-- The Cause bits of all operands hold those of each. -/
theorem foldl_or_contains {c : BitVec 6} (causes : List (BitVec 6)) (x : BitVec 6) (h : c ∈ causes ∨ x &&& c = c) :
    causes.foldl (· ||| ·) x &&& c = c := by
  induction causes generalizing x with
  | nil => exact h.resolve_left (List.not_mem_nil)
  | cons y causes ih =>
    refine ih (x ||| y) ?_
    rcases h with hmem | hx
    · rcases List.mem_cons.mp hmem with rfl | hmem
      · exact .inr (or_and_self_of (.inr rfl))
      · exact .inl hmem
    · exact .inr (or_and_self_of (.inl hx))

/-- Where no operand has others, they are these. -/
theorem foldl_or_only {c : BitVec 6} (causes : List (BitVec 6)) (x : BitVec 6) (honly : ∀ y ∈ causes, y = c ∨ y = 0)
    (h : x = c ∨ x = 0 ∧ c ∈ causes) : causes.foldl (· ||| ·) x = c := by
  induction causes generalizing x with
  | nil => exact h.resolve_right fun hmem => List.not_mem_nil hmem.2
  | cons y causes ih =>
    refine ih (x ||| y) (fun z hz => honly z (List.mem_cons_of_mem y hz)) ?_
    rcases h with rfl | ⟨rfl, hmem⟩
    · rcases honly y List.mem_cons_self with rfl | rfl
      · exact .inl BitVec.or_self
      · exact .inl BitVec.or_zero
    · have hzero : 0 ||| y = y := BitVec.zero_or
      rw [hzero]
      rcases honly y List.mem_cons_self with hy | hy
      · exact .inl hy
      · rcases List.mem_cons.mp hmem with hc | hc
        · exact .inl hc.symm
        · exact .inr ⟨hy, hc⟩

/-- An operand with Cause bits stops the operation: they are set, and where no operand has others the default result is written. -/
theorem checked_operand {causes : List (BitVec 6)} {c : BitVec 6} (nan : Nat) (act : FpResult) (hne : c ≠ 0) (hc : c ∈ causes) :
    (checked causes nan act).cause &&& c = c ∧
      ((∀ y ∈ causes, y = c ∨ y = 0) →
        (checked causes nan act).cause = c ∧ (c = causeV → (checked causes nan act).bits = nan)) := by
  rw [checked_stops nan act hc hne]
  exact ⟨foldl_or_contains causes 0 (.inl hc), fun honly => ⟨foldl_or_only causes 0 honly (.inr ⟨rfl, hc⟩), fun _ => rfl⟩⟩

section
variable {f : FpFormat} (g : FpFormat) {a : Nat} {c : BitVec 6} (ha : f.operandCause a = c) (hne : c ≠ 0)
include ha hne

/-- What every operation makes of an operand with Cause bits: it sets them, and no others where the other operands have none. -/
theorem operandGives : Claim.OperandGives f g a c := by
  intro md b d sub neg sets gives
  refine ⟨?binary, ?unary, ?multiplyAdd, (checked_operand _ _ hne (by simp [ha])).2 (by simp [ha])⟩
  case binary =>
    have hop : ∀ op : Nat → Nat → FpResult,
        (∀ x y, ∃ act, op x y = checked [f.operandCause x, f.operandCause y] f.defaultNan act) →
        sets (op a b) ∧ sets (op b a) ∧ (Claim.Computed f b → gives (op a b) f.defaultNan ∧ gives (op b a) f.defaultNan) := by
      intro op hform
      obtain ⟨left, hleft⟩ := hform a b
      obtain ⟨right, hright⟩ := hform b a
      obtain ⟨hsets, hgives⟩ := checked_operand f.defaultNan left hne (causes := [f.operandCause a, f.operandCause b]) (by simp [ha])
      obtain ⟨hsets', hgives'⟩ := checked_operand f.defaultNan right hne (causes := [f.operandCause b, f.operandCause a]) (by simp [ha])
      rw [hleft, hright]
      exact ⟨hsets, hsets', fun hb =>
        ⟨hgives (by simp [ha, operandCause_computed hb]), hgives' (by simp [ha, operandCause_computed hb])⟩⟩
    simp only [List.forall_mem_cons]
    exact ⟨hop (f.add md) fun _ _ => ⟨_, rfl⟩, hop (f.sub md) fun _ _ => ⟨_, rfl⟩, hop (f.mul md) fun _ _ => ⟨_, rfl⟩,
      hop (f.div md) fun _ _ => ⟨_, rfl⟩, List.forall_mem_nil _⟩
  case unary =>
    have hop : ∀ act : FpResult, gives (checked [f.operandCause a] f.defaultNan act) f.defaultNan := fun act =>
      (checked_operand _ act hne (by simp [ha])).2 (by simp [ha])
    simp only [List.forall_mem_cons]
    exact ⟨hop _, hop _, hop _, List.forall_mem_nil _⟩
  case multiplyAdd =>
    have hop : ∀ x y z : Nat, c ∈ [f.operandCause x, f.operandCause y, f.operandCause z] →
        (Claim.Computed f b → Claim.Computed f d → ∀ k ∈ [f.operandCause x, f.operandCause y, f.operandCause z], k = c ∨ k = 0) →
        sets (f.madd sub neg md x y z) ∧
          (Claim.Computed f b → Claim.Computed f d → gives (f.madd sub neg md x y z) f.defaultNan) := by
      intro x y z hc honly
      obtain ⟨hsets, hgives⟩ := checked_operand f.defaultNan _ hne hc
      exact ⟨hsets, fun hb hd => hgives (honly hb hd)⟩
    simp only [List.forall_mem_cons]
    exact ⟨hop a b d (by simp [ha]) fun hb hd => by simp [ha, operandCause_computed hb, operandCause_computed hd],
      hop b a d (by simp [ha]) fun hb hd => by simp [ha, operandCause_computed hb, operandCause_computed hd],
      hop b d a (by simp [ha]) fun hb hd => by simp [ha, operandCause_computed hb, operandCause_computed hd], List.forall_mem_nil _⟩

end

/-- A NaN whose top fraction bit is 0 is quiet (48_fpu_arith.md R552). -/
theorem value_quiet_pack (f : FpFormat) (neg : Bool) (fr : Nat) (hne : fr ≠ 0) (hfr : fr < 2 ^ (f.fractionBits - 1)) :
    f.value (f.pack neg f.exponentMax fr) = .nan false := by
  have hlt : fr < 2 ^ f.fractionBits := hfr.trans_le (Nat.pow_le_pow_right two_pos (Nat.sub_le _ _))
  obtain ⟨-, hexponent, hfraction⟩ := pack_fields f neg f.exponentMax fr (Nat.sub_lt (Nat.two_pow_pos _) Nat.one_pos) hlt
  simp only [FpFormat.value, hexponent, hfraction, if_pos, if_neg hne, Nat.testBit_lt_two_pow hfr]

/-- The fraction that the parameter FP_DEFAULT_QNAN gives is not 0 and leaves the top fraction bit 0. -/
theorem nanFraction_bounds {w : Nat} (q : BitVec w) (hw : 1 < 2 ^ w) :
    (if q = 0 then 2 ^ w - 1 else q.toNat) ≠ 0 ∧ (if q = 0 then 2 ^ w - 1 else q.toNat) < 2 ^ w := by
  split
  · omega
  · next hq => exact ⟨fun h0 => hq (BitVec.eq_of_toNat_eq h0), q.isLt⟩

theorem value_defaultNan (f : FpFormat) : f.value f.defaultNan = .nan false := by
  cases f with
  | single =>
    obtain ⟨hne, hlt⟩ := nanFraction_bounds Config.qnanSingle.2 (by decide)
    exact value_quiet_pack .single _ _ hne hlt
  | double =>
    obtain ⟨hne, hlt⟩ := nanFraction_bounds Config.qnanDouble.2 (by decide)
    exact value_quiet_pack .double _ _ hne hlt

theorem toInteger_nan {f : FpFormat} {a w : Nat} {signaling : Bool} (bad : BitVec w) (rm : BitVec 2) (h : f.value a = .nan signaling) :
    f.toInteger w bad rm a = { cause := causeV, bits := bad.toNat } := by
  rw [FpFormat.toInteger, checked_computes _ _ (by simp [isDenormal_of_nan h]), h]

theorem toInteger_infinity {f : FpFormat} {a w : Nat} {n : Bool} (bad : BitVec w) (rm : BitVec 2) (h : f.value a = .infinity n) :
    f.toInteger w bad rm a = { cause := causeV, bits := bad.toNat } := by
  rw [FpFormat.toInteger, checked_computes _ _ (by simp [isDenormal_of_infinity h]), h]

theorem toInteger_denormal {f : FpFormat} {a w : Nat} (bad : BitVec w) (rm : BitVec 2) (h : f.isDenormal a = true) :
    (f.toInteger w bad rm a).cause = causeE := by
  rw [FpFormat.toInteger, h]
  rfl

theorem operandsNotComputed : Claim.OperandsNotComputed := by
  unfold Claim.OperandsNotComputed
  intro f g a w bad rm
  refine ⟨fun h => operandGives g (operandCause_signaling h) (by decide), fun h => operandGives g (operandCause_quiet h) ?quiet,
    fun h => ⟨operandGives g (operandCause_denormal h) (by decide), toInteger_denormal bad rm h⟩, fun _ h => toInteger_nan bad rm h,
    value_defaultNan f⟩
  case quiet => split <;> decide

/-! ### Values -/

section
variable {f : FpFormat} (md : FpMode)

theorem addValues_opposite_infinities (n : Bool) : f.addValues md (.infinity n) (.infinity (!n)) = f.invalid := by cases n <;> rfl

theorem addValues_same_infinities (n : Bool) : f.addValues md (.infinity n) (.infinity n) = .exact (f.infinity n) := by cases n <;> rfl

/-- The value of a zero is computed with. -/
theorem computed_of_zero {a : Nat} {n : Bool} {e : Int} (h : f.value a = .finite n 0 e) : Claim.Computed f a :=
  .inl (plainNumber_of_value h (.inl rfl))

/-- An infinity times an infinity or a number that is not zero, in either order. -/
theorem product_infinity {a b : Nat} {n : Bool} (ha : f.value a = .infinity n)
    (hb : (f.plainNumber b = true ∧ (f.value b).rational ≠ 0) ∨ ∃ n', f.value b = .infinity n') :
    Claim.Computed f b ∧ (f.value a).product (f.value b) = some (.infinity (n != f.negative b)) ∧
      (f.value b).product (f.value a) = some (.infinity (n != f.negative b)) := by
  rcases hb with ⟨hplain, hne⟩ | ⟨n', hb⟩
  · obtain ⟨m, e, hvalue, -⟩ := plain_value hplain
    rw [hvalue, ne_eq, rational_eq_zero_iff] at hne
    rw [ha, hvalue, FpValue.product, FpValue.product, if_neg hne, if_neg hne, bne_comm (a := f.negative b)]
    exact ⟨.inl hplain, rfl, rfl⟩
  · rw [ha, hb, (value_infinity hb).1]
    exact ⟨.inr ⟨n', hb⟩, rfl, congrArg (fun s => some (FpValue.infinity s)) bne_comm⟩

/-! ### Multiply-adds -/

theorem negated_invalid (f : FpFormat) : f.negated f.invalid = f.invalid :=
  if_pos (by decide : (causeV &&& causeV != 0) = true)

theorem negated_infinity (f : FpFormat) {c : BitVec 6} (hc : c &&& causeV = 0) (n : Bool) :
    f.negated { cause := c, bits := f.infinity n } = { cause := c, bits := f.infinity (!n) } := by
  have hvalue := value_infinity_pack f n
  rw [negated_valid f hc, withSign_of_infinity hvalue, (value_infinity hvalue).1]

section
variable {a b d : Nat} (ha : Claim.Computed f a) (hb : Claim.Computed f b) (hd : Claim.Computed f d) (sub neg : Bool)
include ha hb hd

/-- A multiply-add that is invalid before the negation. -/
theorem madd_invalid (h : f.multiplyAdd md (f.value a) (f.value b) ((f.value d).addend sub) = f.invalid) :
    f.madd sub neg md d a b = f.invalid := by
  have hmadd := (madd_computed md ha hb hd sub).trans h
  cases neg with
  | false => exact hmadd
  | true => rw [madd_negated md ha hb hd, hmadd, negated_invalid]

/-- A multiply-add that is infinite before the negation. -/
theorem madd_infinity {c : BitVec 6} {n : Bool} (hc : c &&& causeV = 0)
    (h : f.multiplyAdd md (f.value a) (f.value b) ((f.value d).addend sub) = { cause := c, bits := f.infinity n }) :
    f.madd sub neg md d a b = { cause := c, bits := f.infinity (n != neg) } := by
  have hmadd := (madd_computed md ha hb hd sub).trans h
  cases neg with
  | false => rw [hmadd, Bool.bne_false]
  | true => rw [madd_negated md ha hb hd, hmadd, negated_infinity f hc, Bool.bne_true]

end

/-- A product that is invalid, by either way of rounding. -/
theorem multiplyAdd_of_no_product {v w : FpValue} (addend : FpValue) (h : v.product w = none) :
    f.multiplyAdd md v w addend = f.invalid := by
  have hproduct : f.multiplyValues md v w = f.invalid := by rw [FpFormat.multiplyValues, h]
  refine multiplyAdd_same f md v w addend _ (by rw [FpFormat.fusedValues, h]) ?_
  rw [FpFormat.unfusedValues, hproduct]
  exact if_pos (by decide : (causeV &&& (causeE ||| causeV) != 0) = true)

/-- A product that is infinite is added as it is, by either way of rounding. -/
theorem multiplyAdd_of_infinite_product {v w : FpValue} {n : Bool} (addend : FpValue) (h : v.product w = some (.infinity n)) :
    f.multiplyAdd md v w addend = f.addValues md (.infinity n) addend := by
  have hproduct : f.multiplyValues md v w = .exact (f.infinity n) := by rw [FpFormat.multiplyValues, h]; rfl
  refine multiplyAdd_same f md v w addend _ (by rw [FpFormat.fusedValues, h]) ?_
  have hunfused : f.unfusedValues md v w addend =
      { cause := (f.addValues md (f.value (f.infinity n)) addend).cause ||| 0
        bits := (f.addValues md (f.value (f.infinity n)) addend).bits } := by
    rw [FpFormat.unfusedValues, hproduct]
    exact if_neg (by decide : ¬((0 : BitVec 6) &&& (causeE ||| causeV) != 0) = true)
  have hcause : ∀ c : BitVec 6, c ||| 0 = c := fun c => BitVec.or_zero
  rw [hunfused, value_infinity_pack, hcause]

end

/-! ### Invalid operations and division by zero (48_fpu_arith.md R554, R555) -/

/-- Zero times infinity, in either order. -/
theorem product_zero_infinity {f : FpFormat} {a b : Nat} {n n' : Bool} {e : Int} (ha : f.value a = .infinity n)
    (hb : f.value b = .finite n' 0 e) :
    (f.value a).product (f.value b) = none ∧ (f.value b).product (f.value a) = none := by
  rw [ha, hb]
  exact ⟨rfl, rfl⟩

theorem mul_invalid {f : FpFormat} (md : FpMode) {a b : Nat} (ha : Claim.Computed f a) (hb : Claim.Computed f b)
    (h : (f.value a).product (f.value b) = none) : f.mul md a b = f.invalid := by
  rw [mul_computed md ha hb, FpFormat.multiplyValues, h]

/-- A number over zero. -/
theorem div_by_zero {f : FpFormat} (md : FpMode) {a b m : Nat} {n1 n2 : Bool} {e1 e2 : Int} (ha : Claim.Computed f a)
    (hva : f.value a = .finite n1 m e1) (hb : f.value b = .finite n2 0 e2) :
    f.div md a b = if m = 0 then f.invalid else { cause := causeZ, bits := f.infinity (n1 != n2) } := by
  rw [div_computed md ha (computed_of_zero hb), hva, hb]
  rfl

/-- The addend that is the opposite infinity of the product. -/
theorem addend_opposite (p sub : Bool) : (FpValue.infinity (p != !sub)).addend sub = .infinity (!p) := by
  cases p <;> cases sub <;> rfl

/-- The addend that is the infinity of the product. -/
theorem addend_same (p sub : Bool) : (FpValue.infinity (p != sub)).addend sub = .infinity p := by
  cases p <;> cases sub <;> rfl

theorem invalidOperations : Claim.InvalidOperations := by
  unfold Claim.InvalidOperations
  intro f md rm w bad a b d sub neg invalid
  refine ⟨fun n ha hb => ?sum, fun n ha hb => ?difference, fun n n' ha hb => ?quotient, fun n ha => toInteger_infinity bad rm ha,
    fun n n' e ha hb => ?zeroTimesInfinity, fun n ha hb hd => ?multiplyAdd, fun n n' e e' ha hb => ?zeroOverZero,
    fun ha hne n e hb => ?divisionByZero, sqrt_negative md, fun ha => ?root⟩
  case sum =>
    rw [add_computed md (.inr ⟨_, ha⟩) (.inr ⟨_, hb⟩), ha, hb]
    exact addValues_opposite_infinities md n
  case difference =>
    rw [sub_computed md (.inr ⟨_, ha⟩) (.inr ⟨_, hb⟩), ha, hb]
    exact addValues_opposite_infinities md n
  case quotient =>
    rw [div_computed md (.inr ⟨_, ha⟩) (.inr ⟨_, hb⟩), ha, hb]
    rfl
  case zeroTimesInfinity =>
    obtain ⟨hproduct, hproduct'⟩ := product_zero_infinity ha hb
    have hca : Claim.Computed f a := .inr ⟨_, ha⟩
    have hcb : Claim.Computed f b := computed_of_zero hb
    exact ⟨mul_invalid md hca hcb hproduct, mul_invalid md hcb hca hproduct', fun hd =>
      ⟨madd_invalid md hca hcb hd sub neg (multiplyAdd_of_no_product md _ hproduct),
        madd_invalid md hcb hca hd sub neg (multiplyAdd_of_no_product md _ hproduct')⟩⟩
  case multiplyAdd =>
    obtain ⟨hcb, hproduct, hproduct'⟩ := product_infinity ha hb
    have hca : Claim.Computed f a := .inr ⟨_, ha⟩
    have hcd : Claim.Computed f d := .inr ⟨_, hd⟩
    have hsum : f.addValues md (.infinity (n != f.negative b)) ((f.value d).addend sub) = f.invalid := by
      rw [hd, addend_opposite]
      exact addValues_opposite_infinities md _
    exact ⟨madd_invalid md hca hcb hcd sub neg ((multiplyAdd_of_infinite_product md _ hproduct).trans hsum),
      madd_invalid md hcb hca hcd sub neg ((multiplyAdd_of_infinite_product md _ hproduct').trans hsum)⟩
  case zeroOverZero => exact div_by_zero md (computed_of_zero ha) ha hb
  case divisionByZero =>
    obtain ⟨m, x, hvalue, -⟩ := plain_value ha
    rw [hvalue, ne_eq, rational_eq_zero_iff] at hne
    exact (div_by_zero md (.inl ha) hvalue hb).trans (if_neg hne)
  case root =>
    rw [sqrt_computed md (.inr ⟨_, ha⟩), ha]
    rfl

/-! ### Infinities (48_fpu_arith.md R553 step 4) -/

/-- An infinite addend, and a product of numbers that is no infinity of the other sign: the infinity of the addend. -/
theorem addValues_infinite_addend {f : FpFormat} (md : FpMode) {p : Nat} (s : Bool) (hp : Claim.Computed f p)
    (hne : f.value p ≠ .infinity (!s)) :
    f.addValues md (f.value p) (.infinity s) = .exact (f.infinity s) := by
  rcases computed_value hp with ⟨m, e, hvalue⟩ | ⟨n', hvalue⟩
  · rw [hvalue]
    rfl
  · have hs : n' = s := by
      rw [hvalue, ne_eq, FpValue.infinity.injEq] at hne
      exact not_not.mp (mt Bool.eq_not.mpr hne)
    rw [hvalue, hs]
    exact addValues_same_infinities md s

section
variable {f : FpFormat} (md : FpMode) {a b d : Nat} {n : Bool} (ha : f.value a = .infinity n)
include ha

/-- An infinity and a number: sums, differences and quotients. -/
theorem infinity_and_number (hb : f.plainNumber b = true) :
    f.add md a b = .exact (f.infinity n) ∧ f.add md b a = .exact (f.infinity n) ∧ f.sub md a b = .exact (f.infinity n) ∧
      f.sub md b a = .exact (f.infinity (!n)) ∧ f.div md a b = .exact (f.infinity (n != f.negative b)) ∧
      f.div md b a = .exact (f.zero (f.negative b != n)) := by
  have hca : Claim.Computed f a := .inr ⟨_, ha⟩
  have hcb : Claim.Computed f b := .inl hb
  obtain ⟨m, e, hvalue, -⟩ := plain_value hb
  rw [add_computed md hca hcb, add_computed md hcb hca, sub_computed md hca hcb, sub_computed md hcb hca, div_computed md hca hcb,
    div_computed md hcb hca, ha, hvalue]
  exact ⟨rfl, rfl, rfl, rfl, rfl, rfl⟩

/-- An infinite product, and its sum with a number or with an infinity of its sign. -/
theorem infinite_product (hb : (f.plainNumber b = true ∧ (f.value b).rational ≠ 0) ∨ ∃ n', f.value b = .infinity n') (sub neg : Bool) :
    f.mul md a b = .exact (f.infinity (n != f.negative b)) ∧ f.mul md b a = .exact (f.infinity (n != f.negative b)) ∧
      (f.plainNumber d = true ∨ f.value d = .infinity ((n != f.negative b) != sub) →
        f.madd sub neg md d a b = .exact (f.infinity ((n != f.negative b) != neg)) ∧
          f.madd sub neg md d b a = .exact (f.infinity ((n != f.negative b) != neg))) := by
  have hca : Claim.Computed f a := .inr ⟨_, ha⟩
  obtain ⟨hcb, hproduct, hproduct'⟩ := product_infinity ha hb
  refine ⟨?_, ?_, fun hd => ?_⟩
  · rw [mul_computed md hca hcb, FpFormat.multiplyValues, hproduct]
    rfl
  · rw [mul_computed md hcb hca, FpFormat.multiplyValues, hproduct']
    rfl
  · have hcd : Claim.Computed f d := hd.imp id fun hd => ⟨_, hd⟩
    have hsum : f.addValues md (.infinity (n != f.negative b)) ((f.value d).addend sub) = .exact (f.infinity (n != f.negative b)) := by
      rcases hd with hplain | hd
      · obtain ⟨m, e, hvalue, -⟩ := plain_value hplain
        rw [hvalue, addend_finite]
        rfl
      · rw [hd, addend_same]
        exact addValues_same_infinities md _
    exact ⟨madd_infinity md hca hcb hcd sub neg BitVec.zero_and ((multiplyAdd_of_infinite_product md _ hproduct).trans hsum),
      madd_infinity md hcb hca hcd sub neg BitVec.zero_and ((multiplyAdd_of_infinite_product md _ hproduct').trans hsum)⟩

/-- An infinite addend with a product of numbers: once rounded the infinity, twice rounded with the Cause bits of the product. -/
theorem infinite_addend (hb : f.plainNumber b = true) (hd : f.plainNumber d = true) (sub neg : Bool) :
    (Config.maddFused = true → f.madd sub neg md a b d = .exact (f.infinity ((n != sub) != neg))) ∧
      (Config.maddFused = false → (f.mul md b d).cause &&& causeE = 0 → f.value (f.mul md b d).bits ≠ .infinity (!(n != sub)) →
        f.madd sub neg md a b d = { cause := (f.mul md b d).cause, bits := f.infinity ((n != sub) != neg) }) := by
  have hca : Claim.Computed f a := .inr ⟨_, ha⟩
  have haddend : (f.value a).addend sub = .infinity (n != sub) := by rw [ha, addend_infinity]
  refine ⟨fun hfused => ?_, fun hfused hE hne => ?_⟩
  · refine madd_infinity md (.inl hb) (.inl hd) hca sub neg BitVec.zero_and ?_
    obtain ⟨m, e, hproduct, -, -⟩ := mul_eq_roundValue md hb hd
    rw [multiplyAdd_fused _ _ _ _ _ hfused, FpFormat.fusedValues, hproduct, haddend]
    rfl
  · refine madd_infinity md (.inl hb) (.inl hd) hca sub neg (mul_valid md hb hd) ?_
    have hsum := addValues_infinite_addend md (n != sub) (mul_bits_computed md hb hd) hne
    have hcause : ∀ c : BitVec 6, 0 ||| c = c := fun c => BitVec.zero_or
    rw [multiplyAdd_unfused _ _ _ _ _ hfused, unfused_of_numbers md hb hd, if_neg (not_not.mpr hE), haddend, hsum]
    exact congrArg (fun c => (⟨c, f.infinity (n != sub)⟩ : FpResult)) (hcause _)

end

theorem infiniteOperands : Claim.InfiniteOperands := by
  unfold Claim.InfiniteOperands
  intro f g md a b d n sub neg ha noCause infinite nb
  have hca : Claim.Computed f a := .inr ⟨_, ha⟩
  refine ⟨infinity_and_number md ha, fun hb => ?sum, fun hb => ?difference, fun hb => infinite_product md ha hb sub neg,
    fun hb hd => infinite_addend md ha hb hd sub neg, ?absolute, ?opposite, fun hn => ?root, ?converted⟩
  case sum =>
    rw [add_computed md hca (.inr ⟨_, hb⟩), ha, hb]
    exact addValues_same_infinities md n
  case difference =>
    rw [sub_computed md hca (.inr ⟨_, hb⟩), ha, hb, FpValue.opposite, Bool.not_not]
    exact addValues_same_infinities md n
  case absolute =>
    rw [abs_computed md hca, withSign_of_infinity ha]
    rfl
  case opposite =>
    rw [neg_computed md hca, withSign_of_infinity ha, (value_infinity ha).1]
    rfl
  case root =>
    rw [sqrt_computed md hca, ha, hn]
    rfl
  case converted =>
    rw [convert_computed md hca, ha]
    rfl

/-- Settles O56: the operand check, the operations on values that are invalid, and those on infinities that are not. -/
theorem fpSpecialOperands : Obligations.FpSpecialOperands := ⟨operandsNotComputed, invalidOperations, infiniteOperands⟩

end Machine
end Sys2Proof
end
